-- ==== Sys2Proof/Word.lean ====
section
/-! DEFINITION. Sys2Proof/Word.lean: the word types of the DS128 and their plainest arithmetic. Widths are those the
manual gives its fields (R3, R4, R98). -/

namespace Sys2Proof

/-- One byte of ring data, of a packet or of a memory. -/
abbrev Byte := BitVec 8
/-- A 16-bit field. -/
abbrev W16 := BitVec 16
/-- A 32-bit register or word. -/
abbrev W32 := BitVec 32
/-- A 64-bit value: a position of R3, a count, a serial. -/
abbrev W64 := BitVec 64
/-- An accumulator of a loop core (R98): 80 bits. -/
abbrev Acc := BitVec 80
/-- A time value of R4, as 96 bits. -/
abbrev Time96 := BitVec 96

/-- Clamp an integer into a range. -/
def clampInt (lo hi x : Int) : Int := if x < lo then lo else if hi < x then hi else x

/-- Round half up of the quotient of two integers, for a positive divisor. -/
def divRound (x : Int) (d : Nat) : Int := (2 * x + d) / (2 * d)

/-- Round a quotient of naturals up. -/
def divCeil (x d : Nat) : Nat := if d = 0 then 0 else (x + d - 1) / d

/-- Saturating increment of a counter of a given largest value. -/
def satAdd (top x n : Nat) : Nat := min top (x + n)

/-- Wrap an integer into [-half, half). -/
def wrapHalf (x : Int) (full : Nat) : Int :=
  if full = 0 then x else (x + full / 2) % full - full / 2

end Sys2Proof
end

