-- ==== Sys2Proof/Machine/Bytes.lean ====
section
/-! DEFINITION. Sys2Proof/Machine/Bytes.lean: byte order, fields of byte records, bit fields of numbers and the cyclic redundancy
checks. Ring data and command packets are little-endian (R2). -/

namespace Sys2Proof.Machine

/-- Put a value before the first one of a list that it may stand before. -/
def insertBy {α : Type} (f : α → α → Bool) (x : α) : List α → List α
  | [] => [x]
  | y :: ys => if f x y then x :: y :: ys else y :: insertBy f x ys

/-- A list in the order of `f`, equals as they stood. -/
def orderBy {α : Type} (f : α → α → Bool) : List α → List α
  | [] => []
  | x :: xs => insertBy f x (orderBy f xs)

/-- `n` bytes of a number, least significant first (R2). -/
def le : Nat → Nat → List Byte
  | 0, _ => []
  | n + 1, v => BitVec.ofNat 8 v :: le n (v / 256)

/-- The number that bytes spell, least significant first (R2). -/
def leNat : List Byte → Nat
  | [] => 0
  | b :: bs => b.toNat + 256 * leNat bs

/-- `n` bytes of a signed number in two's complement. -/
def leInt (n : Nat) (v : Int) : List Byte := le n (v % (256 ^ n : Nat)).toNat

/-- A signed reading of `w` bits. -/
def toSigned (w : Nat) (v : Nat) : Int :=
  let r := v % 2 ^ w
  if w ≠ 0 ∧ 2 ^ (w - 1) ≤ r then (r : Int) - (2 ^ w : Nat) else r

/-- The two's complement of a number in `w` bits. -/
def ofSigned (w : Nat) (v : Int) : Nat := (v % (2 ^ w : Nat)).toNat

/-- `n` bytes of a record from an offset; bytes beyond the end read zero. -/
def slice (b : List Byte) (off n : Nat) : List Byte :=
  let x := (b.drop off).take n
  x ++ List.replicate (n - x.length) 0

/-- An unsigned field of `n` bytes at an offset. -/
def fld (b : List Byte) (off n : Nat) : Nat := leNat ((b.drop off).take n)

/-- A signed field of `n` bytes at an offset. -/
def fldI (b : List Byte) (off n : Nat) : Int := toSigned (8 * n) (fld b off n)

/-- Bits [hi:lo] of a number. -/
def bits (v hi lo : Nat) : Nat := (v / 2 ^ lo) % 2 ^ (hi + 1 - lo)

/-- One bit of a number. -/
def bit (v i : Nat) : Bool := v / 2 ^ i % 2 == 1

/-- Replace bits [hi:lo] of a number. -/
def setBits (v hi lo x : Nat) : Nat :=
  v - bits v hi lo * 2 ^ lo + (x % 2 ^ (hi + 1 - lo)) * 2 ^ lo

/-- Replace one bit of a number. -/
def setBit (v i : Nat) (b : Bool) : Nat := setBits v i i (if b then 1 else 0)

/-- 0 or 1. -/
def b2n (b : Bool) : Nat := if b then 1 else 0

/-- Replace bytes of a record from an offset on, keeping its length. -/
def patch (b : List Byte) (off : Nat) (x : List Byte) : List Byte :=
  (b.take off ++ x ++ b.drop (off + x.length)).take b.length

/-- Every byte of a range is zero. -/
def zeroBytes (b : List Byte) (off n : Nat) : Bool := ((b.drop off).take n).all (· == 0)

/-- The bytes a number spells, most significant first (network order). -/
def be (n v : Nat) : List Byte := (le n v).reverse

/-- The number bytes spell, most significant first. -/
def beNat (b : List Byte) : Nat := leNat b.reverse

/-- Reverse the low `n` bits of a number. -/
def bitRev : Nat → Nat → Nat
  | 0, _ => 0
  | n + 1, v => (v % 2) * 2 ^ n + bitRev n (v / 2)

/-- Eight steps of a reflected CRC register. -/
def crcStep (poly : Nat) : Nat → Nat → Nat
  | 0, c => c
  | n + 1, c => crcStep poly n (if c % 2 = 1 then (c / 2) ^^^ poly else c / 2)

/-- A reflected 32-bit CRC over bytes, register preset to ones and inverted at the end; `poly` is given reflected. -/
def crcReflected (poly : Nat) (b : List Byte) : Nat :=
  (b.foldl (fun c x => crcStep poly 8 (c ^^^ x.toNat)) 0xFFFFFFFF) ^^^ 0xFFFFFFFF

end Sys2Proof.Machine
end

