-- ==== Sys2Proof/Machine/LoopWords.lean ====
section
/-! DEFINITION. Sys2Proof/Machine/LoopWords.lean: the instruction words of a loop core: the op values of Table 4.7 and the place of op in
each format of Table 4.6 (R115). -/

namespace Sys2Proof.Machine

/-- The instructions of Table 4.7; a register form and its immediate form are one. -/
inductive LoopOp where
  | add | sub | adds | subs | and | or | xor | shl | shr | shra | shls | min | max | abs | neg | cls | slt | sltu | mul | mulf | mulhu
  | ldw | ldh | ldhu | ldb | ldbu | stw | sth | stb | ld2 | st2
  | mac2 | msu2 | mpy2 | macx2 | ldp2
  | mac | msu | mpy | addac | subac | clrac | negac | absac | shac | mvac | mvda | mvacl | mvacm | mvach
  | br | call | beqz | bnez | bltz | bgez | bgtz | blez | bfs | bfc | jr | ret
  | repi | repr
  | hysb | hysv | hyst | csc | crot | cvec
  | mova | movda | movm | movdm | adda | movc | movtc | movde | moved
  | eset | erh | ehead | efix | eadd | esub | shle | mvace
  | ldi | ldia | ldim
  | nop | tend | brk
  deriving DecidableEq, Repr

/-- Every instruction of Table 4.7, in its order. -/
def LoopOp.all : List LoopOp :=
  [.add, .sub, .adds, .subs, .and, .or, .xor, .shl, .shr, .shra, .shls, .min, .max, .abs, .neg, .cls, .slt, .sltu, .mul, .mulf, .mulhu,
   .ldw, .ldh, .ldhu, .ldb, .ldbu, .stw, .sth, .stb, .ld2, .st2,
   .mac2, .msu2, .mpy2, .macx2, .ldp2,
   .mac, .msu, .mpy, .addac, .subac, .clrac, .negac, .absac, .shac, .mvac, .mvda, .mvacl, .mvacm, .mvach,
   .br, .call, .beqz, .bnez, .bltz, .bgez, .bgtz, .blez, .bfs, .bfc, .jr, .ret,
   .repi, .repr,
   .hysb, .hysv, .hyst, .csc, .crot, .cvec,
   .mova, .movda, .movm, .movdm, .adda, .movc, .movtc, .movde, .moved,
   .eset, .erh, .ehead, .efix, .eadd, .esub, .shle, .mvace,
   .ldi, .ldia, .ldim,
   .nop, .tend, .brk]

/-- Format and op of an instruction (Table 4.7). -/
def LoopOp.code : LoopOp → Nat × Nat
  | .add => (0, 0)
  | .sub => (0, 1)
  | .adds => (0, 2)
  | .subs => (0, 3)
  | .and => (0, 4)
  | .or => (0, 5)
  | .xor => (0, 6)
  | .shl => (0, 7)
  | .shr => (0, 8)
  | .shra => (0, 9)
  | .shls => (0, 10)
  | .min => (0, 11)
  | .max => (0, 12)
  | .abs => (0, 13)
  | .neg => (0, 14)
  | .cls => (0, 15)
  | .slt => (0, 16)
  | .sltu => (0, 17)
  | .mul => (0, 18)
  | .mulf => (0, 19)
  | .mulhu => (0, 20)
  | .ldw => (2, 0)
  | .ldh => (2, 1)
  | .ldhu => (2, 2)
  | .ldb => (2, 3)
  | .ldbu => (2, 4)
  | .stw => (2, 5)
  | .sth => (2, 6)
  | .stb => (2, 7)
  | .ld2 => (2, 8)
  | .st2 => (2, 9)
  | .mac2 => (3, 0)
  | .msu2 => (3, 1)
  | .mpy2 => (3, 2)
  | .macx2 => (3, 3)
  | .ldp2 => (3, 7)
  | .mac => (4, 0)
  | .msu => (4, 1)
  | .mpy => (4, 2)
  | .addac => (4, 3)
  | .subac => (4, 4)
  | .clrac => (4, 5)
  | .negac => (4, 6)
  | .absac => (4, 7)
  | .shac => (4, 8)
  | .mvac => (4, 9)
  | .mvda => (4, 10)
  | .mvacl => (4, 11)
  | .mvacm => (4, 12)
  | .mvach => (4, 13)
  | .br => (5, 0)
  | .call => (5, 1)
  | .beqz => (5, 2)
  | .bnez => (5, 3)
  | .bltz => (5, 4)
  | .bgez => (5, 5)
  | .bgtz => (5, 6)
  | .blez => (5, 7)
  | .bfs => (5, 8)
  | .bfc => (5, 9)
  | .jr => (5, 10)
  | .ret => (5, 11)
  | .repi => (6, 0)
  | .repr => (6, 1)
  | .hysb => (7, 0)
  | .hysv => (7, 1)
  | .hyst => (7, 2)
  | .csc => (7, 8)
  | .crot => (7, 9)
  | .cvec => (7, 10)
  | .mova => (8, 0)
  | .movda => (8, 1)
  | .movm => (8, 2)
  | .movdm => (8, 3)
  | .adda => (8, 4)
  | .movc => (8, 5)
  | .movtc => (8, 6)
  | .movde => (8, 7)
  | .moved => (8, 8)
  | .eset => (9, 0)
  | .erh => (9, 1)
  | .ehead => (9, 2)
  | .efix => (9, 3)
  | .eadd => (9, 4)
  | .esub => (9, 5)
  | .shle => (9, 6)
  | .mvace => (9, 7)
  | .ldi => (10, 0)
  | .ldia => (10, 1)
  | .ldim => (10, 2)
  | .nop => (11, 0)
  | .tend => (11, 1)
  | .brk => (11, 2)

/-- The instructions with an immediate form, format 0x1 with the op of format 0x0. -/
def LoopOp.hasImm : LoopOp → Bool
  | .add | .adds | .and | .or | .xor | .shl | .shr | .shra | .shls | .slt | .sltu => true
  | _ => false

/-- The format of a form. -/
def LoopOp.format (o : LoopOp) (imm : Bool) : Nat := if imm then 1 else o.code.1

/-- The bits below op (Table 4.6): op ends at bit 22 in most formats. -/
def opLow (format : Nat) : Nat :=
  match format with
  | 2 | 5 => 24
  | 3 => 25
  | 6 => 26
  | _ => 22

/-- The first word of an instruction, from the bits below its op. -/
def LoopOp.word {n : Nat} (o : LoopOp) (imm : Bool) (w : BitVec n) : W32 :=
  BitVec.ofNat 32 (o.format imm * 2 ^ 28 + o.code.2 * 2 ^ n + w.toNat)

/-- The instruction a word names by its format and op, and whether it is an immediate form; none for formats 0xC to 0xF and the op
values that Table 4.7 does not list (R115). -/
def LoopOp.ofWord (w : W32) : Option (LoopOp × Bool) :=
  let f := w.toNat / 2 ^ 28
  let op := w.toNat % 2 ^ 28 / 2 ^ opLow f
  if f = 1 then (LoopOp.all.find? (fun o => o.hasImm && o.code == (0, op))).map (·, true)
  else (LoopOp.all.find? (fun o => o.code == (f, op))).map (·, false)

end Sys2Proof.Machine
end

