-- ==== Sys2Proof/Machine/Tbl.lean ====
section
/-! DEFINITION. Sys2Proof/Machine/Tbl.lean: the one shape of every sparse store of the model (memories, register file,
axes, nodes, records): a list of key and value pairs in ONE canonical form: keys strictly rising, and no entry equal to
what an unlisted key reads as. -/

namespace Sys2Proof.Machine

/-- A sparse table: what an unlisted key reads as is the `d` given to every operation. -/
abbrev Tbl (α : Type) := List (Nat × α)

/-- The value at a key; `d` where the table lists none. -/
def Tbl.get {α : Type} (d : α) : Tbl α → Nat → α
  | [], _ => d
  | (k, v) :: t, i => if k = i then v else Tbl.get d t i

/-- Take the entries of a key out. -/
def Tbl.erase {α : Type} : Tbl α → Nat → Tbl α
  | [], _ => []
  | (k, v) :: t, i => if k = i then Tbl.erase t i else (k, v) :: Tbl.erase t i

/-- Put an entry at its place. -/
def Tbl.insert {α : Type} : Tbl α → Nat → α → Tbl α
  | [], i, x => [(i, x)]
  | (k, v) :: t, i, x =>
    if k = i then (i, x) :: t else if i < k then (i, x) :: (k, v) :: t else (k, v) :: Tbl.insert t i x

/-- Write a value: writing what an unlisted key reads as takes the entry out, so equal tables are equal lists. -/
def Tbl.set {α : Type} [DecidableEq α] (d : α) (t : Tbl α) (i : Nat) (x : α) : Tbl α :=
  if x = d then Tbl.erase t i else Tbl.insert t i x

/-- Every listed key lies above a bound. -/
def Tbl.above {α : Type} (b : Nat) : Tbl α → Bool
  | [] => true
  | (k, _) :: t => decide (b < k) && Tbl.above b t

/-- The canonical form, for a table whose unlisted key `k` reads as `d k`. -/
def Tbl.wf {α : Type} [DecidableEq α] (d : Nat → α) : Tbl α → Bool
  | [] => true
  | (k, v) :: t => decide (v ≠ d k) && Tbl.above k t && Tbl.wf d t

/-- Apply a function to one entry. -/
def Tbl.modify {α : Type} [DecidableEq α] (d : α) (t : Tbl α) (i : Nat) (f : α → α) : Tbl α :=
  Tbl.set d t i (f (Tbl.get d t i))

/-- Take out the entries that equal what an unlisted key reads as. -/
def Tbl.canon {α : Type} [DecidableEq α] (d : α) (t : Tbl α) : Tbl α := t.filter (fun e => e.2 != d)

/-- Keep the entries whose key passes. -/
def Tbl.keep {α : Type} (p : Nat → Bool) (t : Tbl α) : Tbl α := t.filter (fun e => p e.1)

/-- A memory of bytes: an unlisted byte reads 0 (DESIGN CHOICE, log 2: the manual states no contents at power-on). -/
abbrev Mem := Tbl Byte

/-- One byte of a memory. -/
def Mem.read (m : Mem) (a : Nat) : Byte := Tbl.get 0 m a

/-- Write one byte. -/
def Mem.write (m : Mem) (a : Nat) (b : Byte) : Mem := Tbl.set 0 m a b

/-- The canonical form of a memory: addresses strictly rising, and no entry that reads as an unlisted byte does. -/
def Mem.wf (m : Mem) : Bool := Tbl.wf (fun _ => (0 : Byte)) m

/-- `n` bytes from an address. -/
def Mem.readN (m : Mem) (a : Nat) : Nat → List Byte
  | 0 => []
  | n + 1 => m.read a :: Mem.readN m (a + 1) n

/-- Write bytes from an address on. -/
def Mem.writeN (m : Mem) (a : Nat) : List Byte → Mem
  | [] => m
  | b :: bs => Mem.writeN (m.write a b) (a + 1) bs

end Sys2Proof.Machine
end

