-- ==== Sys2Proof/Machine/Recursive.lean ====
section
/-! DEFINITION. Sys2Proof/Machine/Recursive.lean: the recursive state of an axis, a virtual master and a group: what a task commits
(R27), and what a RECORD of the Flue carries (R366). Numbers that the manual gives a unit are naturals or integers in that
unit. -/

namespace Sys2Proof.Machine


/-- The recursive feedback state of a servo axis (R150). Positions of the history are fused counts with 30 fraction bits;
FB_STAT is in the register file. -/
structure Fb where
  /-- A sample has been processed, and the QCNT of the last one (R154). -/
  seen : Bool := false
  lastQ : Nat := 0
  /-- The extended count, and the fused count of the last processed sample. -/
  count : Int := 0
  fused : Int := 0
  /-- What index trims and re-references have subtracted from the count, with 30 fraction bits (R163; log 22). -/
  trim : Int := 0
  /-- Committed positions with their cycles, newest first, at most 64 (R167). -/
  hist : List (Nat × Int) := []
  /-- Standstill (R168): its anchor, the direction of the last counted change and the cycle of the first. -/
  still : Bool := true
  anchor : Int := 0
  changeDir : Int := 0
  changeCycle : Nat := 0
  /-- The window start (R167), the direction of travel and its extreme (R169). -/
  winStart : Nat := 0
  travel : Int := 0
  extreme : Int := 0
  extremeCycle : Nat := 0
  /-- Speed in position LSB per second, and the axis position at T_in. -/
  speed : Int := 0
  pos : Int := 0
  /-- The position offset set by homing (R156; class W). -/
  offset : Int := 0
  theta : Nat := 0
  /-- Consecutive misses (R157) and invalid Hall samples (R166), and the last Hall code. -/
  misses : Nat := 0
  hallBad : Nat := 0
  lastHall : Nat := 0
  hallSeen : Bool := false
  /-- COMM_STATE 1 and 2: an angle, and the fused count at which it held (Table 6.1). -/
  commAngle : Nat := 0
  commAt : Int := 0
  /-- The alignment anchor (R165, R189). -/
  alignAt : Option Int := none
  /-- The index latch recorded at the last commit (R162): QIDX, ISIN, ICOS. -/
  index : Nat × Nat × Nat := (0, 0, 0)
  /-- Cycles beyond the envelope margins, of the encoder and of the motor set (R160, R187). -/
  beyond : Nat := 0
  motBeyond : Nat := 0
  /-- The axis position at an index of the last sample, if it had one (R236). -/
  idxAt : Option Int := none
  /-- Consecutive cycles with PS.INHIBIT (R171). -/
  inhibited : Nat := 0
  /-- The last temperature, in 1/16 degrees (R174). -/
  temp : Int := 0
  /-- The last sample's count step lay within its limit (R471). -/
  stepOk : Bool := true
  /-- A calibration or motor set was given, and the tracked set is copied from it at the next task (R159). -/
  calFresh : Bool := true
  motFresh : Bool := true
  deriving DecidableEq, Repr

/-- An encoder emulator (R172, R173). Targets are emulated counts as numerators over the scale of the source; EMU_STAT and
EMU_COUNT are in the register file. -/
structure Emu where
  /-- From tick n+1 to n+2 the count goes from `start` to `target`; `next` is the target committed in the cycle in progress. -/
  start : Int := 0
  target : Int := 0
  next : Int := 0
  /-- The emulated count. -/
  count : Int := 0
  /-- The quadrature state of A and B, 0 to 3. -/
  phase : Nat := 0
  /-- System clock of the last edge. -/
  lastEdge : Nat := 0
  deriving DecidableEq, Repr



/-- The recursive state of the standard servo program (R182 to R198) and the frame builder's record of an axis (R206,
R207). -/
structure Servo where
  /-- Speed-step output, the held speed set-point in LSB per second, and the integrator (R198), in 2^-24 RATED_T times 2^8
  times 10^8 times LSB per unit. -/
  out : Int := 0
  wRef : Int := 0
  integ : Int := 0
  /-- The cycle of the last committed speed step. -/
  lastSpd : Option Nat := none
  /-- T* of the last commit, in 2^-24 RATED_T, and whether it was limited, with its sign. -/
  tdem : Int := 0
  lim : Int := 0
  /-- CMODE that the last commit ran. -/
  cmode : Nat := 0
  /-- The last state of the last command, the transitions counted and the cycles of the block (R196). -/
  lastState : Nat := 0
  /-- The last HYSB code. -/
  code : Nat := 0
  /-- UDC codes of the last 16 samples, newest first (R190). -/
  udcs : List Nat := []
  /-- The motor set's operating point lies beyond its margins (R187). -/
  motStale : Bool := false
  trans : Nat := 0
  cycles : Nat := 0
  /-- Modelled winding temperature, in 2^-16 degrees, none before the first step (R188). -/
  heat : Option Int := none
  warned : Bool := false
  /-- Elapsed alignment time in 10 ns, while one runs (R189). -/
  align : Option Nat := none
  /-- The last accepted uplink's PS byte, and the consecutive cases of Table 7.4's last row. -/
  ps : Nat := 0
  inhCases : Nat := 0
  /-- The last frames in which APPLY was sent, newest first (R206). -/
  applied : List Nat := []
  /-- R207, in 2^-16 ns of TB1: at 0 to 2 each leg's t0, none before the first refreshing interval; at 4 to 6 the beginning of a
  refreshing interval that the last command leaves in progress. -/
  boot : Tbl (Option Nat) := []
  deriving DecidableEq, Repr


/-- An axis's entry of the position table (R222), with the T_in instant of its input frame. -/
structure PosEntry where
  valid : Bool := false
  cycle : Nat := 0
  setPoint : Int := 0
  pos : Int := 0
  vel : Int := 0
  /-- T_in in TB1, 2^-16 ns. -/
  tIn : Nat := 0
  deriving DecidableEq, Repr



/-- A motion command of Table 8.12 that waits for the first cycle that begins after its acceptance (R212). -/
inductive MotionCmd where
  | moveAbs (target : Int) (relative : Bool)
  | moveVel (vel : Int)
  | stop (quick : Bool)
  | factor (k : Int) (len : Nat)
  | cam (table : Nat)
  | home
  | group (g : Nat)
  deriving DecidableEq, Repr

/-- What the profile generator works toward (R214 to R216). -/
inductive Goal where
  /-- Standstill at the set-point. -/
  | hold
  /-- A target position. -/
  | target (p : Int)
  /-- A speed, in LSB per second. -/
  | speed (v : Int)
  /-- Standstill, under the profile limits or the quick-stop limits. -/
  | stop (quick : Bool)
  deriving DecidableEq, Repr

/-- The filter of an input reference (R218, R219). -/
structure InFilter where
  count : Nat := 0
  active : Bool := false
  /-- Position at the first raw sample of the run under way. -/
  runPos : Int := 0
  /-- Position recorded for the last filtered change. -/
  pos : Int := 0
  changed : Bool := false
  /-- A change that homing has not looked at yet. -/
  news : Bool := false
  /-- TB1 instants of changes within the window, in 10 ns. -/
  times : List Nat := []
  deriving DecidableEq, Repr

/-- The follower state of GEAR and CAM (R227 to R235). -/
structure Follow where
  pRef : Int := 0
  mRef : Int := 0
  k0 : Int := 0
  k : Int := 0
  target : Int := 0
  len : Nat := 0
  /-- The cam table, the master position at CAM_START's boundary, and a table that waits for a boundary. -/
  table : Option Nat := none
  mStart : Int := 0
  camNext : Option Nat := none
  /-- The master, NUM and DEN in use. -/
  vm : Nat := 0
  num : Int := 0
  den : Nat := 1
  /-- Corrections under way (R234), oldest first: size, the master position at which each began, and what has been added. -/
  corrs : List (Int × Int × Int) := []
  /-- Position of the last accepted mark or missed period, and consecutive misses (R235). -/
  lastMark : Int := 0
  misses : Nat := 0
  /-- The master position of the last task. -/
  m : Int := 0
  deriving DecidableEq, Repr

/-- The homing sequence (R236 to R238). -/
structure Homing where
  method : Nat := 0
  /-- 1 search, 3 creep, 4 index, 5 final. -/
  step : Nat := 1
  /-- The direction of the search, 1 or -1, and the limits met so far. -/
  dir : Int := 1
  limits : Nat := 0
  /-- Creeping back in HDIR, because the switch was lost before the speed had settled (R237). -/
  again : Bool := false
  travel : Int := 0
  /-- Time for which T* has stood at its limit, in 10 ns (method 5). -/
  stood : Nat := 0
  /-- Latched: the stop or the final move is under way. -/
  latched : Bool := false
  deriving DecidableEq, Repr

/-- The motion state of an axis or virtual master (R211). HOMED and its like are in the register file. -/
structure Motion where
  /-- MODE (Table 8.1); MO_STAT.MODE is a view of it. -/
  mode : Nat := 0
  /-- Set-point, speed and acceleration, in position LSB and seconds. -/
  p : Int := 0
  v : Int := 0
  a : Int := 0
  goal : Goal := .hold
  cmds : List (Nat × MotionCmd) := []
  /-- The last move has ended on its target (R216). -/
  landed : Bool := false
  /-- LIM_POS, LIM_NEG and HOME_IN. -/
  filters : Tbl InFilter := []
  follow : Follow := {}
  homing : Option Homing := none
  /-- The position and speed at which a group move began, by its group (R240). -/
  groupStart : Int := 0
  groupDelta : Int := 0
  deriving DecidableEq, Repr

/-- A stepper axis (R242 to R246). -/
structure Stepper where
  /-- Residual of the angle step, in 2^-32 electrical turn. -/
  residual : Int := 0
  /-- What homing has added to the commanded position, which the electrical angle leaves out (R236; log 26). -/
  offset : Int := 0
  delta : Int := 0
  /-- Latest uplink values: IA, IB, STAT, UDC. -/
  ia : Int := 0
  ib : Int := 0
  stat : Nat := 0
  udc : Nat := 0
  /-- UDC filtered over 16 updates: the last values. -/
  udcs : List Nat := []
  /-- I* in 1/256 of IR. -/
  amp : Nat := 0
  trimA : Int := 0
  trimB : Int := 0
  stalls : Nat := 0
  /-- ENABLE without INHIBIT was sent, in the last updates, newest first. -/
  enabled : List Bool := []
  deriving DecidableEq, Repr

/-- An entry of the master table (R221): the cycle n for whose L(n+2) it was computed, position, speed and acceleration. -/
structure VmEntry where
  cycle : Option Nat := none
  p : Int := 0
  v : Int := 0
  a : Int := 0
  deriving DecidableEq, Repr

/-- A virtual master's plant shaft (R224 to R226) and its entries of the master table, the last two. -/
structure Vm where
  /-- Anchored: plant instant in 2^-16 ns, position, speed. -/
  t0 : Option Nat := none
  p0 : Int := 0
  v0 : Int := 0
  /-- Ramps, oldest first: plant instant, new speed in LSB per second, and the plant instant at which the ramp ends. -/
  ramps : List (Nat × Int × Nat) := []
  entry : VmEntry := {}
  prev : VmEntry := {}
  lost : Bool := false
  deriving DecidableEq, Repr

/-- A coordination group (R239 to R241). -/
structure Group where
  members : List Nat := []
  die : Nat := 0
  desc : Nat := 0
  /-- The path parameter as a 64-bit fraction, with its rates, and the limits of the move. -/
  path : Nat := 0
  /-- The cycle that committed `path`, and the path parameter and its rates before it. -/
  cycle : Option Nat := none
  prevPath : Nat := 0
  pathV : Int := 0
  pathA : Int := 0
  prevV : Int := 0
  prevA : Int := 0
  dLead : Nat := 0
  vLead : Nat := 0
  aLead : Nat := 0
  jLead : Nat := 0
  stopping : Bool := false
  quick : Bool := false
  deriving DecidableEq, Repr

/-- A cam table (R230, R231). -/
structure Cam where
  size : Nat := 0
  oneShot : Bool := false
  rise : Int := 0
  points : Tbl Int := []
  deriving DecidableEq, Repr


/-- What the standard program commits for one axis: its recursive state and its entry of the position table (R27, R366). -/
structure AxisRec where
  axis : Nat
  fb : Fb := {}
  servo : Servo := {}
  motion : Motion := {}
  stepper : Stepper := {}
  pos : PosEntry := {}
  deriving DecidableEq, Repr

/-- What the standard program commits for a virtual master, with the profile state of its motion, or a group. -/
inductive ShaftRec where
  | vm (v : Nat) (x : Vm) (m : Motion) (pos : PosEntry)
  | group (g : Nat) (x : Group)
  deriving DecidableEq, Repr

end Sys2Proof.Machine
end

