-- ==== Sys2Proof/Syntax.lean ====
section
/-! DEFINITION. Sys2Proof/Syntax.lean: the commands of the block, one constructor per row of the table of commands, and the
types of their operands. An operand is what the sender of the command supplies: a packet of a host, a frame from a link,
the levels at a pin. -/

namespace Sys2Proof

/-- The ports a command packet comes in on (Table 14.1). -/
inductive Port where
  | pcie0 | pcie1 | eth0 | eth1 | sspi | flue
  deriving DecidableEq, Repr

/-- A command packet that passed the checks of R388: the header fields of Table 14.4 that a command uses, the source
address and source port of its datagram (UDP only), and the parameter bytes. The opcode is the row's own. -/
structure Pkt where
  port : Port
  addr : Nat := 0
  udpPort : Nat := 0
  ctx : Nat := 0
  flags : Nat := 0
  seq : Nat := 0
  session : Nat := 0
  ack : Nat := 0
  params : List Byte := []
  deriving DecidableEq, Repr


/-- The base address registers of an endpoint (R394). -/
inductive Bar where
  | bar0 | bar2 | bar4
  deriving DecidableEq, Repr

/-- What a receiver reads of a frame's header and trailer (Tables 2.4 and 2.5), and whether their checks hold. -/
structure FrameHdr where
  hcrcOk : Bool
  ver : Nat := 2
  flags : Nat := 0
  mode : Nat := 0
  src : Nat := 0
  cycle : Nat
  tickS : Nat := 0
  tickNs : Nat := 0
  loopAddr : Nat := 0
  tcrcOk : Bool := true
  ofsCorr : Int := 0
  rateCorr : Int := 0
  switchCycle : Nat := 0xFFFFFFFF
  deriving DecidableEq, Repr



/-- An uplink segment of a returned copy: which frame, which segment of its layout (0 is the roll-call window of a kindling
frame), the check of its CRC, ULF, the uplink area, and its arrival in 10 ns after the tick (R22, R57). -/
structure SegCopy where
  cycle : Nat
  index : Nat
  crcOk : Bool := true
  ulf : Nat := 1
  data : List Byte := []
  arr : Nat := 0
  deriving DecidableEq, Repr

/-- What a RECORD of the Flue says became of a task (R366). -/
inductive Outcome where
  | commit | abort | trap
  deriving DecidableEq, Repr

/-- A TICK message of the Flue (Table 13.1): MODE and trailer of the frame, the time table and the field table, the fault
class of every axis that has one, and the marks presented to each axis. -/
structure FlueTick where
  cycle : Nat
  hdr : FrameHdr
  timeTable : List Byte
  fieldTable : List Byte
  classes : List (Nat × Nat) := []
  marks : List (Nat × List Nat) := []
  deriving DecidableEq, Repr

/-- A RECORD message of the Flue: the outcome of a task, its staged commands, its written state-view lines, its queued shared
stores, and what the standard program committed. -/
structure FlueRecord where
  cycle : Nat
  die : Nat
  desc : Nat
  outcome : Outcome
  cmds : List (List Byte) := []
  lines : List (Nat × List Byte) := []
  stores : List (Nat × Byte) := []
  axes : List Machine.AxisRec := []
  shafts : List Machine.ShaftRec := []
  deriving DecidableEq, Repr

/-- The state that a joining standby has copied from its active (R373): state-view lines by core, bytes of shared SRAM by die, and
the recursive state behind the tables of R222. -/
structure JoinCopy where
  lines : List (Nat × Nat × List Byte) := []
  stores : List (Nat × Nat × Byte) := []
  axes : List Machine.AxisRec := []
  shafts : List Machine.ShaftRec := []
  deriving DecidableEq, Repr

/-- What a kindling or cyclic frame of another head shows of its sender: the rank of its roll-call window, and its TB1 in
2^-16 ns (R64, R65). -/
structure HeadRank where
  prio : Nat
  serial : Nat
  tb1 : Nat := 0
  /-- The versions and the safety-set CRC that R373 compares. -/
  images : List Nat := []
  deriving DecidableEq, Repr

/-- What HC7 traffic brings over the Flue (Table 13.1, R371): a forwarded command with its opcode, the acknowledgement of the
oldest forwarded one, or the partner's SYNC. -/
inductive FlueConfig where
  | command (op : Nat) (p : Pkt)
  | ack
  | sync (v : Fin 5)
  deriving DecidableEq, Repr

/-- What the SECDED check of a core's memories finds while an instruction issues (R105). -/
inductive Ecc where
  | clean | corrected | dataError | progError
  deriving DecidableEq, Repr

/-- The issue of one instruction on a loop core: which core, and what its memories' checks find. -/
structure Issue where
  core : Fin 64
  ecc : Ecc := .clean
  deriving DecidableEq, Repr


/-- A segment at the place of one of a node's own, as a passing copy brings it (R52). -/
structure NodeSeg where
  ty : Nat
  addrOk : Bool := true
  crcOk : Bool := true
  dlf : Nat := 0
  down : List Byte := []
  deriving DecidableEq, Repr

/-- A mailbox segment of a passing copy: ADDR, its data bytes, whether ULF.VALID is already set, and its downlink area. -/
structure NodeMail where
  addr : Nat
  size : Nat
  crcOk : Bool := true
  taken : Bool := false
  down : List Byte := []
  deriving DecidableEq, Repr

/-- A copy of a frame as it reaches a node: whether it begins with the Clanor start block, its header and trailer, its arrival after
TICK on the node's clock in 2^-16 ns, and the segments that concern the node. -/
structure NodeCopy where
  clanor : Bool := true
  hdr : FrameHdr
  arr : Int := 0
  segs : List NodeSeg := []
  mails : List NodeMail := []
  deriving DecidableEq, Repr


/-- Why no command comes of a packet (R388, R393): its CRC, another check of R388, or an opcode outside the index. -/
inductive PacketFault where
  | crc | frame | opcode
  deriving DecidableEq, Repr

/-- A fragment of a datagram (R399): the first, the one that completes it, or 10 ms without completion. -/
inductive Fragment where
  | first | last | late
  deriving DecidableEq, Repr


/-- What PD0 and the boot ROM find when a boot starts (R433, R438, R439, R462): how long RESET_N was low where it was, in ms; the time for which TB0
ran on the fallback oscillator, in ms; the HMP image of the slot in force, and of the other slot, passes its checks. -/
structure BootFacts where
  lowMs : Option Nat := none
  fallbackMs : Nat := 0
  inForce : Bool := true
  other : Bool := true
  deriving DecidableEq, Repr

/-- What the monitors measure in a second (R442, R444): the worst slack of each die and the slack of each loop core, in ps, the latencies of the ring
ports in 0.01 ns, the junction temperatures in 1/16 °C, and VCORE in mV. -/
structure HealthSample where
  slack : List Nat
  cores : List Nat
  ports : Nat × Nat
  tj : List Int
  mv : Nat
  deriving DecidableEq, Repr


/-- One constructor per row of the table of commands; each operand is what the sender supplies. -/
inductive Instr where
  /-- TICK (R14). -/
  | tick
  /-- SEGMENT_DEPARTURE (R21). -/
  | segmentDeparture (index : Nat)
  /-- SLOT_CUTOFF (R146). -/
  | slotCutoff (die : Fin 4) (desc : Fin 4096)
  /-- TASK_COMMIT (R145). -/
  | taskCommit (core : Fin 64) (std : Bool)
  /-- FRAME_RETURN (R57). -/
  | frameReturn (port : Fin 2) (h : FrameHdr) (arrival : Nat)
  /-- SEGMENT_ARRIVAL (R22). -/
  | segmentArrival (port : Fin 2) (c : SegCopy)
  /-- MAILBOX_MESSAGE_RX (R76). -/
  | mailboxMessageRx (addr : Fin 255)
  /-- IDENT_TIMEOUT (R70). -/
  | identTimeout (addr : Fin 255)
  /-- DELTA_TIMEOUT (R73). -/
  | deltaTimeout (addr : Fin 255)
  /-- DELAY_POLL (R73). -/
  | delayPoll (addr : Fin 255)
  /-- NODE_GONE (R74). -/
  | nodeGone (addr : Fin 255)
  /-- KEEPER_READMIT (R93). -/
  | keeperReadmit (addr : Fin 255)
  /-- INPUT_LAG_END (R42). -/
  | inputLagEnd
  /-- PORT_LINK_DOWN (R34). -/
  | portLinkDown (port : Fin 2) (hiBer : Bool)
  /-- PORT_LINK_UP (R34). -/
  | portLinkUp (port : Fin 2)
  /-- LISTEN_TIMEOUT (R62). -/
  | listenTimeout
  /-- KINDLING_FRAME_RX (R64). -/
  | kindlingFrameRx (port : Fin 2) (h : FrameHdr) (rank : HeadRank)
  /-- KINDLING_TICK (R63). -/
  | kindlingTick
  /-- KINDLE_COMPLETE (R61). -/
  | kindleComplete (topo : Fin 3)
  /-- NO_PARTNER_TIMEOUT (R65). -/
  | noPartnerTimeout
  /-- ROLL_CALL_COMPLETE (R70). -/
  | rollCallComplete
  /-- SWITCH_DECISION (R81). -/
  | switchDecision
  /-- SWITCH_TICK (R82). -/
  | switchTick
  /-- NODE_FRAME_RX (R52). -/
  | nodeFrameRx (node : Nat) (port : Fin 2) (c : NodeCopy)
  /-- NODE_KINDLING_ACCEPT (R66). -/
  | nodeKindlingAccept (node : Nat) (cycle : Nat) (prio : Nat) (serial : Nat)
  /-- NODE_LOOP_BACK (R38). -/
  | nodeLoopBack (node : Nat) (port : Fin 2)
  /-- NODE_LOOP_END (R40). -/
  | nodeLoopEnd (node : Nat) (port : Fin 2)
  /-- NODE_TIN_SAMPLE (R16). -/
  | nodeTinSample (node : Nat) (cycle : Nat) (inputs : List (Nat × List Byte)) (safe : List (Nat × List Byte))
  /-- NODE_TOUT_LATCH (R17). -/
  | nodeToutLatch (node : Nat) (cycle : Nat)
  /-- NODE_TRANSITION (R200). -/
  | nodeTransition (node : Nat) (block : Fin 4) (second : Bool)
  /-- NODE_EMPTY_HOLD_END (R86). -/
  | nodeEmptyHoldEnd (node : Nat) (ty : Nat) (index : Nat) (limit : Bool)
  /-- NODE_FRAME_TIMEOUT (R87). -/
  | nodeFrameTimeout (node : Nat)
  /-- NODE_DESAT_DETECT (R203). -/
  | nodeDesatDetect (node : Nat) (block : Fin 4) (leg : Fin 3) (after : W16)
  /-- NODE_GATE_UNDERVOLT (R205). -/
  | nodeGateUndervolt (node : Nat) (block : Fin 4) (leg : Fin 3)
  /-- IDENT_REQ (R76). -/
  | identReq (node : Nat)
  /-- PRELOAD (R78). -/
  | preload (node : Nat)
  /-- UNLOAD (R76). -/
  | unload (node : Nat)
  /-- EMPTY_CFG (R86). -/
  | emptyCfg (node : Nat)
  /-- DELAY (R73). -/
  | delay (node : Nat)
  /-- PDELAY_SET (R76). -/
  | pdelaySet (node : Nat)
  /-- COUNTERS (R85). -/
  | counters (node : Nat)
  /-- MAILBOX_RELEASE (R87). -/
  | mailboxRelease (node : Nat)
  /-- UNKNOWN_SERVICE (R76). -/
  | unknownService (node : Nat)
  /-- NODE_SAFE_CONTAINER_RX (R333). -/
  | nodeSafeContainerRx (node : Nat) (place : Nat) (b : List Byte)
  /-- NODE_SAFE_WATCHDOG (R332). -/
  | nodeSafeWatchdog (node : Nat) (place : Nat)
  /-- TASK_DISPATCH (R137). -/
  | taskDispatch (core : Fin 64)
  /-- DELAY_DUE (R135). -/
  | delayDue (die : Fin 4)
  /-- TASK_POST (R143). -/
  | taskPost (core : Fin 64) (desc : Fin 4096)
  /-- STATE_MOVE (R138). -/
  | stateMove (die : Fin 4)
  /-- TRACE_DRAIN (R449). -/
  | traceDrain (die : Fin 4)
  /-- SHARED_LOAD_COMPLETE (R104). -/
  | sharedLoadComplete (core : Fin 64)
  /-- UNIT_RESULT (R117). -/
  | unitResult (core : Fin 64)
  /-- HALT_REQ (R122). -/
  | haltReq (core : Fin 64)
  /-- HALT (R122). -/
  | halt (core : Fin 64)
  /-- RESUME (R122). -/
  | resume (core : Fin 64)
  /-- ADD (R116). -/
  | add (k : Issue) (imm : Bool) (w : BitVec 22)
  /-- SUB (R116). -/
  | sub (k : Issue) (w : BitVec 22)
  /-- ADDS (R112). -/
  | adds (k : Issue) (imm : Bool) (w : BitVec 22)
  /-- SUBS (R112). -/
  | subs (k : Issue) (w : BitVec 22)
  /-- AND (R116). -/
  | and (k : Issue) (imm : Bool) (w : BitVec 22)
  /-- OR (R116). -/
  | or (k : Issue) (imm : Bool) (w : BitVec 22)
  /-- XOR (R116). -/
  | xor (k : Issue) (imm : Bool) (w : BitVec 22)
  /-- SHL (R116). -/
  | shl (k : Issue) (imm : Bool) (w : BitVec 22)
  /-- SHR (R116). -/
  | shr (k : Issue) (imm : Bool) (w : BitVec 22)
  /-- SHRA (R116). -/
  | shra (k : Issue) (imm : Bool) (w : BitVec 22)
  /-- SHLS (R112). -/
  | shls (k : Issue) (imm : Bool) (w : BitVec 22)
  /-- MIN (R116). -/
  | min (k : Issue) (w : BitVec 22)
  /-- MAX (R116). -/
  | max (k : Issue) (w : BitVec 22)
  /-- ABS (R112). -/
  | abs (k : Issue) (w : BitVec 22)
  /-- NEG (R112). -/
  | neg (k : Issue) (w : BitVec 22)
  /-- CLS (R116). -/
  | cls (k : Issue) (w : BitVec 22)
  /-- SLT (R116). -/
  | slt (k : Issue) (imm : Bool) (w : BitVec 22)
  /-- SLTU (R116). -/
  | sltu (k : Issue) (imm : Bool) (w : BitVec 22)
  /-- MUL (R116). -/
  | mul (k : Issue) (w : BitVec 22)
  /-- MULF (R112). -/
  | mulf (k : Issue) (w : BitVec 22)
  /-- MULHU (R116). -/
  | mulhu (k : Issue) (w : BitVec 22)
  /-- LDW (R106). -/
  | ldw (k : Issue) (w : BitVec 24)
  /-- LDH (R106). -/
  | ldh (k : Issue) (w : BitVec 24)
  /-- LDHU (R106). -/
  | ldhu (k : Issue) (w : BitVec 24)
  /-- LDB (R106). -/
  | ldb (k : Issue) (w : BitVec 24)
  /-- LDBU (R106). -/
  | ldbu (k : Issue) (w : BitVec 24)
  /-- STW (R106). -/
  | stw (k : Issue) (w : BitVec 24)
  /-- STH (R106). -/
  | sth (k : Issue) (w : BitVec 24)
  /-- STB (R106). -/
  | stb (k : Issue) (w : BitVec 24)
  /-- LD2 (R106). -/
  | ld2 (k : Issue) (w : BitVec 24)
  /-- ST2 (R106). -/
  | st2 (k : Issue) (w : BitVec 24)
  /-- MAC2 (R107). -/
  | mac2 (k : Issue) (w : BitVec 25)
  /-- MSU2 (R107). -/
  | msu2 (k : Issue) (w : BitVec 25)
  /-- MPY2 (R107). -/
  | mpy2 (k : Issue) (w : BitVec 25)
  /-- MACX2 (R107). -/
  | macx2 (k : Issue) (w : BitVec 25)
  /-- LDP2 (R115). -/
  | ldp2 (k : Issue) (w : BitVec 25)
  /-- MAC (R108). -/
  | mac (k : Issue) (w : BitVec 22)
  /-- MSU (R108). -/
  | msu (k : Issue) (w : BitVec 22)
  /-- MPY (R108). -/
  | mpy (k : Issue) (w : BitVec 22)
  /-- ADDAC (R108). -/
  | addac (k : Issue) (w : BitVec 22)
  /-- SUBAC (R108). -/
  | subac (k : Issue) (w : BitVec 22)
  /-- CLRAC (R108). -/
  | clrac (k : Issue) (w : BitVec 22)
  /-- NEGAC (R108). -/
  | negac (k : Issue) (w : BitVec 22)
  /-- ABSAC (R108). -/
  | absac (k : Issue) (w : BitVec 22)
  /-- SHAC (R111). -/
  | shac (k : Issue) (w : BitVec 22)
  /-- MVAC (R110). -/
  | mvac (k : Issue) (w : BitVec 22)
  /-- MVDA (R111). -/
  | mvda (k : Issue) (w : BitVec 22)
  /-- MVACL (R111). -/
  | mvacl (k : Issue) (w : BitVec 22)
  /-- MVACM (R111). -/
  | mvacm (k : Issue) (w : BitVec 22)
  /-- MVACH (R111). -/
  | mvach (k : Issue) (w : BitVec 22)
  /-- BR (R118). -/
  | br (k : Issue) (w : BitVec 24)
  /-- CALL (R118). -/
  | call (k : Issue) (w : BitVec 24)
  /-- BEQZ (R118). -/
  | beqz (k : Issue) (w : BitVec 24)
  /-- BNEZ (R118). -/
  | bnez (k : Issue) (w : BitVec 24)
  /-- BLTZ (R118). -/
  | bltz (k : Issue) (w : BitVec 24)
  /-- BGEZ (R118). -/
  | bgez (k : Issue) (w : BitVec 24)
  /-- BGTZ (R118). -/
  | bgtz (k : Issue) (w : BitVec 24)
  /-- BLEZ (R118). -/
  | blez (k : Issue) (w : BitVec 24)
  /-- BFS (R118). -/
  | bfs (k : Issue) (w : BitVec 24)
  /-- BFC (R118). -/
  | bfc (k : Issue) (w : BitVec 24)
  /-- JR (R118). -/
  | jr (k : Issue) (w : BitVec 24)
  /-- RET (R118). -/
  | ret (k : Issue) (w : BitVec 24)
  /-- REPI (R119). -/
  | repi (k : Issue) (w : BitVec 26)
  /-- REPR (R119). -/
  | repr (k : Issue) (w : BitVec 26)
  /-- HYSB (R124). -/
  | hysb (k : Issue) (w : BitVec 22)
  /-- HYSV (R125). -/
  | hysv (k : Issue) (w : BitVec 22)
  /-- HYST (R126). -/
  | hyst (k : Issue) (w : BitVec 22)
  /-- CSC (R127). -/
  | csc (k : Issue) (w : BitVec 22)
  /-- CROT (R127). -/
  | crot (k : Issue) (w : BitVec 22)
  /-- CVEC (R127). -/
  | cvec (k : Issue) (w : BitVec 22)
  /-- MOVA (R116). -/
  | mova (k : Issue) (w : BitVec 22)
  /-- MOVDA (R116). -/
  | movda (k : Issue) (w : BitVec 22)
  /-- MOVM (R116). -/
  | movm (k : Issue) (w : BitVec 22)
  /-- MOVDM (R116). -/
  | movdm (k : Issue) (w : BitVec 22)
  /-- ADDA (R116). -/
  | adda (k : Issue) (w : BitVec 22)
  /-- MOVC (R99). -/
  | movc (k : Issue) (w : BitVec 22)
  /-- MOVTC (R99). -/
  | movtc (k : Issue) (w : BitVec 22)
  /-- MOVDE (R116). -/
  | movde (k : Issue) (w : BitVec 22)
  /-- MOVED (R116). -/
  | moved (k : Issue) (w : BitVec 22)
  /-- ESET (R113). -/
  | eset (k : Issue) (w : BitVec 22)
  /-- ERH (R113). -/
  | erh (k : Issue) (w : BitVec 22)
  /-- EHEAD (R113). -/
  | ehead (k : Issue) (w : BitVec 22)
  /-- EFIX (R113). -/
  | efix (k : Issue) (w : BitVec 22)
  /-- EADD (R113). -/
  | eadd (k : Issue) (w : BitVec 22)
  /-- ESUB (R113). -/
  | esub (k : Issue) (w : BitVec 22)
  /-- SHLE (R113). -/
  | shle (k : Issue) (w : BitVec 22)
  /-- MVACE (R114). -/
  | mvace (k : Issue) (w : BitVec 22)
  /-- LDI (R115). -/
  | ldi (k : Issue) (w : BitVec 22) (imm32 : W32)
  /-- LDIA (R115). -/
  | ldia (k : Issue) (w : BitVec 22) (imm32 : W32)
  /-- LDIM (R115). -/
  | ldim (k : Issue) (w : BitVec 22) (imm32 : W32)
  /-- NOP (R116). -/
  | nop (k : Issue) (w : BitVec 22)
  /-- TEND (R120). -/
  | tend (k : Issue) (w : BitVec 22)
  /-- BRK (R116). -/
  | brk (k : Issue) (w : BitVec 22)
  /-- TORQUE_BAND_UPDATE (R196). -/
  | torqueBandUpdate (axis : Fin 128)
  /-- ALIGN_END (R189). -/
  | alignEnd (axis : Fin 128)
  /-- PIN_TRG_EDGE (R254). -/
  | pinTrgEdge (pin : Fin 4) (falling : Bool) (fine : Fin 50)
  /-- INTERVAL_END (R258). -/
  | intervalEnd (record : Fin 32)
  /-- ADC_START (R268). -/
  | adcStart (conv : Fin 2) (falling : Bool) (fine : Fin 50)
  /-- ADC_CONVERSION_DONE (R272). -/
  | adcConversionDone (conv : Fin 2) (raw : W16)
  /-- REF_OUT_OF_BAND (R271). -/
  | refOutOfBand (conv : Fin 2)
  /-- REF_SETTLED (R271). -/
  | refSettled (conv : Fin 2)
  /-- TIN_CAPTURE (R287). -/
  | tinCapture (pin : Fin 8) (falling : Bool)
  /-- BELLOWS_HOLDOVER (R283). -/
  | bellowsHoldover (tb : Fin 4)
  /-- TOUT_PULSE_START (R290). -/
  | toutPulseStart (pin : Fin 8)
  /-- TOUT_PULSE_END (R293). -/
  | toutPulseEnd (pin : Fin 8)
  /-- PTP_FRAME_RX (R294). -/
  | ptpFrameRx (port : Fin 2) (frame : List Byte)
  /-- PTP_EGRESS (R298). -/
  | ptpEgress (port : Fin 2)
  /-- PTP_TX_TIMEOUT (R298). -/
  | ptpTxTimeout (port : Fin 2)
  /-- TB_NOW_READ (R300). -/
  | tbNowRead (ctx : Fin 8) (tb : Fin 4) (word : Fin 3)
  /-- REC_TLAST_READ (R275). -/
  | recTlastRead (record : Fin 32) (word : Fin 3)
  /-- RC_READ (R6). -/
  | rcRead (endpoint : Fin 2) (bar : Bar) (offset : Nat)
  /-- REGISTER_WRITE (R395). -/
  | registerWrite (endpoint : Fin 2) (bar : Bar) (offset : Nat) (value : W32)
  /-- FIELD_INPUT_SAMPLE (R307). -/
  | fieldInputSample (ch : Fin 24) (mv : Nat) (microAmps : Nat) (vfield : Nat)
  /-- FIELD_READBACK_SAMPLE (R311). -/
  | fieldReadbackSample (ch : Fin 24) (high : Bool)
  /-- FIELD_SHORT_TIMEOUT (R311). -/
  | fieldShortTimeout (ch : Fin 24)
  /-- FIELD_THERMAL_TRIP (R311). -/
  | fieldThermalTrip (ch : Fin 24)
  /-- FIELD_RETRY_END (R312). -/
  | fieldRetryEnd (ch : Fin 24)
  /-- FIELD_SUPPLY_UV (R313). -/
  | fieldSupplyUv (group : Fin 2) (vfield : Nat)
  /-- FIELD_SUPPLY_RECOVER (R313). -/
  | fieldSupplyRecover (group : Fin 2) (vfield : Nat)
  /-- TEST_PULSE_START (R314). -/
  | testPulseStart (ch : Fin 24)
  /-- TEST_PULSE_CHECK (R314). -/
  | testPulseCheck (ch : Fin 24) (high : Bool)
  /-- TEST_PULSE_END (R316). -/
  | testPulseEnd (ch : Fin 24)
  /-- FIELD_MODE_OFF_END (R318). -/
  | fieldModeOffEnd (ch : Fin 24)
  /-- SAF_EVALUATION (R324). -/
  | safEvaluation
  /-- SAF_FAULT_ENTRY (R327). -/
  | safFaultEntry (cause : Fin 5)
  /-- SAF_HEARTBEAT_LOSS (R327). -/
  | safHeartbeatLoss
  /-- SAF_CONN_WATCHDOG (R332). -/
  | safConnWatchdog (conn : Fin 256)
  /-- CONN_RESTART (R333). -/
  | connRestart (conn : Fin 256)
  /-- CONN_START_FAIL (R333). -/
  | connStartFail (conn : Fin 256)
  /-- SAF_INPUT_SAMPLE (R337). -/
  | safInputSample (ch : Fin 24) (mv : Nat) (microAmps : Nat) (vfield : Nat)
  /-- SIG_DISCREPANCY (R338). -/
  | sigDiscrepancy (sig : Fin 64)
  /-- SAF_RESET_RELEASE (R346). -/
  | safResetRelease (zone : Fin 32) (second : Bool)
  /-- RESET_STUCK (R345). -/
  | resetStuck (zone : Fin 32) (second : Bool)
  /-- SAFE_SESSION_TIMEOUT (R348). -/
  | safeSessionTimeout
  /-- SAFE_LOCKOUT_END (R348). -/
  | safeLockoutEnd
  /-- FLUE_TICK_RX (R361). -/
  | flueTickRx (m : FlueTick) (ok : Bool)
  /-- FLUE_DIGEST_RX (R363). -/
  | flueDigestRx (cycle : Nat) (die : Fin 4) (desc : Fin 4096) (digest : Nat) (ok : Bool)
  /-- FLUE_RECORD_RX (R366). -/
  | flueRecordRx (m : FlueRecord) (ok : Bool)
  /-- FLUE_SENT_RX (R365). -/
  | flueSentRx (frame : Nat) (addr : Nat) (ty : Nat) (blocks : List (Nat × List Byte)) (ok : Bool)
  /-- FLUE_CONTAINER_RX (R369). -/
  | flueContainerRx (cycle : Nat) (conn : Fin 256) (bytes : List Byte) (ok : Bool)
  /-- FLUE_RELAY_RX (R368). -/
  | flueRelayRx (c : SegCopy) (ok : Bool)
  /-- FLUE_FRAME_RX (R65). -/
  | flueFrameRx (content : List Byte) (ok : Bool)
  /-- FLUE_CONFIG_RX (R371). -/
  | flueConfigRx (m : FlueConfig) (ok : Bool)
  /-- FLUE_SILENT (R358). -/
  | flueSilent
  /-- FLUE_LANE_DOWN (R357). -/
  | flueLaneDown (lane : Fin 2)
  /-- PARTNER_FRAME_TIMEOUT (R368). -/
  | partnerFrameTimeout
  /-- ROLE_SWAP_TICK (R372). -/
  | roleSwapTick
  /-- JOIN_COPY_COMPLETE (R373). -/
  | joinCopyComplete (copy : JoinCopy)
  /-- BAD_PACKET (R388). -/
  | badPacket (p : Pkt) (op : Nat) (why : PacketFault)
  /-- LEASE_EXPIRY (R381). -/
  | leaseExpiry (ctx : Fin 8)
  /-- EVENT_RESEND (R391). -/
  | eventResend (ctx : Fin 8)
  /-- COMMAND_DOORBELL (R396). -/
  | commandDoorbell (endpoint : Fin 2) (index : Nat)
  /-- REPLY_RING_CONSUME (R396). -/
  | replyRingConsume (endpoint : Fin 2) (index : Nat)
  /-- EVENT_RING_CONSUME (R391). -/
  | eventRingConsume (endpoint : Fin 2) (index : Nat)
  /-- CTX_ENABLE (R396). -/
  | ctxEnable (endpoint : Fin 2) (enable : Bool)
  /-- CTX_RESET (R396). -/
  | ctxReset (endpoint : Fin 2)
  /-- CTX_BEAT (R381). -/
  | ctxBeat (endpoint : Fin 2)
  /-- PCIE_LINK_EVENT (R381). -/
  | pcieLinkEvent (endpoint : Fin 2)
  /-- DMA_ERROR (R396). -/
  | dmaError (endpoint : Fin 2)
  /-- SSPI_WRITE (R400). -/
  | sspiWrite
  /-- SSPI_READ (R400). -/
  | sspiRead (whole : Bool)
  /-- SSPI_STATUS (R400). -/
  | sspiStatus
  /-- ETH_NEIGHBOUR_ANSWER (R398). -/
  | ethNeighbourAnswer (port : Fin 2) (own : Bool)
  /-- UDP_REASSEMBLY_TIMEOUT (R399). -/
  | udpReassemblyTimeout (port : Fin 2) (part : Fragment)
  /-- ANNOUNCE (R403). -/
  | announce (port : Fin 2) (up : Bool) (speed : Fin 2)
  /-- DISCOVER (R403). -/
  | discover (p : Pkt)
  /-- LOGIN (R379). -/
  | login (p : Pkt)
  /-- LOGOUT (R386). -/
  | logout (p : Pkt)
  /-- KEEPALIVE (R381). -/
  | keepalive (p : Pkt)
  /-- SEQ_GET (R405). -/
  | seqGet (p : Pkt)
  /-- EVENT_MASK_SET (R402). -/
  | eventMaskSet (p : Pkt)
  /-- DEVICE_INFO_GET (R405). -/
  | deviceInfoGet (p : Pkt)
  /-- HOSTS_GET (R405). -/
  | hostsGet (p : Pkt)
  /-- CLAIM (R384). -/
  | claim (p : Pkt)
  /-- RELEASE (R384). -/
  | release (p : Pkt)
  /-- CLAIMS_GET (R405). -/
  | claimsGet (p : Pkt)
  /-- CONFIG_LEASE (R385). -/
  | configLease (p : Pkt)
  /-- FAULT_CLEAR (R471). -/
  | faultClear (p : Pkt)
  /-- REG_READ (R405). -/
  | regRead (p : Pkt)
  /-- REG_WRITE (R405). -/
  | regWrite (p : Pkt)
  /-- NET_CONFIG_SET (R398). -/
  | netConfigSet (p : Pkt)
  /-- NET_CONFIG_GET (R405). -/
  | netConfigGet (p : Pkt)
  /-- LOGIN_TABLE_SET (R378). -/
  | loginTableSet (p : Pkt)
  /-- LOGIN_TABLE_GET (R405). -/
  | loginTableGet (p : Pkt)
  /-- POWER_STATE_SET (R430). -/
  | powerStateSet (p : Pkt)
  /-- POWER_DOMAIN_SET (R431). -/
  | powerDomainSet (p : Pkt)
  /-- DEVICE_RESET (R452). -/
  | deviceReset (p : Pkt)
  /-- POWER_STATUS_GET (R452). -/
  | powerStatusGet (p : Pkt)
  /-- HEALTH_GET (R452). -/
  | healthGet (p : Pkt)
  /-- AGEING_GET (R452). -/
  | ageingGet (p : Pkt)
  /-- RING_STATUS_GET (R60). -/
  | ringStatusGet (p : Pkt)
  /-- RING_COUNTERS_GET (R60). -/
  | ringCountersGet (p : Pkt)
  /-- RING_KINDLE (R61). -/
  | ringKindle (p : Pkt)
  /-- RING_STOP (R61). -/
  | ringStop (p : Pkt)
  /-- RING_NODES_GET (R95). -/
  | ringNodesGet (p : Pkt)
  /-- RING_ADDR_SET (R95). -/
  | ringAddrSet (p : Pkt)
  /-- SCHED_BEGIN (R95). -/
  | schedBegin (p : Pkt)
  /-- SCHED_SEGMENTS (R95). -/
  | schedSegments (p : Pkt)
  /-- SCHED_KEEPERS (R95). -/
  | schedKeepers (p : Pkt)
  /-- SCHED_CLOSE (R77). -/
  | schedClose (p : Pkt)
  /-- SCHED_SWITCH (R79). -/
  | schedSwitch (p : Pkt)
  /-- SCHED_ABORT (R84). -/
  | schedAbort (p : Pkt)
  /-- NODE_EMPTY_SET (R86). -/
  | nodeEmptySet (p : Pkt)
  /-- RING_TIME_GET (R95). -/
  | ringTimeGet (p : Pkt)
  /-- RING_NODE_MAIL (R95). -/
  | ringNodeMail (p : Pkt)
  /-- TWIN_STATUS_GET (R375). -/
  | twinStatusGet (p : Pkt)
  /-- TWIN_CONFIG_SET (R375). -/
  | twinConfigSet (p : Pkt)
  /-- TWIN_ROLE_SWAP (R372). -/
  | twinRoleSwap (p : Pkt)
  /-- TWIN_DETACH (R375). -/
  | twinDetach (p : Pkt)
  /-- TWIN_JOIN (R373). -/
  | twinJoin (p : Pkt)
  /-- TWIN_AX_GET (R375). -/
  | twinAxGet (p : Pkt)
  /-- FB_CONFIG_SET (R175). -/
  | fbConfigSet (p : Pkt)
  /-- FB_CONFIG_GET (R178). -/
  | fbConfigGet (p : Pkt)
  /-- FB_CAL_GET (R178). -/
  | fbCalGet (p : Pkt)
  /-- FB_CAL_SET (R178). -/
  | fbCalSet (p : Pkt)
  /-- FB_CAL_SAVE (R161). -/
  | fbCalSave (p : Pkt)
  /-- FB_STATUS_GET (R178). -/
  | fbStatusGet (p : Pkt)
  /-- FB_INDEX_REF_SET (R178). -/
  | fbIndexRefSet (p : Pkt)
  /-- EMU_CONFIG_SET (R178). -/
  | emuConfigSet (p : Pkt)
  /-- EMU_STATUS_GET (R178). -/
  | emuStatusGet (p : Pkt)
  /-- EMU_RESTART (R173). -/
  | emuRestart (p : Pkt)
  /-- SERVO_BIND (R180). -/
  | servoBind (p : Pkt)
  /-- SERVO_CONFIG_SET (R208). -/
  | servoConfigSet (p : Pkt)
  /-- SERVO_CONFIG_GET (R210). -/
  | servoConfigGet (p : Pkt)
  /-- MOTOR_SET (R187). -/
  | motorSet (p : Pkt)
  /-- MOTOR_GET (R210). -/
  | motorGet (p : Pkt)
  /-- MOTOR_SAVE (R187). -/
  | motorSave (p : Pkt)
  /-- PS_CONFIG_SET (R202). -/
  | psConfigSet (p : Pkt)
  /-- PS_CONFIG_GET (R210). -/
  | psConfigGet (p : Pkt)
  /-- VT_SET (R192). -/
  | vtSet (p : Pkt)
  /-- SERVO_STATUS_GET (R210). -/
  | servoStatusGet (p : Pkt)
  /-- SERVO_ALIGN (R189). -/
  | servoAlign (p : Pkt)
  /-- MOTION_CONFIG_SET (R248). -/
  | motionConfigSet (p : Pkt)
  /-- MOTION_CONFIG_GET (R250). -/
  | motionConfigGet (p : Pkt)
  /-- MOVE_ABS (R214). -/
  | moveAbs (p : Pkt)
  /-- MOVE_VEL (R215). -/
  | moveVel (p : Pkt)
  /-- MOTION_STOP (R215). -/
  | motionStop (p : Pkt)
  /-- VM_CONFIG_SET (R224). -/
  | vmConfigSet (p : Pkt)
  /-- VM_PLANT_SET (R225). -/
  | vmPlantSet (p : Pkt)
  /-- VM_RAMP (R225). -/
  | vmRamp (p : Pkt)
  /-- FOLLOW_CONFIG_SET (R229). -/
  | followConfigSet (p : Pkt)
  /-- FOLLOW_CONFIG_GET (R250). -/
  | followConfigGet (p : Pkt)
  /-- FOLLOW_FACTOR (R228). -/
  | followFactor (p : Pkt)
  /-- CAM_DEFINE (R230). -/
  | camDefine (p : Pkt)
  /-- CAM_POINTS (R230). -/
  | camPoints (p : Pkt)
  /-- CAM_START (R232). -/
  | camStart (p : Pkt)
  /-- HOME_START (R236). -/
  | homeStart (p : Pkt)
  /-- GROUP_DEFINE (R239). -/
  | groupDefine (p : Pkt)
  /-- GROUP_MOVE (R240). -/
  | groupMove (p : Pkt)
  /-- GROUP_STOP (R241). -/
  | groupStop (p : Pkt)
  /-- STEP_BIND (R242). -/
  | stepBind (p : Pkt)
  /-- STEP_CONFIG_SET (R243). -/
  | stepConfigSet (p : Pkt)
  /-- STEP_CONFIG_GET (R250). -/
  | stepConfigGet (p : Pkt)
  /-- MOTION_STATUS_GET (R250). -/
  | motionStatusGet (p : Pkt)
  /-- REC_CONFIG_SET (R264). -/
  | recConfigSet (p : Pkt)
  /-- REC_CONFIG_GET (R276). -/
  | recConfigGet (p : Pkt)
  /-- REC_START (R261). -/
  | recStart (p : Pkt)
  /-- REC_STOP (R263). -/
  | recStop (p : Pkt)
  /-- REC_TRIGGER (R256). -/
  | recTrigger (p : Pkt)
  /-- REC_READ (R276). -/
  | recRead (p : Pkt)
  /-- REC_STATUS_GET (R276). -/
  | recStatusGet (p : Pkt)
  /-- ACQ_BW_GET (R276). -/
  | acqBwGet (p : Pkt)
  /-- ADC_CONFIG_SET (R268). -/
  | adcConfigSet (p : Pkt)
  /-- ADC_CAL_SET (R272). -/
  | adcCalSet (p : Pkt)
  /-- ADC_STATUS_GET (R276). -/
  | adcStatusGet (p : Pkt)
  /-- TIME_GET (R301). -/
  | timeGet (p : Pkt)
  /-- TIME_SET (R285). -/
  | timeSet (p : Pkt)
  /-- TIME_STEP (R285). -/
  | timeStep (p : Pkt)
  /-- TIME_INC_SET (R278). -/
  | timeIncSet (p : Pkt)
  /-- BELLOWS_CONFIG_SET (R281). -/
  | bellowsConfigSet (p : Pkt)
  /-- BELLOWS_FEED (R282). -/
  | bellowsFeed (p : Pkt)
  /-- TIN_CONFIG_SET (R288). -/
  | tinConfigSet (p : Pkt)
  /-- TIN_CAPTURE_GET (R288). -/
  | tinCaptureGet (p : Pkt)
  /-- TOUT_CONFIG_SET (R291). -/
  | toutConfigSet (p : Pkt)
  /-- TOUT_STOP (R293). -/
  | toutStop (p : Pkt)
  /-- PTP_CONFIG_SET (R294). -/
  | ptpConfigSet (p : Pkt)
  /-- PTP_BIND (R296). -/
  | ptpBind (p : Pkt)
  /-- PTP_TX (R297). -/
  | ptpTx (p : Pkt)
  /-- PTP_TXTS_GET (R298). -/
  | ptpTxtsGet (p : Pkt)
  /-- FIELD_CONFIG_SET (R318). -/
  | fieldConfigSet (p : Pkt)
  /-- FIELD_CONFIG_GET (R320). -/
  | fieldConfigGet (p : Pkt)
  /-- FIELD_OUT_SET (R310). -/
  | fieldOutSet (p : Pkt)
  /-- FIELD_OUT_CLEAR (R312). -/
  | fieldOutClear (p : Pkt)
  /-- FIELD_STATUS_GET (R320). -/
  | fieldStatusGet (p : Pkt)
  /-- FIELD_CH_STATUS_GET (R320). -/
  | fieldChStatusGet (p : Pkt)
  /-- SAFE_STATUS_GET (R356). -/
  | safeStatusGet (p : Pkt)
  /-- SAFE_CONN_STATUS_GET (R356). -/
  | safeConnStatusGet (p : Pkt)
  /-- SAFE_LOG_GET (R351). -/
  | safeLogGet (p : Pkt)
  /-- SAFE_SET_GET (R356). -/
  | safeSetGet (p : Pkt)
  /-- SAFE_LOGIN (R348). -/
  | safeLogin (p : Pkt)
  /-- SAFE_LOGOUT (R348). -/
  | safeLogout (p : Pkt)
  /-- SAFE_PASSWORD_SET (R356). -/
  | safePasswordSet (p : Pkt)
  /-- SAFE_CONN_SET (R356). -/
  | safeConnSet (p : Pkt)
  /-- SAFE_AXIS_SET (R343). -/
  | safeAxisSet (p : Pkt)
  /-- SAFE_SIGNAL_SET (R338). -/
  | safeSignalSet (p : Pkt)
  /-- SAFE_ZONE_SET (R356). -/
  | safeZoneSet (p : Pkt)
  /-- SAFE_CHANNEL_SET (R337). -/
  | safeChannelSet (p : Pkt)
  /-- SAFE_COMMIT (R349). -/
  | safeCommit (p : Pkt)
  /-- SAFE_DISCARD (R356). -/
  | safeDiscard (p : Pkt)
  /-- SAFE_FUNC_REQ (R339). -/
  | safeFuncReq (p : Pkt)
  /-- UPDATE_BEGIN (R413). -/
  | updateBegin (p : Pkt)
  /-- UPDATE_DATA (R427). -/
  | updateData (p : Pkt)
  /-- UPDATE_VERIFY (R410). -/
  | updateVerify (p : Pkt)
  /-- UPDATE_ACTIVATE (R417). -/
  | updateActivate (p : Pkt)
  /-- UPDATE_CONFIRM (R422). -/
  | updateConfirm (p : Pkt)
  /-- UPDATE_ABORT (R427). -/
  | updateAbort (p : Pkt)
  /-- UPDATE_STATUS_GET (R427). -/
  | updateStatusGet (p : Pkt)
  /-- FW_INVENTORY_GET (R427). -/
  | fwInventoryGet (p : Pkt)
  /-- SOOT_READ (R452). -/
  | sootRead (p : Pkt)
  /-- SOOT_STATUS_GET (R452). -/
  | sootStatusGet (p : Pkt)
  /-- TRACE_READ (R452). -/
  | traceRead (p : Pkt)
  /-- TRACE_STATUS_GET (R452). -/
  | traceStatusGet (p : Pkt)
  /-- LOOP_PROG_WRITE (R149). -/
  | loopProgWrite (p : Pkt)
  /-- GRATE_DESC_SET (R130). -/
  | grateDescSet (p : Pkt)
  /-- GRATE_DESC_GET (R149). -/
  | grateDescGet (p : Pkt)
  /-- GRATE_COUNTER_SET (R149). -/
  | grateCounterSet (p : Pkt)
  /-- GRATE_ARRIVAL_SET (R133). -/
  | grateArrivalSet (p : Pkt)
  /-- GRATE_POST (R143). -/
  | gratePost (p : Pkt)
  /-- GRATE_MOVE (R138). -/
  | grateMove (p : Pkt)
  /-- GRATE_TRACE_CFG (R147). -/
  | grateTraceCfg (p : Pkt)
  /-- GRATE_STATUS_GET (R149). -/
  | grateStatusGet (p : Pkt)
  /-- UPDATE_ACTIVATION_TICK (R417). -/
  | updateActivationTick
  /-- UPDATE_READY_CHECK (R417). -/
  | updateReadyCheck
  /-- UPDATE_CONFIRM_TIMEOUT (R422). -/
  | updateConfirmTimeout
  /-- UPDATE_FALLBACK_TICK (R422). -/
  | updateFallbackTick
  /-- POWER_ON (R432). -/
  | powerOn
  /-- RESET_N_RECOGNISED (R433). -/
  | resetNRecognised
  /-- BOOT_START (R438). -/
  | bootStart (f : BootFacts)
  /-- THERMAL_TRIP (R432). -/
  | thermalTrip
  /-- SUPPLY_TRIP (R432). -/
  | supplyTrip
  /-- REFCLK_LOSS (R462). -/
  | refclkLoss
  /-- HMP_WATCHDOG (R435). -/
  | hmpWatchdog
  /-- THERMAL_WARN (R441). -/
  | thermalWarn (die : Fin 8) (tj : W16)
  /-- SUPPLY_WARN (R441). -/
  | supplyWarn (outside : Bool)
  /-- WAKE_EDGE (R440). -/
  | wakeEdge
  /-- WAKE_TIMER (R430). -/
  | wakeTimer
  /-- POWER_STATE_CHANGE_DONE (R430). -/
  | powerStateChangeDone
  /-- DOMAIN_SWITCH_DONE (R431). -/
  | domainSwitchDone (domain : Fin 12)
  /-- AGEING_SLACK_SAMPLE (R442). -/
  | ageingSlackSample (m : HealthSample)
  /-- AGEING_HOUR (R442). -/
  | ageingHour
  /-- AGEING_DAY (R446). -/
  | ageingDay
  /-- AGEING_VRAISE (R443). -/
  | ageingVraise
  /-- AGEING_CORE_WORN (R445). -/
  | ageingCoreWorn (core : Fin 64)
  /-- VCORE_REWRITE (R461). -/
  | vcoreRewrite (mv : Nat)
  /-- VRAISE_CONFIRM (R461). -/
  | vraiseConfirm (mv : Nat)
  /-- VRAISE_RETRY (R461). -/
  | vraiseRetry
  /-- PMB_ALERT (R461). -/
  | pmbAlert
  /-- SOOT_WRITE (R448). -/
  | sootWrite
  /-- NODE_INDEX_LATCH (R151). -/
  | nodeIndexLatch (node : Nat) (block : Fin 4) (qcnt : W16) (sin : W16) (cos : W16)
  /-- NODE_OVERTEMP (R205). -/
  | nodeOvertemp (node : Nat) (block : Fin 4) (hot : Bool) (trip : Bool)
  /-- NODE_GATE_SUPPLY_RECOVER (R205). -/
  | nodeGateSupplyRecover (node : Nat) (block : Fin 4) (leg : Fin 3)
  /-- EMU_EDGE (R172). -/
  | emuEdge (emu : Fin 4)
  /-- SAF_ANSWER_TIMEOUT (R392). -/
  | safAnswerTimeout (ctx : Fin 8)
  /-- HMP_RESTART_DONE (R382). -/
  | hmpRestartDone
  /-- FLUE_LANE_UP (R357). -/
  | flueLaneUp (lane : Fin 2) (lat : Nat)
  /-- ETH_LINK_DOWN (R398). -/
  | ethLinkDown (port : Fin 2)
  deriving DecidableEq, Repr

end Sys2Proof
end

