-- ==== Sys2Proof/Decode.lean ====
section
/-! DEFINITION. Sys2Proof/Decode.lean: `decodeTableWord`, for a table whose rows give no bits; and the one encoding that the manual gives the block's
commands: the instruction words of a loop core (Tables 4.6 and 4.7), read and written. -/

namespace Sys2Proof

/-- The command a word spells by the table's bits: no row of the table gives bits, so no word spells one. -/
def decodeTableWord (_nbits _w : Nat) : Option Instr := none

/-- The command that issues, on a core, the instruction whose first word is `w` and whose second, where the format has one, is `v`; none for a word that
names no instruction (R115). -/
def decodeLoop (k : Issue) (w v : W32) : Option Instr :=
  (Machine.LoopOp.ofWord w).map fun oi =>
    match oi.1 with
    | .add => .add k oi.2 (w.setWidth 22)
    | .sub => .sub k (w.setWidth 22)
    | .adds => .adds k oi.2 (w.setWidth 22)
    | .subs => .subs k (w.setWidth 22)
    | .and => .and k oi.2 (w.setWidth 22)
    | .or => .or k oi.2 (w.setWidth 22)
    | .xor => .xor k oi.2 (w.setWidth 22)
    | .shl => .shl k oi.2 (w.setWidth 22)
    | .shr => .shr k oi.2 (w.setWidth 22)
    | .shra => .shra k oi.2 (w.setWidth 22)
    | .shls => .shls k oi.2 (w.setWidth 22)
    | .min => .min k (w.setWidth 22)
    | .max => .max k (w.setWidth 22)
    | .abs => .abs k (w.setWidth 22)
    | .neg => .neg k (w.setWidth 22)
    | .cls => .cls k (w.setWidth 22)
    | .slt => .slt k oi.2 (w.setWidth 22)
    | .sltu => .sltu k oi.2 (w.setWidth 22)
    | .mul => .mul k (w.setWidth 22)
    | .mulf => .mulf k (w.setWidth 22)
    | .mulhu => .mulhu k (w.setWidth 22)
    | .ldw => .ldw k (w.setWidth 24)
    | .ldh => .ldh k (w.setWidth 24)
    | .ldhu => .ldhu k (w.setWidth 24)
    | .ldb => .ldb k (w.setWidth 24)
    | .ldbu => .ldbu k (w.setWidth 24)
    | .stw => .stw k (w.setWidth 24)
    | .sth => .sth k (w.setWidth 24)
    | .stb => .stb k (w.setWidth 24)
    | .ld2 => .ld2 k (w.setWidth 24)
    | .st2 => .st2 k (w.setWidth 24)
    | .mac2 => .mac2 k (w.setWidth 25)
    | .msu2 => .msu2 k (w.setWidth 25)
    | .mpy2 => .mpy2 k (w.setWidth 25)
    | .macx2 => .macx2 k (w.setWidth 25)
    | .ldp2 => .ldp2 k (w.setWidth 25)
    | .mac => .mac k (w.setWidth 22)
    | .msu => .msu k (w.setWidth 22)
    | .mpy => .mpy k (w.setWidth 22)
    | .addac => .addac k (w.setWidth 22)
    | .subac => .subac k (w.setWidth 22)
    | .clrac => .clrac k (w.setWidth 22)
    | .negac => .negac k (w.setWidth 22)
    | .absac => .absac k (w.setWidth 22)
    | .shac => .shac k (w.setWidth 22)
    | .mvac => .mvac k (w.setWidth 22)
    | .mvda => .mvda k (w.setWidth 22)
    | .mvacl => .mvacl k (w.setWidth 22)
    | .mvacm => .mvacm k (w.setWidth 22)
    | .mvach => .mvach k (w.setWidth 22)
    | .br => .br k (w.setWidth 24)
    | .call => .call k (w.setWidth 24)
    | .beqz => .beqz k (w.setWidth 24)
    | .bnez => .bnez k (w.setWidth 24)
    | .bltz => .bltz k (w.setWidth 24)
    | .bgez => .bgez k (w.setWidth 24)
    | .bgtz => .bgtz k (w.setWidth 24)
    | .blez => .blez k (w.setWidth 24)
    | .bfs => .bfs k (w.setWidth 24)
    | .bfc => .bfc k (w.setWidth 24)
    | .jr => .jr k (w.setWidth 24)
    | .ret => .ret k (w.setWidth 24)
    | .repi => .repi k (w.setWidth 26)
    | .repr => .repr k (w.setWidth 26)
    | .hysb => .hysb k (w.setWidth 22)
    | .hysv => .hysv k (w.setWidth 22)
    | .hyst => .hyst k (w.setWidth 22)
    | .csc => .csc k (w.setWidth 22)
    | .crot => .crot k (w.setWidth 22)
    | .cvec => .cvec k (w.setWidth 22)
    | .mova => .mova k (w.setWidth 22)
    | .movda => .movda k (w.setWidth 22)
    | .movm => .movm k (w.setWidth 22)
    | .movdm => .movdm k (w.setWidth 22)
    | .adda => .adda k (w.setWidth 22)
    | .movc => .movc k (w.setWidth 22)
    | .movtc => .movtc k (w.setWidth 22)
    | .movde => .movde k (w.setWidth 22)
    | .moved => .moved k (w.setWidth 22)
    | .eset => .eset k (w.setWidth 22)
    | .erh => .erh k (w.setWidth 22)
    | .ehead => .ehead k (w.setWidth 22)
    | .efix => .efix k (w.setWidth 22)
    | .eadd => .eadd k (w.setWidth 22)
    | .esub => .esub k (w.setWidth 22)
    | .shle => .shle k (w.setWidth 22)
    | .mvace => .mvace k (w.setWidth 22)
    | .ldi => .ldi k (w.setWidth 22) v
    | .ldia => .ldia k (w.setWidth 22) v
    | .ldim => .ldim k (w.setWidth 22) v
    | .nop => .nop k (w.setWidth 22)
    | .tend => .tend k (w.setWidth 22)
    | .brk => .brk k (w.setWidth 22)

/-- The words of the instruction that a command issues; none for a command that issues none. -/
def encodeLoop : Instr → Option (List W32)
  | .add _ imm w => some [Machine.LoopOp.word .add imm w]
  | .sub _ w => some [Machine.LoopOp.word .sub false w]
  | .adds _ imm w => some [Machine.LoopOp.word .adds imm w]
  | .subs _ w => some [Machine.LoopOp.word .subs false w]
  | .and _ imm w => some [Machine.LoopOp.word .and imm w]
  | .or _ imm w => some [Machine.LoopOp.word .or imm w]
  | .xor _ imm w => some [Machine.LoopOp.word .xor imm w]
  | .shl _ imm w => some [Machine.LoopOp.word .shl imm w]
  | .shr _ imm w => some [Machine.LoopOp.word .shr imm w]
  | .shra _ imm w => some [Machine.LoopOp.word .shra imm w]
  | .shls _ imm w => some [Machine.LoopOp.word .shls imm w]
  | .min _ w => some [Machine.LoopOp.word .min false w]
  | .max _ w => some [Machine.LoopOp.word .max false w]
  | .abs _ w => some [Machine.LoopOp.word .abs false w]
  | .neg _ w => some [Machine.LoopOp.word .neg false w]
  | .cls _ w => some [Machine.LoopOp.word .cls false w]
  | .slt _ imm w => some [Machine.LoopOp.word .slt imm w]
  | .sltu _ imm w => some [Machine.LoopOp.word .sltu imm w]
  | .mul _ w => some [Machine.LoopOp.word .mul false w]
  | .mulf _ w => some [Machine.LoopOp.word .mulf false w]
  | .mulhu _ w => some [Machine.LoopOp.word .mulhu false w]
  | .ldw _ w => some [Machine.LoopOp.word .ldw false w]
  | .ldh _ w => some [Machine.LoopOp.word .ldh false w]
  | .ldhu _ w => some [Machine.LoopOp.word .ldhu false w]
  | .ldb _ w => some [Machine.LoopOp.word .ldb false w]
  | .ldbu _ w => some [Machine.LoopOp.word .ldbu false w]
  | .stw _ w => some [Machine.LoopOp.word .stw false w]
  | .sth _ w => some [Machine.LoopOp.word .sth false w]
  | .stb _ w => some [Machine.LoopOp.word .stb false w]
  | .ld2 _ w => some [Machine.LoopOp.word .ld2 false w]
  | .st2 _ w => some [Machine.LoopOp.word .st2 false w]
  | .mac2 _ w => some [Machine.LoopOp.word .mac2 false w]
  | .msu2 _ w => some [Machine.LoopOp.word .msu2 false w]
  | .mpy2 _ w => some [Machine.LoopOp.word .mpy2 false w]
  | .macx2 _ w => some [Machine.LoopOp.word .macx2 false w]
  | .ldp2 _ w => some [Machine.LoopOp.word .ldp2 false w]
  | .mac _ w => some [Machine.LoopOp.word .mac false w]
  | .msu _ w => some [Machine.LoopOp.word .msu false w]
  | .mpy _ w => some [Machine.LoopOp.word .mpy false w]
  | .addac _ w => some [Machine.LoopOp.word .addac false w]
  | .subac _ w => some [Machine.LoopOp.word .subac false w]
  | .clrac _ w => some [Machine.LoopOp.word .clrac false w]
  | .negac _ w => some [Machine.LoopOp.word .negac false w]
  | .absac _ w => some [Machine.LoopOp.word .absac false w]
  | .shac _ w => some [Machine.LoopOp.word .shac false w]
  | .mvac _ w => some [Machine.LoopOp.word .mvac false w]
  | .mvda _ w => some [Machine.LoopOp.word .mvda false w]
  | .mvacl _ w => some [Machine.LoopOp.word .mvacl false w]
  | .mvacm _ w => some [Machine.LoopOp.word .mvacm false w]
  | .mvach _ w => some [Machine.LoopOp.word .mvach false w]
  | .br _ w => some [Machine.LoopOp.word .br false w]
  | .call _ w => some [Machine.LoopOp.word .call false w]
  | .beqz _ w => some [Machine.LoopOp.word .beqz false w]
  | .bnez _ w => some [Machine.LoopOp.word .bnez false w]
  | .bltz _ w => some [Machine.LoopOp.word .bltz false w]
  | .bgez _ w => some [Machine.LoopOp.word .bgez false w]
  | .bgtz _ w => some [Machine.LoopOp.word .bgtz false w]
  | .blez _ w => some [Machine.LoopOp.word .blez false w]
  | .bfs _ w => some [Machine.LoopOp.word .bfs false w]
  | .bfc _ w => some [Machine.LoopOp.word .bfc false w]
  | .jr _ w => some [Machine.LoopOp.word .jr false w]
  | .ret _ w => some [Machine.LoopOp.word .ret false w]
  | .repi _ w => some [Machine.LoopOp.word .repi false w]
  | .repr _ w => some [Machine.LoopOp.word .repr false w]
  | .hysb _ w => some [Machine.LoopOp.word .hysb false w]
  | .hysv _ w => some [Machine.LoopOp.word .hysv false w]
  | .hyst _ w => some [Machine.LoopOp.word .hyst false w]
  | .csc _ w => some [Machine.LoopOp.word .csc false w]
  | .crot _ w => some [Machine.LoopOp.word .crot false w]
  | .cvec _ w => some [Machine.LoopOp.word .cvec false w]
  | .mova _ w => some [Machine.LoopOp.word .mova false w]
  | .movda _ w => some [Machine.LoopOp.word .movda false w]
  | .movm _ w => some [Machine.LoopOp.word .movm false w]
  | .movdm _ w => some [Machine.LoopOp.word .movdm false w]
  | .adda _ w => some [Machine.LoopOp.word .adda false w]
  | .movc _ w => some [Machine.LoopOp.word .movc false w]
  | .movtc _ w => some [Machine.LoopOp.word .movtc false w]
  | .movde _ w => some [Machine.LoopOp.word .movde false w]
  | .moved _ w => some [Machine.LoopOp.word .moved false w]
  | .eset _ w => some [Machine.LoopOp.word .eset false w]
  | .erh _ w => some [Machine.LoopOp.word .erh false w]
  | .ehead _ w => some [Machine.LoopOp.word .ehead false w]
  | .efix _ w => some [Machine.LoopOp.word .efix false w]
  | .eadd _ w => some [Machine.LoopOp.word .eadd false w]
  | .esub _ w => some [Machine.LoopOp.word .esub false w]
  | .shle _ w => some [Machine.LoopOp.word .shle false w]
  | .mvace _ w => some [Machine.LoopOp.word .mvace false w]
  | .ldi _ w v => some [Machine.LoopOp.word .ldi false w, v]
  | .ldia _ w v => some [Machine.LoopOp.word .ldia false w, v]
  | .ldim _ w v => some [Machine.LoopOp.word .ldim false w, v]
  | .nop _ w => some [Machine.LoopOp.word .nop false w]
  | .tend _ w => some [Machine.LoopOp.word .tend false w]
  | .brk _ w => some [Machine.LoopOp.word .brk false w]
  | _ => none

end Sys2Proof
end

