-- ==== Sys2Proof/Config.lean ====
section
/-! DEFINITION. Sys2Proof/Config.lean: what an implementation fixes, and the free values: constants with no body, so
that no proof can lean on a value the manual leaves open. -/

namespace Sys2Proof

/-- A fresh free value: applied to the counter `State.free`, which every use advances (log 3). -/
opaque Config.freeValue : Nat → Nat

/-- Deviation of a CORDIC result from the exact value, by unit operation (0 cosine, 1 sine, 2 rotated x, 3 rotated y,
4 magnitude, 5 angle) and operands: R127 bounds it (4 LSB, 16 LSB for an angle) and states no more (log 4). -/
opaque Config.cordicDeviation : Nat → W32 → W32 → W32 → Int

/-- A circular post-modify whose LEN is 1 to 3: R106 ignores the low two bits and gives no result for the length 0 that is
left (log 16); of the address and the modifier. -/
opaque Config.oddCircular : W32 → W32 → W32

/-- The estimator of the standard servo program (R184, R185, R190): predicted flux and torque are formulas whose
bit-exact arithmetic the manual does not state; by quantity and a number that names the inputs (log 5). -/
opaque Config.estimator : Nat → List Int → Int

/-- The planned profile of R214: the manual says what the plan must achieve, not its arithmetic; the free plan is
bounded by the limits where it is used (log 6). -/
opaque Config.profile : List Int → Int

/-- The outcome of the cryptographic checks of R410 and R438 on a byte string under the unit's keys, which the manual
does not give (log 7). -/
opaque Config.cryptoCheck : Nat → List Byte → Bool

/-- The plaintext a decryption under K_FAM or K_DEV gives (R410, R411; log 7). -/
opaque Config.decrypt : Nat → List Byte → List Byte

/-- The program words that a decrypted image holds for a loop core, from word 0 on; none where the image does not name the core (R419). The manual
gives no layout of an image (log 7). -/
opaque Config.imageWords : List Byte → Nat → List Nat

/-- HMP firmware of one settings format can read back another (R423; log 7). -/
opaque Config.readsFormat : Nat → Nat → Bool

/-- SHA-384 over a byte string, as 48 bytes spell it (R348): the manual names the function and does not state it (log 7). -/
opaque Config.sha384 : List Byte → List Byte

/-- The length of one system clock in 2^-48 ns at the nominal increment (R277). -/
def Config.nominalInc : Nat := 0x0001400000000000

/-- The first cycle number that is not used: 5,959 times 720,720 (R14). -/
def Config.cycleModulus : Nat := 4294770480

/-- Builder lead, in 10 ns (R23). -/
def Config.builderLead : Nat := 50

end Sys2Proof
end

