-- ==== Sys2Proof/Machine/Events.lean ====
section
/-! DEFINITION. Sys2Proof/Machine/Events.lean: the event codes of Tables 14.11, 15.7 and 16.7 (R401, R427, R453). An event code is
also the fault cause the chapters name (R401). -/

namespace Sys2Proof.Machine

/-- One constructor per event of the manual. -/
inductive Ev where
  | hostJoin
  | hostLeft
  | hostLost
  | faultCleared
  | powerState
  | domainChange
  | boot
  | bootAlt
  | thermalWarn
  | thermalTrip
  | supplyWarn
  | ageingVolt
  | ageingCore
  | ageingGuard
  | ageingWarn
  | ageingNofit
  | hmpRestart
  | resetNLong
  | supplyTrip
  | ringBreak
  | ringSplit
  | ringTopoMismatch
  | ringNoPartner
  | ringBreakUncovered
  | ringFull
  | nodeNew
  | nodeDupId
  | nodeGone
  | nodeBack
  | switchDone
  | switchAbort
  | keeperFew
  | keeperDrop
  | instantDrift
  | nodeCapacity
  | partnerLost
  | flueLost
  | flueLoad
  | twinDetached
  | twinDigest
  | twinTime
  | twinMismatch
  | encFault
  | encOverspeed
  | encIndexMismatch
  | idxReref
  | hallInvalid
  | commMismatch
  | commFault
  | calStale
  | curOffsetRange
  | emuFault
  | curLimit
  | overcurrent
  | motStale
  | motorHot
  | alignDone
  | alignFail
  | psDesat
  | psDclinkShort
  | psUndervolt
  | psOvertemp
  | psInhibited
  | profileReversal
  | softLimit
  | limitPos
  | limitNeg
  | limitChatter
  | followVmax
  | vmCatchup
  | vmSourceLost
  | camEnd
  | regMarksLost
  | homingDone
  | homingReverse
  | homingLimit
  | homingNoIndex
  | homingAbort
  | groupBroken
  | stepStall
  | stepOvercurrent
  | stepOpenPhase
  | stepOvertemp
  | stepInhibited
  | stepVlimit
  | acqStopped
  | tbStep
  | tbHoldover
  | ptpRx
  | ptpTxts
  | fieldChange
  | fieldWirebreak
  | fieldOutFault
  | fieldStuckOn
  | fieldTpFail
  | damperShut
  | damperOpen
  | resetStuck
  | resetRefused
  | connStartFail
  | sigDiscrepancy
  | safeConfigInvalid
  | stoFb
  | sbcFb
  | ss1Envelope
  | ss2Envelope
  | sosViolation
  | slsViolation
  | sdiViolation
  | sposStep
  | posDiscrepancy
  | updateActive
  | updateFallback
  | updateConfirmed
  | updateCfgLossy
  | sootLost
  | lateLimit
  | loopTrap
  | accOverflow
  | cycleMargin
  deriving DecidableEq, Repr

/-- The event code (Tables 14.11, 15.7, 16.7). -/
def Ev.code : Ev → Nat
  | .hostJoin => 0x0001
  | .hostLeft => 0x0002
  | .hostLost => 0x0003
  | .faultCleared => 0x0004
  | .powerState => 0x0020
  | .domainChange => 0x0021
  | .boot => 0x0022
  | .bootAlt => 0x0023
  | .thermalWarn => 0x0024
  | .thermalTrip => 0x0025
  | .supplyWarn => 0x0026
  | .ageingVolt => 0x0027
  | .ageingCore => 0x0028
  | .ageingGuard => 0x0029
  | .ageingWarn => 0x002A
  | .ageingNofit => 0x002B
  | .hmpRestart => 0x002C
  | .resetNLong => 0x002D
  | .supplyTrip => 0x002E
  | .ringBreak => 0x0101
  | .ringSplit => 0x0102
  | .ringTopoMismatch => 0x0103
  | .ringNoPartner => 0x0104
  | .ringBreakUncovered => 0x0105
  | .ringFull => 0x0106
  | .nodeNew => 0x0107
  | .nodeDupId => 0x0108
  | .nodeGone => 0x0109
  | .nodeBack => 0x010A
  | .switchDone => 0x010B
  | .switchAbort => 0x010C
  | .keeperFew => 0x010D
  | .keeperDrop => 0x010E
  | .instantDrift => 0x010F
  | .nodeCapacity => 0x0110
  | .partnerLost => 0x0140
  | .flueLost => 0x0141
  | .flueLoad => 0x0142
  | .twinDetached => 0x0143
  | .twinDigest => 0x0144
  | .twinTime => 0x0145
  | .twinMismatch => 0x0146
  | .encFault => 0x0201
  | .encOverspeed => 0x0202
  | .encIndexMismatch => 0x0203
  | .idxReref => 0x0204
  | .hallInvalid => 0x0205
  | .commMismatch => 0x0206
  | .commFault => 0x0207
  | .calStale => 0x0208
  | .curOffsetRange => 0x0209
  | .emuFault => 0x020A
  | .curLimit => 0x0220
  | .overcurrent => 0x0221
  | .motStale => 0x0222
  | .motorHot => 0x0223
  | .alignDone => 0x0224
  | .alignFail => 0x0225
  | .psDesat => 0x0226
  | .psDclinkShort => 0x0227
  | .psUndervolt => 0x0228
  | .psOvertemp => 0x0229
  | .psInhibited => 0x022A
  | .profileReversal => 0x0301
  | .softLimit => 0x0302
  | .limitPos => 0x0303
  | .limitNeg => 0x0304
  | .limitChatter => 0x0305
  | .followVmax => 0x0306
  | .vmCatchup => 0x0307
  | .vmSourceLost => 0x0308
  | .camEnd => 0x0309
  | .regMarksLost => 0x030A
  | .homingDone => 0x030B
  | .homingReverse => 0x030C
  | .homingLimit => 0x030D
  | .homingNoIndex => 0x030E
  | .homingAbort => 0x030F
  | .groupBroken => 0x0310
  | .stepStall => 0x0311
  | .stepOvercurrent => 0x0312
  | .stepOpenPhase => 0x0313
  | .stepOvertemp => 0x0314
  | .stepInhibited => 0x0315
  | .stepVlimit => 0x0316
  | .acqStopped => 0x0401
  | .tbStep => 0x0501
  | .tbHoldover => 0x0502
  | .ptpRx => 0x0503
  | .ptpTxts => 0x0504
  | .fieldChange => 0x0601
  | .fieldWirebreak => 0x0602
  | .fieldOutFault => 0x0603
  | .fieldStuckOn => 0x0604
  | .fieldTpFail => 0x0605
  | .damperShut => 0x0701
  | .damperOpen => 0x0702
  | .resetStuck => 0x0703
  | .resetRefused => 0x0704
  | .connStartFail => 0x0705
  | .sigDiscrepancy => 0x0706
  | .safeConfigInvalid => 0x0707
  | .stoFb => 0x0708
  | .sbcFb => 0x0709
  | .ss1Envelope => 0x070A
  | .ss2Envelope => 0x070B
  | .sosViolation => 0x070C
  | .slsViolation => 0x070D
  | .sdiViolation => 0x070E
  | .sposStep => 0x070F
  | .posDiscrepancy => 0x0710
  | .updateActive => 0x0801
  | .updateFallback => 0x0802
  | .updateConfirmed => 0x0803
  | .updateCfgLossy => 0x0804
  | .sootLost => 0x0901
  | .lateLimit => 0x0A01
  | .loopTrap => 0x0A02
  | .accOverflow => 0x0A03
  | .cycleMargin => 0x0A04

/-- The group of an event: bit g of a context's mask enables group 0x0gxx (R402). -/
def Ev.group (e : Ev) : Nat := e.code / 256

end Sys2Proof.Machine
end

