-- ==== Sys2Proof/Machine/RegMap.lean ====
section
/-! DEFINITION. Sys2Proof/Machine/RegMap.lean: every register field of the manual's register tables (R32, R59, R94,
R128, R148, R177, R209, R249, R275, R300, R319, R355, R374, R396, R404, R426, R451): its block, its place, its access
code (R5), its reset value and its retention class (R7), copied from the tables' rows. A reserved field is no field: it reads zero
and ignores writes (R5). -/

namespace Sys2Proof.Machine

/-- Access codes of Table 0.3 (R5). -/
inductive Access where
  | ro | rw | wo | w1c | rc
  deriving DecidableEq, Repr

/-- Retention classes of Table 0.4 (R7). -/
inductive Retention where
  | f | n | e | w | d
  deriving DecidableEq, Repr

/-- The register blocks of Table 14.6, and the BAR2 ring registers of Table 14.7. -/
inductive Block where
  | cycle | ring | ringOp | twin | loopCore | grate | feedback | servo | motion | acq | time | field | saf | bar2 | host | power | update
  deriving DecidableEq, Repr

/-- What a register table says of one field. -/
structure FldInfo where
  block : Block
  offset : Nat
  stride : Nat
  count : Nat
  hi : Nat
  lo : Nat
  access : Access
  reset : Nat
  retention : Retention
  deriving DecidableEq, Repr

/-- The first byte of each block in BAR0 (Table 14.6); the BAR2 registers stand past the end of BAR0 here. -/
def Block.base : Block → Nat
  | .cycle => 0x10000
  | .ring => 0x20000
  | .ringOp => 0x30000
  | .twin => 0x40000
  | .loopCore => 0x50000
  | .grate => 0x60000
  | .feedback => 0x70000
  | .servo => 0x80000
  | .motion => 0x90000
  | .acq => 0xA0000
  | .time => 0xB0000
  | .field => 0xC0000
  | .saf => 0xD0000
  | .bar2 => 0x100000
  | .host => 0x0
  | .power => 0xE0000
  | .update => 0xF0000

/-- One constructor per register field of the manual. -/
inductive Fld where
  | CYC_NOW_CYCLE
  | CYC_MODE_SM
  | CYC_MODE_RUN
  | CYC_PERIOD_PERIOD
  | CYC_TIMES_TIN_LEAD
  | CYC_TIMES_TOUT_OFS
  | CYC_INDONE_INDONE
  | CYC_WINDOW_WINDOW
  | CYC_OVERBUDGET_COUNT
  | CYC_LATE_TOTAL_COUNT
  | AX_LATE_LIMIT
  | AX_LATE_CONSEC
  | AX_LATE_CNT_OVERRUN
  | AX_LATE_CNT_MISSING
  | RING_STAT_LINK_A
  | RING_STAT_LINK_B
  | RING_STAT_GEN
  | RING_STAT_TOPO
  | RING_STAT_BROKEN
  | RING_STAT_LAG
  | RING_STAT_LOOP_A
  | RING_STAT_LOOP_B
  | RING_STAT_BRK_CLASS
  | RING_BRK_INDONE_BRK
  | PORT_FRAMES_TX_COUNT
  | PORT_FRAMES_RX_COUNT
  | PORT_HDR_ERR_COUNT
  | PORT_TRL_ERR_COUNT
  | PORT_LINK_DOWN_COUNT
  | PORT_HIBER_COUNT
  | PORT_LOOPED_COUNT
  | PORT_DROPPED_COUNT
  | PORT_STALE_COUNT
  | NODE_ERR_CRC_ERR
  | NODE_ERR_DUP
  | NODE_LOST_LOST
  | NODE_LOST_EMPTY_TX
  | NODE_FLAGS_LATE_INST
  | NODE_FLAGS_DL_ERR
  | NODE_ARR_LAST
  | NODE_ARR_MAX
  | RK_STAT_STATE
  | RK_STAT_NODES
  | RK_STAT_PENDING
  | RK_CFG_PRIO
  | RK_CFG_AUTO
  | RK_CFG_TOPO
  | RK_CFG_GEN
  | RK_CFG_ACCEPT_NEW
  | RK_CFG_START_SM
  | RK_SERIAL_LO_SERIAL
  | RK_SERIAL_HI_SERIAL
  | RK_LOOP_L
  | RK_HEADS_EPS
  | SW_STAT_NEXT_SM
  | SW_STAT_ARMED
  | SW_STAT_RESULT
  | SW_STAT_NOACK_ADDR
  | SW_STAT_PRELOADED
  | SW_CYCLE_CYCLE
  | SW_CFG_ARM_LEAD
  | SW_CFG_RC_EXP
  | SW_CFG_RC_OFF
  | TK_STAT_K
  | TK_STAT_F
  | TK_STAT_HOLD
  | TK_MOFF_MOFF
  | TK_MRATE_MRATE
  | TK_CFG_SLEW
  | TK_CFG_RSTEP
  | TK_DRIFT_DRIFT_LIMIT
  | TK_DRIFT_READMIT
  | NODE_STATE_PRESENCE
  | NODE_STATE_KEEPER
  | NODE_STATE_IN_SET
  | NODE_STATE_LOCKED
  | NODE_STATE_CLASS
  | NODE_STATE_VENDOR
  | NODE_SERIAL_LO_SERIAL
  | NODE_SERIAL_HI_SERIAL
  | NODE_DRIFT_CONSEC
  | NODE_DRIFT_LAST_D
  | TWIN_STAT_ROLE
  | TWIN_STAT_SYNC
  | TWIN_STAT_LANE0
  | TWIN_STAT_LANE1
  | TWIN_STAT_PARTNER_RING
  | TWIN_STAT_JOIN_PCT
  | TWIN_CFG_ENABLE
  | TWIN_CFG_LATE_LIMIT
  | TWIN_CFG_EPS_MAX
  | TWIN_LAT_LAT
  | TWIN_LOAD_LAST
  | TWIN_LOAD_MAX
  | TWIN_CNT_DIGEST_DIFF
  | TWIN_CNT_VOIDED
  | TWIN_CNT2_FLUE_LATE
  | TWIN_CNT2_FLUE_ERR
  | TWIN_CNT3_ROLE_CHANGES
  | TWIN_CNT3_SILENT
  | TWIN_PSER_LO_SERIAL
  | TWIN_PSER_HI_SERIAL
  | TWIN_AX_DIFF
  | TWIN_AX_VOID
  | LC_STAT_STATE
  | LC_STAT_LAST_TS
  | LC_STAT_PC
  | LC_TRAP_CAUSE
  | LC_TRAP_PC
  | LC_COUNT_TRAPS
  | LC_COUNT_OVG
  | LC_ECC_CORR
  | LC_ECC_UNCORR
  | LC_BUSY_CLOCKS
  | LC_DBG_HALT_REQ
  | LC_DBG_RESUME
  | LC_DBG_DEBUG
  | GR_STAT_REFUSED
  | GR_STAT_CTR_EXTRA
  | GR_STAT_TRACE_FULL
  | GR_USE_DESC
  | GR_USE_DELAY
  | GR_RDYMAX_MAX
  | GR_LATMAX_CLOCKS
  | GR_LATMAX_WAITMAX
  | GR_DISPATCH_COUNT
  | GR_REFUSED_COUNT
  | GR_TRACE_CFG_EVMASK
  | GR_TRACE_CFG_ENABLE
  | GR_TRACE_LOST_COUNT
  | GR_TRACE_FILL_FILL
  | FB_STAT_SPEED_VALID
  | FB_STAT_COMM_STATE
  | FB_STAT_CAL_STALE
  | FB_STAT_LEARN_HOLD
  | FB_STAT_REFERENCED
  | FB_STAT_BRIDGED
  | FB_STAT_TEMP_OLD
  | FB_STAT_W
  | FB_CNT_FUSION
  | FB_CNT_IDX_MISMATCH
  | FB_CNT2_IDX_TRIM
  | FB_CNT2_HALL_ERR
  | FB_CNT3_AMP_ERR
  | FB_CNT3_OVERSPEED
  | EMU_STAT_RUN
  | EMU_STAT_LAG
  | EMU_STAT_FAULT
  | EMU_STAT_SRC_INVALID
  | EMU_STAT_SHIFTED
  | EMU_STAT_LAG_CNT
  | EMU_COUNT_COUNT
  | SV_STAT_CMODE
  | SV_STAT_BOUND
  | SV_STAT_ALIGNING
  | SV_STAT_NO_COMM
  | SV_STAT_BAND_LIMIT
  | SV_STAT_CUR_LIMIT
  | SV_STAT_REFRESHED
  | SV_STAT_LAST_PS
  | SV_BIND_ADDR
  | SV_BIND_BLK
  | SV_BIND_NPC
  | SV_CNT_DESAT
  | SV_CNT_UV
  | SV_CNT2_REFRESH
  | SV_CNT2_INH_SEEN
  | SV_SWF_SWF
  | SV_BAND_BT
  | SV_TDEM_TDEM
  | SV_DESAT_DESAT_T
  | SV_DESAT_LEGS
  | SV_DESAT_SHORT
  | MO_STAT_MODE
  | MO_STAT_IN_POS
  | MO_STAT_HOMED
  | MO_STAT_SYNC
  | MO_STAT_REVERSING
  | MO_STAT_LIM_POS
  | MO_STAT_LIM_NEG
  | MO_STAT_HOME_IN
  | MO_STAT_REG_HOLD
  | MO_STAT_FC
  | MO_STAT_HSTEP
  | MO_POS_LO_POS
  | MO_POS_HI_POS
  | MO_VEL_VEL
  | MO_CNT_REVERSALS
  | MO_CNT_CHATTER
  | MO_REG_LAST_ERR
  | MO_REG_CNT_MISS
  | MO_REG_CNT_OUTSIDE
  | MO_REG_CNT_OVER
  | MO_REG_CNT_VM_STALE
  | ST_STAT_IST
  | ST_STAT_DELTA
  | ST_STAT_VLIMIT
  | VM_STAT_SRC
  | VM_STAT_RUN
  | VM_STAT_CATCHUP
  | VM_POS_LO_POS
  | VM_POS_HI_POS
  | VM_VEL_VEL
  | GRP_STAT_MOVING
  | GRP_STAT_BROKEN
  | GRP_STAT_LEAD
  | GRP_STAT_MEMBERS
  | GRP_S_S
  | REC_STAT_STATE
  | REC_STAT_PRE_SHORT
  | REC_STAT_CAUSE
  | REC_SEQ_SEQ
  | REC_TRIG_SEQ_SEQ
  | REC_CNT_MISS
  | REC_CNT_HOLDOFF
  | REC_CNT2_WRAPS
  | REC_CNT2_ACCEPTED
  | REC_TLAST0_T
  | REC_TLAST1_T
  | REC_TLAST2_T
  | ACQ_BW_USED
  | ACQ_AREA_ALLOC
  | ADC_STAT_SETTLED
  | ADC_STAT_REF
  | ADC_STAT_INTERLEAVED
  | ADC_STAT_START
  | ADC_CNT_START_LOST
  | ADC_CNT_CLIP
  | ADC_RATE_RATE
  | TB_NOW0_T
  | TB_NOW1_T
  | TB_NOW2_T
  | TB_INC_LO_INC
  | TB_INC_HI_INC
  | TB_STAT_MODE
  | TB_STAT_HOLDOVER
  | TB_STAT_STEPPED
  | TB_OFS_THETA
  | TB_RHO_RHO
  | TB_CNT_FEEDS
  | TB_CNT_STEPS
  | TB_CNT_REJECTS
  | TIN_STAT_FILL
  | TIN_STAT_TB
  | TIN_STAT_EDGE
  | TIN_STAT_FEED
  | TIN_CNT_CAPTURES
  | TIN_CNT_LOST
  | TOUT_STAT_MODE
  | TOUT_STAT_ACTIVE
  | TOUT_STAT_LATE
  | TOUT_STAT_TB
  | TOUT_CNT_PULSES
  | TOUT_CNT_SKIPPED
  | PTP_STAT_ENABLE
  | PTP_STAT_BOUND
  | PTP_STAT_OWNER
  | PTP_STAT_TB3
  | PTP_STAT_TXQ
  | PTP_TXADJ_ADJ
  | PTP_RXADJ_ADJ
  | PTP_RX_COUNT
  | PTP_TX_COUNT
  | PTP_LOSS_REFUSED
  | PTP_LOSS_RX_LOST
  | FIO_IN_STATE
  | FIO_RAW_RAW
  | FIO_OUT_ON
  | FIO_SUPPLY_VF0
  | FIO_SUPPLY_VF1
  | FIO_SUPPLY_UV0
  | FIO_SUPPLY_UV1
  | FIO_CH_STAT_MODE
  | FIO_CH_STAT_OWNER
  | FIO_CH_STAT_BREAK
  | FIO_CH_STAT_FAULT
  | FIO_CH_STAT_LATCHED
  | FIO_CH_STAT_TP_FAIL
  | FIO_CH_STAT_MEAS
  | FIO_CH_CNT_CHANGES
  | FIO_CH_CNT_BREAKS
  | FIO_CH_CNT2_OUT_FAULTS
  | FIO_CH_CNT2_TP_FAILS
  | SAF_STAT_STATE
  | SAF_STAT_CONFIG_VALID
  | SAF_STAT_SESSION
  | SAF_STAT_SESSION_CTX
  | SAF_STAT_LOCKOUT
  | SAF_STAT_VERSION
  | SAF_CRC_CRC
  | SAF_SHUT_SHUT
  | SAF_FAULT_CAUSE
  | SAF_FAULT_LATE
  | SAF_LOG_NUM
  | SAF_STEPS_LEFT
  | SAF_ZONE_CAUSE
  | SAF_ZONE_SHUT
  | SAF_ZONE_STUCK
  | SAF_ZONE_REFUSED
  | SAF_ZONE_SHORT
  | SAF_CONN_STATE
  | SAF_CONN_RUN_PERMIT
  | SAF_CONN_STO_ACTIVE
  | SAF_CONN_BRAKE_OPEN
  | SAF_CONN_ZONE
  | SAF_CONN_FUNC
  | SAF_CONN_CNT_CRC_ERR
  | SAF_CONN_CNT_SEQ_GAP
  | SAF_CONN_CNT2_REPEAT
  | SAF_CONN_CNT2_FAULTS
  | SAF_CONN_DISC_DISC
  | CTX_CTRL_ENABLE
  | CTX_CTRL_RESET
  | CTX_STAT_RUN
  | CTX_STAT_SESSION
  | CTX_STAT_ERR
  | CTX_BEAT_BEAT
  | Q_BASE_LO_BASE
  | Q_BASE_HI_BASE
  | Q_SIZE_LOG2
  | Q_PROD_IDX
  | Q_CONS_IDX
  | HOST_STAT_OPEN
  | HOST_STAT_CFG_CTX
  | HOST_STAT_CFG_HELD
  | ETH_STAT_LINK
  | ETH_STAT_SPEED
  | ETH_STAT_SET
  | ETH_DROP_COUNT
  | ETH_ERR_CRC_ERR
  | ETH_ERR_BAD_FRAME
  | ETH_RX_COUNT
  | HOST_CTX_STATE
  | HOST_CTX_CONFIG
  | HOST_CTX_RIGHTS
  | HOST_CTX_LEASE
  | HOST_SEQ_NEXT
  | HOST_SEQ_EVNEXT
  | HOST_CNT_BAD_SEQ
  | HOST_CNT_EV_LOST
  | HOST_CNT2_DUP
  | HOST_CNT2_WR_DENIED
  | ACQ_WIN_FIRST
  | PWR_STAT_STATE
  | PWR_STAT_CHANGING
  | PWR_DOM_ON
  | PWR_CFG_RUN_ON
  | RST_CAUSE_KIND
  | RST_CAUSE_HMP_RESTARTS
  | RST_BOOTS_COUNT
  | RST_NLONG_MS
  | HLTH_TJ_TJ
  | HLTH_TJ_MAX
  | HLTH_VCORE_MV
  | HLTH_VCORE_TARGET
  | HLTH_FLAGS_THERM_WARN
  | HLTH_FLAGS_SUP_WARN
  | HLTH_FLAGS_REFCLK_FB
  | AG_SLACK_SLACK
  | AG_SLACK_FRESH
  | AG_CORE_LO_WORN
  | AG_CORE_HI_WORN
  | AG_STAT_VRAISE
  | AG_STAT_GUARD
  | AG_STAT_DAYS
  | AG_CFG_WARN_DAYS
  | AG_CFG_SLACK_LO
  | AG_CFG_SLACK_MIN
  | AG_HOURS_HOURS
  | SOOT_NEXT_SEQ
  | SOOT_CNT_LOST
  | SOOT_HELD_COUNT
  | TRACE_WR_COUNT
  | UPD_STAT_STATE
  | UPD_STAT_TWIN_HALF
  | UPD_STAT_RESULT
  | UPD_STAT_CTX
  | UPD_CYCLE_CYCLE
  | UPD_LEFT_SECONDS
  | UPD_CFG_FMT
  | UPD_CFG_LOSSY
  | FW_ACT_VERSION
  | FW_ALT_VERSION
  | FW_KEYS_REVOKED
  | FW_RB_MAJOR
  | FW_BANK_LO_BANK
  | FW_BANK_HI_BANK
  deriving DecidableEq, Repr

/-- The row of each field. -/
def Fld.info : Fld → FldInfo
  | .CYC_NOW_CYCLE => ⟨.cycle, 0x0, 0, 1, 31, 0, .ro, 0, .d⟩
  | .CYC_MODE_SM => ⟨.cycle, 0x4, 0, 1, 2, 0, .ro, 0, .d⟩
  | .CYC_MODE_RUN => ⟨.cycle, 0x4, 0, 1, 8, 8, .ro, 0, .d⟩
  | .CYC_PERIOD_PERIOD => ⟨.cycle, 0x8, 0, 1, 31, 0, .ro, 0, .d⟩
  | .CYC_TIMES_TIN_LEAD => ⟨.cycle, 0xC, 0, 1, 15, 0, .ro, 0x00C8, .d⟩
  | .CYC_TIMES_TOUT_OFS => ⟨.cycle, 0xC, 0, 1, 31, 16, .ro, 0, .d⟩
  | .CYC_INDONE_INDONE => ⟨.cycle, 0x10, 0, 1, 31, 0, .ro, 0, .d⟩
  | .CYC_WINDOW_WINDOW => ⟨.cycle, 0x14, 0, 1, 31, 0, .ro, 0, .d⟩
  | .CYC_OVERBUDGET_COUNT => ⟨.cycle, 0x18, 0, 1, 31, 0, .rc, 0, .w⟩
  | .CYC_LATE_TOTAL_COUNT => ⟨.cycle, 0x1C, 0, 1, 31, 0, .rc, 0, .w⟩
  | .AX_LATE_LIMIT => ⟨.cycle, 0x100, 8, 640, 7, 0, .rw, 3, .w⟩
  | .AX_LATE_CONSEC => ⟨.cycle, 0x100, 8, 640, 15, 8, .ro, 0, .d⟩
  | .AX_LATE_CNT_OVERRUN => ⟨.cycle, 0x104, 8, 640, 15, 0, .rc, 0, .w⟩
  | .AX_LATE_CNT_MISSING => ⟨.cycle, 0x104, 8, 640, 31, 16, .rc, 0, .w⟩
  | .RING_STAT_LINK_A => ⟨.ring, 0x0, 0, 1, 0, 0, .ro, 0, .d⟩
  | .RING_STAT_LINK_B => ⟨.ring, 0x0, 0, 1, 1, 1, .ro, 0, .d⟩
  | .RING_STAT_GEN => ⟨.ring, 0x0, 0, 1, 2, 2, .ro, 0, .d⟩
  | .RING_STAT_TOPO => ⟨.ring, 0x0, 0, 1, 4, 3, .ro, 0, .d⟩
  | .RING_STAT_BROKEN => ⟨.ring, 0x0, 0, 1, 5, 5, .ro, 0, .d⟩
  | .RING_STAT_LAG => ⟨.ring, 0x0, 0, 1, 6, 6, .ro, 0, .d⟩
  | .RING_STAT_LOOP_A => ⟨.ring, 0x0, 0, 1, 15, 8, .ro, 0, .d⟩
  | .RING_STAT_LOOP_B => ⟨.ring, 0x0, 0, 1, 23, 16, .ro, 0, .d⟩
  | .RING_STAT_BRK_CLASS => ⟨.ring, 0x0, 0, 1, 25, 24, .ro, 0, .d⟩
  | .RING_BRK_INDONE_BRK => ⟨.ring, 0x4, 0, 1, 31, 0, .ro, 0, .d⟩
  | .PORT_FRAMES_TX_COUNT => ⟨.ring, 0x10, 64, 2, 31, 0, .rc, 0, .w⟩
  | .PORT_FRAMES_RX_COUNT => ⟨.ring, 0x14, 64, 2, 31, 0, .rc, 0, .w⟩
  | .PORT_HDR_ERR_COUNT => ⟨.ring, 0x18, 64, 2, 31, 0, .rc, 0, .w⟩
  | .PORT_TRL_ERR_COUNT => ⟨.ring, 0x1C, 64, 2, 31, 0, .rc, 0, .w⟩
  | .PORT_LINK_DOWN_COUNT => ⟨.ring, 0x20, 64, 2, 31, 0, .rc, 0, .w⟩
  | .PORT_HIBER_COUNT => ⟨.ring, 0x24, 64, 2, 31, 0, .rc, 0, .w⟩
  | .PORT_LOOPED_COUNT => ⟨.ring, 0x28, 64, 2, 31, 0, .rc, 0, .w⟩
  | .PORT_DROPPED_COUNT => ⟨.ring, 0x2C, 64, 2, 31, 0, .rc, 0, .w⟩
  | .PORT_STALE_COUNT => ⟨.ring, 0x30, 64, 2, 31, 0, .rc, 0, .w⟩
  | .NODE_ERR_CRC_ERR => ⟨.ring, 0x100, 16, 255, 15, 0, .rc, 0, .w⟩
  | .NODE_ERR_DUP => ⟨.ring, 0x100, 16, 255, 31, 16, .rc, 0, .w⟩
  | .NODE_LOST_LOST => ⟨.ring, 0x104, 16, 255, 15, 0, .rc, 0, .w⟩
  | .NODE_LOST_EMPTY_TX => ⟨.ring, 0x104, 16, 255, 31, 16, .rc, 0, .w⟩
  | .NODE_FLAGS_LATE_INST => ⟨.ring, 0x108, 16, 255, 15, 0, .rc, 0, .w⟩
  | .NODE_FLAGS_DL_ERR => ⟨.ring, 0x108, 16, 255, 31, 16, .rc, 0, .w⟩
  | .NODE_ARR_LAST => ⟨.ring, 0x10C, 16, 255, 15, 0, .ro, 0, .d⟩
  | .NODE_ARR_MAX => ⟨.ring, 0x10C, 16, 255, 31, 16, .rc, 0, .w⟩
  | .RK_STAT_STATE => ⟨.ringOp, 0x0, 0, 1, 3, 0, .ro, 0, .d⟩
  | .RK_STAT_NODES => ⟨.ringOp, 0x0, 0, 1, 15, 8, .ro, 0, .d⟩
  | .RK_STAT_PENDING => ⟨.ringOp, 0x0, 0, 1, 23, 16, .ro, 0, .d⟩
  | .RK_CFG_PRIO => ⟨.ringOp, 0x4, 0, 1, 7, 0, .rw, 0x80, .n⟩
  | .RK_CFG_AUTO => ⟨.ringOp, 0x4, 0, 1, 8, 8, .rw, 0, .n⟩
  | .RK_CFG_TOPO => ⟨.ringOp, 0x4, 0, 1, 10, 9, .rw, 1, .n⟩
  | .RK_CFG_GEN => ⟨.ringOp, 0x4, 0, 1, 11, 11, .rw, 1, .n⟩
  | .RK_CFG_ACCEPT_NEW => ⟨.ringOp, 0x4, 0, 1, 12, 12, .rw, 1, .n⟩
  | .RK_CFG_START_SM => ⟨.ringOp, 0x4, 0, 1, 23, 16, .rw, 0xFF, .n⟩
  | .RK_SERIAL_LO_SERIAL => ⟨.ringOp, 0x8, 0, 1, 31, 0, .ro, 0, .f⟩
  | .RK_SERIAL_HI_SERIAL => ⟨.ringOp, 0xC, 0, 1, 31, 0, .ro, 0, .f⟩
  | .RK_LOOP_L => ⟨.ringOp, 0x10, 0, 1, 31, 0, .ro, 0, .d⟩
  | .RK_HEADS_EPS => ⟨.ringOp, 0x14, 0, 1, 31, 0, .ro, 0, .d⟩
  | .SW_STAT_NEXT_SM => ⟨.ringOp, 0x20, 0, 1, 2, 0, .ro, 0, .d⟩
  | .SW_STAT_ARMED => ⟨.ringOp, 0x20, 0, 1, 3, 3, .ro, 0, .d⟩
  | .SW_STAT_RESULT => ⟨.ringOp, 0x20, 0, 1, 15, 8, .ro, 0, .d⟩
  | .SW_STAT_NOACK_ADDR => ⟨.ringOp, 0x20, 0, 1, 23, 16, .ro, 0, .d⟩
  | .SW_STAT_PRELOADED => ⟨.ringOp, 0x20, 0, 1, 31, 24, .ro, 0, .d⟩
  | .SW_CYCLE_CYCLE => ⟨.ringOp, 0x24, 0, 1, 31, 0, .ro, 0xFFFFFFFF, .d⟩
  | .SW_CFG_ARM_LEAD => ⟨.ringOp, 0x28, 0, 1, 15, 0, .rw, 0x0040, .w⟩
  | .SW_CFG_RC_EXP => ⟨.ringOp, 0x28, 0, 1, 19, 16, .rw, 0xA, .w⟩
  | .SW_CFG_RC_OFF => ⟨.ringOp, 0x28, 0, 1, 20, 20, .rw, 0, .w⟩
  | .TK_STAT_K => ⟨.ringOp, 0x30, 0, 1, 7, 0, .ro, 0, .d⟩
  | .TK_STAT_F => ⟨.ringOp, 0x30, 0, 1, 15, 8, .ro, 0, .d⟩
  | .TK_STAT_HOLD => ⟨.ringOp, 0x30, 0, 1, 16, 16, .ro, 0, .d⟩
  | .TK_MOFF_MOFF => ⟨.ringOp, 0x34, 0, 1, 31, 0, .ro, 0, .d⟩
  | .TK_MRATE_MRATE => ⟨.ringOp, 0x38, 0, 1, 31, 0, .ro, 0, .d⟩
  | .TK_CFG_SLEW => ⟨.ringOp, 0x3C, 0, 1, 15, 0, .rw, 0x0020, .w⟩
  | .TK_CFG_RSTEP => ⟨.ringOp, 0x3C, 0, 1, 31, 16, .rw, 0x01AD, .w⟩
  | .TK_DRIFT_DRIFT_LIMIT => ⟨.ringOp, 0x40, 0, 1, 15, 0, .rw, 0x0040, .w⟩
  | .TK_DRIFT_READMIT => ⟨.ringOp, 0x40, 0, 1, 31, 16, .rw, 0x1000, .w⟩
  | .NODE_STATE_PRESENCE => ⟨.ringOp, 0x100, 16, 255, 1, 0, .ro, 0, .w⟩
  | .NODE_STATE_KEEPER => ⟨.ringOp, 0x100, 16, 255, 2, 2, .ro, 0, .d⟩
  | .NODE_STATE_IN_SET => ⟨.ringOp, 0x100, 16, 255, 3, 3, .ro, 0, .d⟩
  | .NODE_STATE_LOCKED => ⟨.ringOp, 0x100, 16, 255, 4, 4, .ro, 0, .d⟩
  | .NODE_STATE_CLASS => ⟨.ringOp, 0x100, 16, 255, 15, 8, .ro, 0, .w⟩
  | .NODE_STATE_VENDOR => ⟨.ringOp, 0x100, 16, 255, 31, 16, .ro, 0, .w⟩
  | .NODE_SERIAL_LO_SERIAL => ⟨.ringOp, 0x104, 16, 255, 31, 0, .ro, 0, .w⟩
  | .NODE_SERIAL_HI_SERIAL => ⟨.ringOp, 0x108, 16, 255, 31, 0, .ro, 0, .w⟩
  | .NODE_DRIFT_CONSEC => ⟨.ringOp, 0x10C, 16, 255, 15, 0, .ro, 0, .d⟩
  | .NODE_DRIFT_LAST_D => ⟨.ringOp, 0x10C, 16, 255, 31, 16, .ro, 0, .d⟩
  | .TWIN_STAT_ROLE => ⟨.twin, 0x0, 0, 1, 1, 0, .ro, 0, .d⟩
  | .TWIN_STAT_SYNC => ⟨.twin, 0x0, 0, 1, 4, 2, .ro, 0, .d⟩
  | .TWIN_STAT_LANE0 => ⟨.twin, 0x0, 0, 1, 5, 5, .ro, 0, .d⟩
  | .TWIN_STAT_LANE1 => ⟨.twin, 0x0, 0, 1, 6, 6, .ro, 0, .d⟩
  | .TWIN_STAT_PARTNER_RING => ⟨.twin, 0x0, 0, 1, 7, 7, .ro, 0, .d⟩
  | .TWIN_STAT_JOIN_PCT => ⟨.twin, 0x0, 0, 1, 15, 8, .ro, 0, .d⟩
  | .TWIN_CFG_ENABLE => ⟨.twin, 0x4, 0, 1, 0, 0, .rw, 0, .n⟩
  | .TWIN_CFG_LATE_LIMIT => ⟨.twin, 0x4, 0, 1, 15, 8, .rw, 8, .n⟩
  | .TWIN_CFG_EPS_MAX => ⟨.twin, 0x4, 0, 1, 31, 16, .rw, 0x0064, .n⟩
  | .TWIN_LAT_LAT => ⟨.twin, 0x8, 0, 1, 15, 0, .ro, 0, .d⟩
  | .TWIN_LOAD_LAST => ⟨.twin, 0xC, 0, 1, 7, 0, .ro, 0, .d⟩
  | .TWIN_LOAD_MAX => ⟨.twin, 0xC, 0, 1, 15, 8, .rc, 0, .w⟩
  | .TWIN_CNT_DIGEST_DIFF => ⟨.twin, 0x10, 0, 1, 15, 0, .rc, 0, .w⟩
  | .TWIN_CNT_VOIDED => ⟨.twin, 0x10, 0, 1, 31, 16, .rc, 0, .w⟩
  | .TWIN_CNT2_FLUE_LATE => ⟨.twin, 0x14, 0, 1, 15, 0, .rc, 0, .w⟩
  | .TWIN_CNT2_FLUE_ERR => ⟨.twin, 0x14, 0, 1, 31, 16, .rc, 0, .w⟩
  | .TWIN_CNT3_ROLE_CHANGES => ⟨.twin, 0x18, 0, 1, 15, 0, .rc, 0, .w⟩
  | .TWIN_CNT3_SILENT => ⟨.twin, 0x18, 0, 1, 31, 16, .rc, 0, .w⟩
  | .TWIN_PSER_LO_SERIAL => ⟨.twin, 0x1C, 0, 1, 31, 0, .ro, 0, .w⟩
  | .TWIN_PSER_HI_SERIAL => ⟨.twin, 0x20, 0, 1, 31, 0, .ro, 0, .w⟩
  | .TWIN_AX_DIFF => ⟨.twin, 0x100, 4, 640, 15, 0, .rc, 0, .w⟩
  | .TWIN_AX_VOID => ⟨.twin, 0x100, 4, 640, 31, 16, .rc, 0, .w⟩
  | .LC_STAT_STATE => ⟨.loopCore, 0x0, 32, 64, 1, 0, .ro, 0, .d⟩
  | .LC_STAT_LAST_TS => ⟨.loopCore, 0x0, 32, 64, 15, 8, .ro, 0, .d⟩
  | .LC_STAT_PC => ⟨.loopCore, 0x0, 32, 64, 29, 16, .ro, 0, .d⟩
  | .LC_TRAP_CAUSE => ⟨.loopCore, 0x4, 32, 64, 7, 0, .ro, 0, .w⟩
  | .LC_TRAP_PC => ⟨.loopCore, 0x4, 32, 64, 21, 8, .ro, 0, .w⟩
  | .LC_COUNT_TRAPS => ⟨.loopCore, 0x8, 32, 64, 15, 0, .rc, 0, .w⟩
  | .LC_COUNT_OVG => ⟨.loopCore, 0x8, 32, 64, 31, 16, .rc, 0, .w⟩
  | .LC_ECC_CORR => ⟨.loopCore, 0xC, 32, 64, 15, 0, .rc, 0, .w⟩
  | .LC_ECC_UNCORR => ⟨.loopCore, 0xC, 32, 64, 31, 16, .rc, 0, .w⟩
  | .LC_BUSY_CLOCKS => ⟨.loopCore, 0x10, 32, 64, 31, 0, .rc, 0, .w⟩
  | .LC_DBG_HALT_REQ => ⟨.loopCore, 0x14, 32, 64, 0, 0, .wo, 0, .d⟩
  | .LC_DBG_RESUME => ⟨.loopCore, 0x14, 32, 64, 1, 1, .wo, 0, .d⟩
  | .LC_DBG_DEBUG => ⟨.loopCore, 0x14, 32, 64, 2, 2, .ro, 0, .f⟩
  | .GR_STAT_REFUSED => ⟨.grate, 0x0, 64, 4, 0, 0, .w1c, 0, .w⟩
  | .GR_STAT_CTR_EXTRA => ⟨.grate, 0x0, 64, 4, 1, 1, .w1c, 0, .w⟩
  | .GR_STAT_TRACE_FULL => ⟨.grate, 0x0, 64, 4, 2, 2, .ro, 0, .d⟩
  | .GR_USE_DESC => ⟨.grate, 0x4, 64, 4, 12, 0, .ro, 0, .w⟩
  | .GR_USE_DELAY => ⟨.grate, 0x4, 64, 4, 26, 16, .ro, 0, .w⟩
  | .GR_RDYMAX_MAX => ⟨.grate, 0x8, 64, 4, 8, 0, .rc, 0, .w⟩
  | .GR_LATMAX_CLOCKS => ⟨.grate, 0xC, 64, 4, 15, 0, .rc, 0, .w⟩
  | .GR_LATMAX_WAITMAX => ⟨.grate, 0xC, 64, 4, 31, 16, .rc, 0, .w⟩
  | .GR_DISPATCH_COUNT => ⟨.grate, 0x10, 64, 4, 31, 0, .rc, 0, .w⟩
  | .GR_REFUSED_COUNT => ⟨.grate, 0x14, 64, 4, 31, 0, .rc, 0, .w⟩
  | .GR_TRACE_CFG_EVMASK => ⟨.grate, 0x18, 64, 4, 10, 0, .rw, 0, .w⟩
  | .GR_TRACE_CFG_ENABLE => ⟨.grate, 0x18, 64, 4, 16, 16, .rw, 0, .w⟩
  | .GR_TRACE_LOST_COUNT => ⟨.grate, 0x1C, 64, 4, 31, 0, .rc, 0, .w⟩
  | .GR_TRACE_FILL_FILL => ⟨.grate, 0x20, 64, 4, 13, 0, .ro, 0, .d⟩
  | .FB_STAT_SPEED_VALID => ⟨.feedback, 0x0, 16, 128, 0, 0, .ro, 0, .d⟩
  | .FB_STAT_COMM_STATE => ⟨.feedback, 0x0, 16, 128, 2, 1, .ro, 0, .d⟩
  | .FB_STAT_CAL_STALE => ⟨.feedback, 0x0, 16, 128, 3, 3, .ro, 0, .d⟩
  | .FB_STAT_LEARN_HOLD => ⟨.feedback, 0x0, 16, 128, 4, 4, .ro, 0, .d⟩
  | .FB_STAT_REFERENCED => ⟨.feedback, 0x0, 16, 128, 5, 5, .ro, 0, .d⟩
  | .FB_STAT_BRIDGED => ⟨.feedback, 0x0, 16, 128, 6, 6, .ro, 0, .d⟩
  | .FB_STAT_TEMP_OLD => ⟨.feedback, 0x0, 16, 128, 7, 7, .ro, 0, .d⟩
  | .FB_STAT_W => ⟨.feedback, 0x0, 16, 128, 15, 8, .ro, 0, .d⟩
  | .FB_CNT_FUSION => ⟨.feedback, 0x4, 16, 128, 15, 0, .rc, 0, .w⟩
  | .FB_CNT_IDX_MISMATCH => ⟨.feedback, 0x4, 16, 128, 31, 16, .rc, 0, .w⟩
  | .FB_CNT2_IDX_TRIM => ⟨.feedback, 0x8, 16, 128, 15, 0, .rc, 0, .w⟩
  | .FB_CNT2_HALL_ERR => ⟨.feedback, 0x8, 16, 128, 31, 16, .rc, 0, .w⟩
  | .FB_CNT3_AMP_ERR => ⟨.feedback, 0xC, 16, 128, 15, 0, .rc, 0, .w⟩
  | .FB_CNT3_OVERSPEED => ⟨.feedback, 0xC, 16, 128, 31, 16, .rc, 0, .w⟩
  | .EMU_STAT_RUN => ⟨.feedback, 0x800, 16, 4, 0, 0, .ro, 0, .d⟩
  | .EMU_STAT_LAG => ⟨.feedback, 0x800, 16, 4, 1, 1, .ro, 0, .d⟩
  | .EMU_STAT_FAULT => ⟨.feedback, 0x800, 16, 4, 2, 2, .ro, 0, .d⟩
  | .EMU_STAT_SRC_INVALID => ⟨.feedback, 0x800, 16, 4, 3, 3, .ro, 0, .d⟩
  | .EMU_STAT_SHIFTED => ⟨.feedback, 0x800, 16, 4, 4, 4, .w1c, 0, .w⟩
  | .EMU_STAT_LAG_CNT => ⟨.feedback, 0x800, 16, 4, 31, 16, .ro, 0, .d⟩
  | .EMU_COUNT_COUNT => ⟨.feedback, 0x804, 16, 4, 31, 0, .ro, 0, .d⟩
  | .SV_STAT_CMODE => ⟨.servo, 0x0, 32, 128, 1, 0, .ro, 0, .w⟩
  | .SV_STAT_BOUND => ⟨.servo, 0x0, 32, 128, 2, 2, .ro, 0, .w⟩
  | .SV_STAT_ALIGNING => ⟨.servo, 0x0, 32, 128, 3, 3, .ro, 0, .d⟩
  | .SV_STAT_NO_COMM => ⟨.servo, 0x0, 32, 128, 4, 4, .ro, 0, .d⟩
  | .SV_STAT_BAND_LIMIT => ⟨.servo, 0x0, 32, 128, 5, 5, .ro, 0, .d⟩
  | .SV_STAT_CUR_LIMIT => ⟨.servo, 0x0, 32, 128, 6, 6, .ro, 0, .d⟩
  | .SV_STAT_REFRESHED => ⟨.servo, 0x0, 32, 128, 7, 7, .ro, 0, .d⟩
  | .SV_STAT_LAST_PS => ⟨.servo, 0x0, 32, 128, 15, 8, .ro, 0, .d⟩
  | .SV_BIND_ADDR => ⟨.servo, 0x4, 32, 128, 7, 0, .ro, 0, .w⟩
  | .SV_BIND_BLK => ⟨.servo, 0x4, 32, 128, 9, 8, .ro, 0, .w⟩
  | .SV_BIND_NPC => ⟨.servo, 0x4, 32, 128, 10, 10, .ro, 0, .w⟩
  | .SV_CNT_DESAT => ⟨.servo, 0x8, 32, 128, 15, 0, .rc, 0, .w⟩
  | .SV_CNT_UV => ⟨.servo, 0x8, 32, 128, 31, 16, .rc, 0, .w⟩
  | .SV_CNT2_REFRESH => ⟨.servo, 0xC, 32, 128, 15, 0, .rc, 0, .w⟩
  | .SV_CNT2_INH_SEEN => ⟨.servo, 0xC, 32, 128, 31, 16, .rc, 0, .w⟩
  | .SV_SWF_SWF => ⟨.servo, 0x10, 32, 128, 31, 0, .ro, 0, .d⟩
  | .SV_BAND_BT => ⟨.servo, 0x14, 32, 128, 15, 0, .ro, 0, .d⟩
  | .SV_TDEM_TDEM => ⟨.servo, 0x18, 32, 128, 31, 0, .ro, 0, .d⟩
  | .SV_DESAT_DESAT_T => ⟨.servo, 0x1C, 32, 128, 15, 0, .ro, 0, .w⟩
  | .SV_DESAT_LEGS => ⟨.servo, 0x1C, 32, 128, 18, 16, .ro, 0, .w⟩
  | .SV_DESAT_SHORT => ⟨.servo, 0x1C, 32, 128, 19, 19, .w1c, 0, .w⟩
  | .MO_STAT_MODE => ⟨.motion, 0x0, 32, 640, 3, 0, .ro, 0, .d⟩
  | .MO_STAT_IN_POS => ⟨.motion, 0x0, 32, 640, 4, 4, .ro, 0, .d⟩
  | .MO_STAT_HOMED => ⟨.motion, 0x0, 32, 640, 5, 5, .ro, 0, .w⟩
  | .MO_STAT_SYNC => ⟨.motion, 0x0, 32, 640, 6, 6, .ro, 0, .d⟩
  | .MO_STAT_REVERSING => ⟨.motion, 0x0, 32, 640, 7, 7, .ro, 0, .d⟩
  | .MO_STAT_LIM_POS => ⟨.motion, 0x0, 32, 640, 8, 8, .ro, 0, .d⟩
  | .MO_STAT_LIM_NEG => ⟨.motion, 0x0, 32, 640, 9, 9, .ro, 0, .d⟩
  | .MO_STAT_HOME_IN => ⟨.motion, 0x0, 32, 640, 10, 10, .ro, 0, .d⟩
  | .MO_STAT_REG_HOLD => ⟨.motion, 0x0, 32, 640, 11, 11, .ro, 0, .d⟩
  | .MO_STAT_FC => ⟨.motion, 0x0, 32, 640, 14, 12, .ro, 0, .d⟩
  | .MO_STAT_HSTEP => ⟨.motion, 0x0, 32, 640, 23, 16, .ro, 0, .d⟩
  | .MO_POS_LO_POS => ⟨.motion, 0x4, 32, 640, 31, 0, .ro, 0, .d⟩
  | .MO_POS_HI_POS => ⟨.motion, 0x8, 32, 640, 31, 0, .ro, 0, .d⟩
  | .MO_VEL_VEL => ⟨.motion, 0xC, 32, 640, 31, 0, .ro, 0, .d⟩
  | .MO_CNT_REVERSALS => ⟨.motion, 0x10, 32, 640, 15, 0, .rc, 0, .w⟩
  | .MO_CNT_CHATTER => ⟨.motion, 0x10, 32, 640, 31, 16, .rc, 0, .w⟩
  | .MO_REG_LAST_ERR => ⟨.motion, 0x14, 32, 640, 31, 0, .ro, 0, .d⟩
  | .MO_REG_CNT_MISS => ⟨.motion, 0x18, 32, 640, 7, 0, .rc, 0, .w⟩
  | .MO_REG_CNT_OUTSIDE => ⟨.motion, 0x18, 32, 640, 15, 8, .rc, 0, .w⟩
  | .MO_REG_CNT_OVER => ⟨.motion, 0x18, 32, 640, 23, 16, .rc, 0, .w⟩
  | .MO_REG_CNT_VM_STALE => ⟨.motion, 0x18, 32, 640, 31, 24, .rc, 0, .w⟩
  | .ST_STAT_IST => ⟨.motion, 0x1C, 32, 640, 7, 0, .ro, 0, .d⟩
  | .ST_STAT_DELTA => ⟨.motion, 0x1C, 32, 640, 15, 8, .ro, 0, .d⟩
  | .ST_STAT_VLIMIT => ⟨.motion, 0x1C, 32, 640, 16, 16, .ro, 0, .d⟩
  | .VM_STAT_SRC => ⟨.motion, 0x5000, 32, 8, 1, 0, .ro, 0, .w⟩
  | .VM_STAT_RUN => ⟨.motion, 0x5000, 32, 8, 2, 2, .ro, 0, .d⟩
  | .VM_STAT_CATCHUP => ⟨.motion, 0x5000, 32, 8, 3, 3, .ro, 0, .d⟩
  | .VM_POS_LO_POS => ⟨.motion, 0x5004, 32, 8, 31, 0, .ro, 0, .d⟩
  | .VM_POS_HI_POS => ⟨.motion, 0x5008, 32, 8, 31, 0, .ro, 0, .d⟩
  | .VM_VEL_VEL => ⟨.motion, 0x500C, 32, 8, 31, 0, .ro, 0, .d⟩
  | .GRP_STAT_MOVING => ⟨.motion, 0x5100, 16, 32, 0, 0, .ro, 0, .d⟩
  | .GRP_STAT_BROKEN => ⟨.motion, 0x5100, 16, 32, 1, 1, .w1c, 0, .w⟩
  | .GRP_STAT_LEAD => ⟨.motion, 0x5100, 16, 32, 5, 2, .ro, 0, .d⟩
  | .GRP_STAT_MEMBERS => ⟨.motion, 0x5100, 16, 32, 31, 16, .ro, 0, .w⟩
  | .GRP_S_S => ⟨.motion, 0x5104, 16, 32, 31, 0, .ro, 0, .d⟩
  | .REC_STAT_STATE => ⟨.acq, 0x0, 32, 32, 2, 0, .ro, 0, .w⟩
  | .REC_STAT_PRE_SHORT => ⟨.acq, 0x0, 32, 32, 3, 3, .ro, 0, .d⟩
  | .REC_STAT_CAUSE => ⟨.acq, 0x0, 32, 32, 15, 8, .ro, 0, .d⟩
  | .REC_SEQ_SEQ => ⟨.acq, 0x4, 32, 32, 31, 0, .ro, 0xFFFFFFFF, .d⟩
  | .REC_TRIG_SEQ_SEQ => ⟨.acq, 0x8, 32, 32, 31, 0, .ro, 0xFFFFFFFF, .d⟩
  | .REC_CNT_MISS => ⟨.acq, 0xC, 32, 32, 15, 0, .rc, 0, .w⟩
  | .REC_CNT_HOLDOFF => ⟨.acq, 0xC, 32, 32, 31, 16, .rc, 0, .w⟩
  | .REC_CNT2_WRAPS => ⟨.acq, 0x10, 32, 32, 15, 0, .rc, 0, .w⟩
  | .REC_CNT2_ACCEPTED => ⟨.acq, 0x10, 32, 32, 31, 16, .rc, 0, .w⟩
  | .REC_TLAST0_T => ⟨.acq, 0x14, 32, 32, 31, 0, .ro, 0, .d⟩
  | .REC_TLAST1_T => ⟨.acq, 0x18, 32, 32, 31, 0, .ro, 0, .d⟩
  | .REC_TLAST2_T => ⟨.acq, 0x1C, 32, 32, 31, 0, .ro, 0, .d⟩
  | .ACQ_BW_USED => ⟨.acq, 0x400, 0, 1, 15, 0, .ro, 0, .w⟩
  | .ACQ_AREA_ALLOC => ⟨.acq, 0x404, 0, 1, 24, 0, .ro, 0, .w⟩
  | .ADC_STAT_SETTLED => ⟨.acq, 0x500, 16, 2, 0, 0, .ro, 0, .d⟩
  | .ADC_STAT_REF => ⟨.acq, 0x500, 16, 2, 2, 1, .ro, 0, .w⟩
  | .ADC_STAT_INTERLEAVED => ⟨.acq, 0x500, 16, 2, 3, 3, .ro, 0, .w⟩
  | .ADC_STAT_START => ⟨.acq, 0x500, 16, 2, 6, 4, .ro, 0, .w⟩
  | .ADC_CNT_START_LOST => ⟨.acq, 0x504, 16, 2, 15, 0, .rc, 0, .w⟩
  | .ADC_CNT_CLIP => ⟨.acq, 0x504, 16, 2, 31, 16, .rc, 0, .w⟩
  | .ADC_RATE_RATE => ⟨.acq, 0x508, 16, 2, 31, 0, .ro, 0, .w⟩
  | .TB_NOW0_T => ⟨.time, 0x0, 64, 4, 31, 0, .ro, 0, .w⟩
  | .TB_NOW1_T => ⟨.time, 0x4, 64, 4, 31, 0, .ro, 0, .w⟩
  | .TB_NOW2_T => ⟨.time, 0x8, 64, 4, 31, 0, .ro, 0, .w⟩
  | .TB_INC_LO_INC => ⟨.time, 0xC, 64, 4, 31, 0, .ro, 0, .w⟩
  | .TB_INC_HI_INC => ⟨.time, 0x10, 64, 4, 31, 0, .ro, 0x00014000, .w⟩
  | .TB_STAT_MODE => ⟨.time, 0x14, 64, 4, 1, 0, .ro, 0, .w⟩
  | .TB_STAT_HOLDOVER => ⟨.time, 0x14, 64, 4, 2, 2, .ro, 0, .w⟩
  | .TB_STAT_STEPPED => ⟨.time, 0x14, 64, 4, 3, 3, .w1c, 0, .w⟩
  | .TB_OFS_THETA => ⟨.time, 0x18, 64, 4, 31, 0, .ro, 0, .w⟩
  | .TB_RHO_RHO => ⟨.time, 0x1C, 64, 4, 31, 0, .ro, 0, .w⟩
  | .TB_CNT_FEEDS => ⟨.time, 0x20, 64, 4, 15, 0, .rc, 0, .w⟩
  | .TB_CNT_STEPS => ⟨.time, 0x20, 64, 4, 23, 16, .rc, 0, .w⟩
  | .TB_CNT_REJECTS => ⟨.time, 0x20, 64, 4, 31, 24, .rc, 0, .w⟩
  | .TIN_STAT_FILL => ⟨.time, 0x100, 16, 8, 3, 0, .ro, 0, .d⟩
  | .TIN_STAT_TB => ⟨.time, 0x100, 16, 8, 5, 4, .ro, 0, .w⟩
  | .TIN_STAT_EDGE => ⟨.time, 0x100, 16, 8, 7, 6, .ro, 0, .w⟩
  | .TIN_STAT_FEED => ⟨.time, 0x100, 16, 8, 8, 8, .ro, 0, .w⟩
  | .TIN_CNT_CAPTURES => ⟨.time, 0x104, 16, 8, 15, 0, .rc, 0, .w⟩
  | .TIN_CNT_LOST => ⟨.time, 0x104, 16, 8, 31, 16, .rc, 0, .w⟩
  | .TOUT_STAT_MODE => ⟨.time, 0x200, 16, 8, 1, 0, .ro, 0, .w⟩
  | .TOUT_STAT_ACTIVE => ⟨.time, 0x200, 16, 8, 2, 2, .ro, 0, .d⟩
  | .TOUT_STAT_LATE => ⟨.time, 0x200, 16, 8, 3, 3, .w1c, 0, .w⟩
  | .TOUT_STAT_TB => ⟨.time, 0x200, 16, 8, 5, 4, .ro, 0, .w⟩
  | .TOUT_CNT_PULSES => ⟨.time, 0x204, 16, 8, 15, 0, .rc, 0, .w⟩
  | .TOUT_CNT_SKIPPED => ⟨.time, 0x204, 16, 8, 31, 16, .rc, 0, .w⟩
  | .PTP_STAT_ENABLE => ⟨.time, 0x300, 32, 2, 0, 0, .ro, 0, .w⟩
  | .PTP_STAT_BOUND => ⟨.time, 0x300, 32, 2, 1, 1, .ro, 0, .w⟩
  | .PTP_STAT_OWNER => ⟨.time, 0x300, 32, 2, 4, 2, .ro, 0, .w⟩
  | .PTP_STAT_TB3 => ⟨.time, 0x300, 32, 2, 5, 5, .ro, 0, .w⟩
  | .PTP_STAT_TXQ => ⟨.time, 0x300, 32, 2, 12, 8, .ro, 0, .d⟩
  | .PTP_TXADJ_ADJ => ⟨.time, 0x304, 32, 2, 31, 0, .ro, 0, .w⟩
  | .PTP_RXADJ_ADJ => ⟨.time, 0x308, 32, 2, 31, 0, .ro, 0, .w⟩
  | .PTP_RX_COUNT => ⟨.time, 0x30C, 32, 2, 31, 0, .rc, 0, .w⟩
  | .PTP_TX_COUNT => ⟨.time, 0x310, 32, 2, 31, 0, .rc, 0, .w⟩
  | .PTP_LOSS_REFUSED => ⟨.time, 0x314, 32, 2, 15, 0, .rc, 0, .w⟩
  | .PTP_LOSS_RX_LOST => ⟨.time, 0x314, 32, 2, 31, 16, .rc, 0, .w⟩
  | .FIO_IN_STATE => ⟨.field, 0x0, 0, 1, 23, 0, .ro, 0, .d⟩
  | .FIO_RAW_RAW => ⟨.field, 0x4, 0, 1, 23, 0, .ro, 0, .d⟩
  | .FIO_OUT_ON => ⟨.field, 0x8, 0, 1, 23, 0, .ro, 0, .d⟩
  | .FIO_SUPPLY_VF0 => ⟨.field, 0xC, 0, 1, 7, 0, .ro, 0, .d⟩
  | .FIO_SUPPLY_VF1 => ⟨.field, 0xC, 0, 1, 15, 8, .ro, 0, .d⟩
  | .FIO_SUPPLY_UV0 => ⟨.field, 0xC, 0, 1, 16, 16, .ro, 0, .d⟩
  | .FIO_SUPPLY_UV1 => ⟨.field, 0xC, 0, 1, 17, 17, .ro, 0, .d⟩
  | .FIO_CH_STAT_MODE => ⟨.field, 0x100, 16, 24, 1, 0, .ro, 0, .w⟩
  | .FIO_CH_STAT_OWNER => ⟨.field, 0x100, 16, 24, 2, 2, .ro, 0, .w⟩
  | .FIO_CH_STAT_BREAK => ⟨.field, 0x100, 16, 24, 3, 3, .ro, 0, .d⟩
  | .FIO_CH_STAT_FAULT => ⟨.field, 0x100, 16, 24, 5, 4, .ro, 0, .d⟩
  | .FIO_CH_STAT_LATCHED => ⟨.field, 0x100, 16, 24, 6, 6, .ro, 0, .d⟩
  | .FIO_CH_STAT_TP_FAIL => ⟨.field, 0x100, 16, 24, 7, 7, .w1c, 0, .w⟩
  | .FIO_CH_STAT_MEAS => ⟨.field, 0x100, 16, 24, 31, 16, .ro, 0, .d⟩
  | .FIO_CH_CNT_CHANGES => ⟨.field, 0x104, 16, 24, 15, 0, .rc, 0, .w⟩
  | .FIO_CH_CNT_BREAKS => ⟨.field, 0x104, 16, 24, 31, 16, .rc, 0, .w⟩
  | .FIO_CH_CNT2_OUT_FAULTS => ⟨.field, 0x108, 16, 24, 15, 0, .rc, 0, .w⟩
  | .FIO_CH_CNT2_TP_FAILS => ⟨.field, 0x108, 16, 24, 31, 16, .rc, 0, .w⟩
  | .SAF_STAT_STATE => ⟨.saf, 0x0, 0, 1, 1, 0, .ro, 0, .d⟩
  | .SAF_STAT_CONFIG_VALID => ⟨.saf, 0x0, 0, 1, 2, 2, .ro, 0, .d⟩
  | .SAF_STAT_SESSION => ⟨.saf, 0x0, 0, 1, 3, 3, .ro, 0, .d⟩
  | .SAF_STAT_SESSION_CTX => ⟨.saf, 0x0, 0, 1, 6, 4, .ro, 0, .d⟩
  | .SAF_STAT_LOCKOUT => ⟨.saf, 0x0, 0, 1, 7, 7, .ro, 0, .d⟩
  | .SAF_STAT_VERSION => ⟨.saf, 0x0, 0, 1, 31, 16, .ro, 0, .n⟩
  | .SAF_CRC_CRC => ⟨.saf, 0x4, 0, 1, 31, 0, .ro, 0, .n⟩
  | .SAF_SHUT_SHUT => ⟨.saf, 0x8, 0, 1, 31, 0, .ro, 0xFFFFFFFF, .d⟩
  | .SAF_FAULT_CAUSE => ⟨.saf, 0xC, 0, 1, 7, 0, .ro, 0, .d⟩
  | .SAF_FAULT_LATE => ⟨.saf, 0xC, 0, 1, 31, 16, .rc, 0, .w⟩
  | .SAF_LOG_NUM => ⟨.saf, 0x10, 0, 1, 31, 0, .ro, 0, .n⟩
  | .SAF_STEPS_LEFT => ⟨.saf, 0x14, 0, 1, 11, 0, .ro, 0, .f⟩
  | .SAF_ZONE_CAUSE => ⟨.saf, 0x100, 4, 32, 7, 0, .ro, 1, .d⟩
  | .SAF_ZONE_SHUT => ⟨.saf, 0x100, 4, 32, 8, 8, .ro, 1, .d⟩
  | .SAF_ZONE_STUCK => ⟨.saf, 0x100, 4, 32, 9, 9, .ro, 0, .d⟩
  | .SAF_ZONE_REFUSED => ⟨.saf, 0x100, 4, 32, 23, 16, .rc, 0, .w⟩
  | .SAF_ZONE_SHORT => ⟨.saf, 0x100, 4, 32, 31, 24, .rc, 0, .w⟩
  | .SAF_CONN_STATE => ⟨.saf, 0x200, 16, 256, 1, 0, .ro, 0, .d⟩
  | .SAF_CONN_RUN_PERMIT => ⟨.saf, 0x200, 16, 256, 2, 2, .ro, 0, .d⟩
  | .SAF_CONN_STO_ACTIVE => ⟨.saf, 0x200, 16, 256, 3, 3, .ro, 0, .d⟩
  | .SAF_CONN_BRAKE_OPEN => ⟨.saf, 0x200, 16, 256, 4, 4, .ro, 0, .d⟩
  | .SAF_CONN_ZONE => ⟨.saf, 0x200, 16, 256, 9, 5, .ro, 0, .n⟩
  | .SAF_CONN_FUNC => ⟨.saf, 0x200, 16, 256, 22, 16, .ro, 0, .d⟩
  | .SAF_CONN_CNT_CRC_ERR => ⟨.saf, 0x204, 16, 256, 15, 0, .rc, 0, .w⟩
  | .SAF_CONN_CNT_SEQ_GAP => ⟨.saf, 0x204, 16, 256, 31, 16, .rc, 0, .w⟩
  | .SAF_CONN_CNT2_REPEAT => ⟨.saf, 0x208, 16, 256, 15, 0, .rc, 0, .w⟩
  | .SAF_CONN_CNT2_FAULTS => ⟨.saf, 0x208, 16, 256, 31, 16, .rc, 0, .w⟩
  | .SAF_CONN_DISC_DISC => ⟨.saf, 0x20C, 16, 256, 31, 0, .ro, 0, .d⟩
  | .CTX_CTRL_ENABLE => ⟨.bar2, 0x0, 0, 1, 0, 0, .rw, 0, .d⟩
  | .CTX_CTRL_RESET => ⟨.bar2, 0x0, 0, 1, 1, 1, .wo, 0, .d⟩
  | .CTX_STAT_RUN => ⟨.bar2, 0x4, 0, 1, 0, 0, .ro, 0, .d⟩
  | .CTX_STAT_SESSION => ⟨.bar2, 0x4, 0, 1, 1, 1, .ro, 0, .d⟩
  | .CTX_STAT_ERR => ⟨.bar2, 0x4, 0, 1, 2, 2, .ro, 0, .d⟩
  | .CTX_BEAT_BEAT => ⟨.bar2, 0x8, 0, 1, 31, 0, .wo, 0, .d⟩
  | .Q_BASE_LO_BASE => ⟨.bar2, 0x10, 32, 3, 31, 12, .rw, 0, .d⟩
  | .Q_BASE_HI_BASE => ⟨.bar2, 0x14, 32, 3, 31, 0, .rw, 0, .d⟩
  | .Q_SIZE_LOG2 => ⟨.bar2, 0x18, 32, 3, 3, 0, .rw, 0, .d⟩
  | .Q_PROD_IDX => ⟨.bar2, 0x1C, 32, 3, 15, 0, .rw, 0, .d⟩
  | .Q_CONS_IDX => ⟨.bar2, 0x20, 32, 3, 15, 0, .rw, 0, .d⟩
  | .HOST_STAT_OPEN => ⟨.host, 0x0, 0, 1, 7, 0, .ro, 0, .d⟩
  | .HOST_STAT_CFG_CTX => ⟨.host, 0x0, 0, 1, 10, 8, .ro, 0, .d⟩
  | .HOST_STAT_CFG_HELD => ⟨.host, 0x0, 0, 1, 11, 11, .ro, 0, .d⟩
  | .ETH_STAT_LINK => ⟨.host, 0x10, 16, 2, 0, 0, .ro, 0, .d⟩
  | .ETH_STAT_SPEED => ⟨.host, 0x10, 16, 2, 1, 1, .ro, 0, .d⟩
  | .ETH_STAT_SET => ⟨.host, 0x10, 16, 2, 2, 2, .ro, 0, .d⟩
  | .ETH_DROP_COUNT => ⟨.host, 0x14, 16, 2, 31, 0, .rc, 0, .w⟩
  | .ETH_ERR_CRC_ERR => ⟨.host, 0x18, 16, 2, 15, 0, .rc, 0, .w⟩
  | .ETH_ERR_BAD_FRAME => ⟨.host, 0x18, 16, 2, 31, 16, .rc, 0, .w⟩
  | .ETH_RX_COUNT => ⟨.host, 0x1C, 16, 2, 31, 0, .rc, 0, .w⟩
  | .HOST_CTX_STATE => ⟨.host, 0x100, 16, 8, 1, 0, .ro, 0, .d⟩
  | .HOST_CTX_CONFIG => ⟨.host, 0x100, 16, 8, 2, 2, .ro, 0, .d⟩
  | .HOST_CTX_RIGHTS => ⟨.host, 0x100, 16, 8, 15, 8, .ro, 0, .d⟩
  | .HOST_CTX_LEASE => ⟨.host, 0x100, 16, 8, 31, 16, .ro, 0, .d⟩
  | .HOST_SEQ_NEXT => ⟨.host, 0x104, 16, 8, 15, 0, .ro, 0, .d⟩
  | .HOST_SEQ_EVNEXT => ⟨.host, 0x104, 16, 8, 31, 16, .ro, 0, .d⟩
  | .HOST_CNT_BAD_SEQ => ⟨.host, 0x108, 16, 8, 15, 0, .rc, 0, .w⟩
  | .HOST_CNT_EV_LOST => ⟨.host, 0x108, 16, 8, 31, 16, .rc, 0, .w⟩
  | .HOST_CNT2_DUP => ⟨.host, 0x10C, 16, 8, 15, 0, .rc, 0, .w⟩
  | .HOST_CNT2_WR_DENIED => ⟨.host, 0x10C, 16, 8, 31, 16, .rc, 0, .w⟩
  | .ACQ_WIN_FIRST => ⟨.host, 0x200, 4, 32, 24, 0, .ro, 0, .w⟩
  | .PWR_STAT_STATE => ⟨.power, 0x0, 0, 1, 1, 0, .ro, 0, .d⟩
  | .PWR_STAT_CHANGING => ⟨.power, 0x0, 0, 1, 2, 2, .ro, 0, .d⟩
  | .PWR_DOM_ON => ⟨.power, 0x4, 0, 1, 11, 0, .ro, 0x613, .d⟩
  | .PWR_CFG_RUN_ON => ⟨.power, 0x8, 0, 1, 11, 0, .ro, 0xFFF, .n⟩
  | .RST_CAUSE_KIND => ⟨.power, 0xC, 0, 1, 3, 0, .ro, 0, .e⟩
  | .RST_CAUSE_HMP_RESTARTS => ⟨.power, 0xC, 0, 1, 31, 16, .rc, 0, .e⟩
  | .RST_BOOTS_COUNT => ⟨.power, 0x10, 0, 1, 31, 0, .ro, 0, .n⟩
  | .RST_NLONG_MS => ⟨.power, 0x14, 0, 1, 31, 0, .ro, 0, .e⟩
  | .HLTH_TJ_TJ => ⟨.power, 0x20, 4, 8, 15, 0, .ro, 0, .d⟩
  | .HLTH_TJ_MAX => ⟨.power, 0x20, 4, 8, 31, 16, .rc, 0, .w⟩
  | .HLTH_VCORE_MV => ⟨.power, 0x40, 0, 1, 15, 0, .ro, 0, .d⟩
  | .HLTH_VCORE_TARGET => ⟨.power, 0x40, 0, 1, 31, 16, .ro, 0, .d⟩
  | .HLTH_FLAGS_THERM_WARN => ⟨.power, 0x44, 0, 1, 0, 0, .ro, 0, .d⟩
  | .HLTH_FLAGS_SUP_WARN => ⟨.power, 0x44, 0, 1, 1, 1, .ro, 0, .d⟩
  | .HLTH_FLAGS_REFCLK_FB => ⟨.power, 0x44, 0, 1, 2, 2, .w1c, 0, .e⟩
  | .AG_SLACK_SLACK => ⟨.power, 0x60, 4, 8, 15, 0, .ro, 0, .d⟩
  | .AG_SLACK_FRESH => ⟨.power, 0x60, 4, 8, 31, 16, .ro, 0, .f⟩
  | .AG_CORE_LO_WORN => ⟨.power, 0x80, 0, 1, 31, 0, .ro, 0, .n⟩
  | .AG_CORE_HI_WORN => ⟨.power, 0x84, 0, 1, 31, 0, .ro, 0, .n⟩
  | .AG_STAT_VRAISE => ⟨.power, 0x88, 0, 1, 7, 0, .ro, 0, .n⟩
  | .AG_STAT_GUARD => ⟨.power, 0x88, 0, 1, 15, 8, .ro, 0, .n⟩
  | .AG_STAT_DAYS => ⟨.power, 0x88, 0, 1, 31, 16, .ro, 0xFFFF, .d⟩
  | .AG_CFG_WARN_DAYS => ⟨.power, 0x8C, 0, 1, 15, 0, .rw, 0x00B4, .n⟩
  | .AG_CFG_SLACK_LO => ⟨.power, 0x8C, 0, 1, 23, 16, .rw, 0x28, .n⟩
  | .AG_CFG_SLACK_MIN => ⟨.power, 0x8C, 0, 1, 31, 24, .rw, 0x0F, .n⟩
  | .AG_HOURS_HOURS => ⟨.power, 0x90, 0, 1, 31, 0, .ro, 0, .n⟩
  | .SOOT_NEXT_SEQ => ⟨.power, 0x100, 0, 1, 31, 0, .ro, 0, .e⟩
  | .SOOT_CNT_LOST => ⟨.power, 0x104, 0, 1, 15, 0, .rc, 0, .e⟩
  | .SOOT_HELD_COUNT => ⟨.power, 0x108, 0, 1, 16, 0, .ro, 0, .d⟩
  | .TRACE_WR_COUNT => ⟨.power, 0x110, 4, 4, 31, 0, .ro, 0, .d⟩
  | .UPD_STAT_STATE => ⟨.update, 0x0, 0, 1, 1, 0, .ro, 0, .d⟩
  | .UPD_STAT_TWIN_HALF => ⟨.update, 0x0, 0, 1, 2, 2, .ro, 0, .d⟩
  | .UPD_STAT_RESULT => ⟨.update, 0x0, 0, 1, 15, 8, .ro, 0, .e⟩
  | .UPD_STAT_CTX => ⟨.update, 0x0, 0, 1, 18, 16, .ro, 0, .d⟩
  | .UPD_CYCLE_CYCLE => ⟨.update, 0x4, 0, 1, 31, 0, .ro, 0xFFFFFFFF, .d⟩
  | .UPD_LEFT_SECONDS => ⟨.update, 0x8, 0, 1, 15, 0, .ro, 0, .d⟩
  | .UPD_CFG_FMT => ⟨.update, 0xC, 0, 1, 15, 0, .ro, 0, .n⟩
  | .UPD_CFG_LOSSY => ⟨.update, 0xC, 0, 1, 31, 16, .ro, 0, .d⟩
  | .FW_ACT_VERSION => ⟨.update, 0x10, 8, 4, 31, 0, .ro, 0, .n⟩
  | .FW_ALT_VERSION => ⟨.update, 0x14, 8, 4, 31, 0, .ro, 0, .n⟩
  | .FW_KEYS_REVOKED => ⟨.update, 0x40, 0, 1, 3, 0, .ro, 0, .f⟩
  | .FW_RB_MAJOR => ⟨.update, 0x44, 0, 1, 31, 0, .ro, 0, .f⟩
  | .FW_BANK_LO_BANK => ⟨.update, 0x50, 0, 1, 31, 0, .ro, 0, .d⟩
  | .FW_BANK_HI_BANK => ⟨.update, 0x54, 0, 1, 31, 0, .ro, 0, .d⟩

/-- Fields 0 to 49, in table order. -/
def Fld.all0 : List Fld :=
  [.CYC_NOW_CYCLE, .CYC_MODE_SM, .CYC_MODE_RUN, .CYC_PERIOD_PERIOD, .CYC_TIMES_TIN_LEAD, .CYC_TIMES_TOUT_OFS, .CYC_INDONE_INDONE, .CYC_WINDOW_WINDOW, .CYC_OVERBUDGET_COUNT, .CYC_LATE_TOTAL_COUNT, .AX_LATE_LIMIT, .AX_LATE_CONSEC, .AX_LATE_CNT_OVERRUN, .AX_LATE_CNT_MISSING, .RING_STAT_LINK_A, .RING_STAT_LINK_B, .RING_STAT_GEN, .RING_STAT_TOPO, .RING_STAT_BROKEN, .RING_STAT_LAG, .RING_STAT_LOOP_A, .RING_STAT_LOOP_B, .RING_STAT_BRK_CLASS, .RING_BRK_INDONE_BRK, .PORT_FRAMES_TX_COUNT, .PORT_FRAMES_RX_COUNT, .PORT_HDR_ERR_COUNT, .PORT_TRL_ERR_COUNT, .PORT_LINK_DOWN_COUNT, .PORT_HIBER_COUNT, .PORT_LOOPED_COUNT, .PORT_DROPPED_COUNT, .PORT_STALE_COUNT, .NODE_ERR_CRC_ERR, .NODE_ERR_DUP, .NODE_LOST_LOST, .NODE_LOST_EMPTY_TX, .NODE_FLAGS_LATE_INST, .NODE_FLAGS_DL_ERR, .NODE_ARR_LAST, .NODE_ARR_MAX, .RK_STAT_STATE, .RK_STAT_NODES, .RK_STAT_PENDING, .RK_CFG_PRIO, .RK_CFG_AUTO, .RK_CFG_TOPO, .RK_CFG_GEN, .RK_CFG_ACCEPT_NEW, .RK_CFG_START_SM]

/-- Fields 50 to 99, in table order. -/
def Fld.all1 : List Fld :=
  [.RK_SERIAL_LO_SERIAL, .RK_SERIAL_HI_SERIAL, .RK_LOOP_L, .RK_HEADS_EPS, .SW_STAT_NEXT_SM, .SW_STAT_ARMED, .SW_STAT_RESULT, .SW_STAT_NOACK_ADDR, .SW_STAT_PRELOADED, .SW_CYCLE_CYCLE, .SW_CFG_ARM_LEAD, .SW_CFG_RC_EXP, .SW_CFG_RC_OFF, .TK_STAT_K, .TK_STAT_F, .TK_STAT_HOLD, .TK_MOFF_MOFF, .TK_MRATE_MRATE, .TK_CFG_SLEW, .TK_CFG_RSTEP, .TK_DRIFT_DRIFT_LIMIT, .TK_DRIFT_READMIT, .NODE_STATE_PRESENCE, .NODE_STATE_KEEPER, .NODE_STATE_IN_SET, .NODE_STATE_LOCKED, .NODE_STATE_CLASS, .NODE_STATE_VENDOR, .NODE_SERIAL_LO_SERIAL, .NODE_SERIAL_HI_SERIAL, .NODE_DRIFT_CONSEC, .NODE_DRIFT_LAST_D, .TWIN_STAT_ROLE, .TWIN_STAT_SYNC, .TWIN_STAT_LANE0, .TWIN_STAT_LANE1, .TWIN_STAT_PARTNER_RING, .TWIN_STAT_JOIN_PCT, .TWIN_CFG_ENABLE, .TWIN_CFG_LATE_LIMIT, .TWIN_CFG_EPS_MAX, .TWIN_LAT_LAT, .TWIN_LOAD_LAST, .TWIN_LOAD_MAX, .TWIN_CNT_DIGEST_DIFF, .TWIN_CNT_VOIDED, .TWIN_CNT2_FLUE_LATE, .TWIN_CNT2_FLUE_ERR, .TWIN_CNT3_ROLE_CHANGES, .TWIN_CNT3_SILENT]

/-- Fields 100 to 149, in table order. -/
def Fld.all2 : List Fld :=
  [.TWIN_PSER_LO_SERIAL, .TWIN_PSER_HI_SERIAL, .TWIN_AX_DIFF, .TWIN_AX_VOID, .LC_STAT_STATE, .LC_STAT_LAST_TS, .LC_STAT_PC, .LC_TRAP_CAUSE, .LC_TRAP_PC, .LC_COUNT_TRAPS, .LC_COUNT_OVG, .LC_ECC_CORR, .LC_ECC_UNCORR, .LC_BUSY_CLOCKS, .LC_DBG_HALT_REQ, .LC_DBG_RESUME, .LC_DBG_DEBUG, .GR_STAT_REFUSED, .GR_STAT_CTR_EXTRA, .GR_STAT_TRACE_FULL, .GR_USE_DESC, .GR_USE_DELAY, .GR_RDYMAX_MAX, .GR_LATMAX_CLOCKS, .GR_LATMAX_WAITMAX, .GR_DISPATCH_COUNT, .GR_REFUSED_COUNT, .GR_TRACE_CFG_EVMASK, .GR_TRACE_CFG_ENABLE, .GR_TRACE_LOST_COUNT, .GR_TRACE_FILL_FILL, .FB_STAT_SPEED_VALID, .FB_STAT_COMM_STATE, .FB_STAT_CAL_STALE, .FB_STAT_LEARN_HOLD, .FB_STAT_REFERENCED, .FB_STAT_BRIDGED, .FB_STAT_TEMP_OLD, .FB_STAT_W, .FB_CNT_FUSION, .FB_CNT_IDX_MISMATCH, .FB_CNT2_IDX_TRIM, .FB_CNT2_HALL_ERR, .FB_CNT3_AMP_ERR, .FB_CNT3_OVERSPEED, .EMU_STAT_RUN, .EMU_STAT_LAG, .EMU_STAT_FAULT, .EMU_STAT_SRC_INVALID, .EMU_STAT_SHIFTED]

/-- Fields 150 to 199, in table order. -/
def Fld.all3 : List Fld :=
  [.EMU_STAT_LAG_CNT, .EMU_COUNT_COUNT, .SV_STAT_CMODE, .SV_STAT_BOUND, .SV_STAT_ALIGNING, .SV_STAT_NO_COMM, .SV_STAT_BAND_LIMIT, .SV_STAT_CUR_LIMIT, .SV_STAT_REFRESHED, .SV_STAT_LAST_PS, .SV_BIND_ADDR, .SV_BIND_BLK, .SV_BIND_NPC, .SV_CNT_DESAT, .SV_CNT_UV, .SV_CNT2_REFRESH, .SV_CNT2_INH_SEEN, .SV_SWF_SWF, .SV_BAND_BT, .SV_TDEM_TDEM, .SV_DESAT_DESAT_T, .SV_DESAT_LEGS, .SV_DESAT_SHORT, .MO_STAT_MODE, .MO_STAT_IN_POS, .MO_STAT_HOMED, .MO_STAT_SYNC, .MO_STAT_REVERSING, .MO_STAT_LIM_POS, .MO_STAT_LIM_NEG, .MO_STAT_HOME_IN, .MO_STAT_REG_HOLD, .MO_STAT_FC, .MO_STAT_HSTEP, .MO_POS_LO_POS, .MO_POS_HI_POS, .MO_VEL_VEL, .MO_CNT_REVERSALS, .MO_CNT_CHATTER, .MO_REG_LAST_ERR, .MO_REG_CNT_MISS, .MO_REG_CNT_OUTSIDE, .MO_REG_CNT_OVER, .MO_REG_CNT_VM_STALE, .ST_STAT_IST, .ST_STAT_DELTA, .ST_STAT_VLIMIT, .VM_STAT_SRC, .VM_STAT_RUN, .VM_STAT_CATCHUP]

/-- Fields 200 to 249, in table order. -/
def Fld.all4 : List Fld :=
  [.VM_POS_LO_POS, .VM_POS_HI_POS, .VM_VEL_VEL, .GRP_STAT_MOVING, .GRP_STAT_BROKEN, .GRP_STAT_LEAD, .GRP_STAT_MEMBERS, .GRP_S_S, .REC_STAT_STATE, .REC_STAT_PRE_SHORT, .REC_STAT_CAUSE, .REC_SEQ_SEQ, .REC_TRIG_SEQ_SEQ, .REC_CNT_MISS, .REC_CNT_HOLDOFF, .REC_CNT2_WRAPS, .REC_CNT2_ACCEPTED, .REC_TLAST0_T, .REC_TLAST1_T, .REC_TLAST2_T, .ACQ_BW_USED, .ACQ_AREA_ALLOC, .ADC_STAT_SETTLED, .ADC_STAT_REF, .ADC_STAT_INTERLEAVED, .ADC_STAT_START, .ADC_CNT_START_LOST, .ADC_CNT_CLIP, .ADC_RATE_RATE, .TB_NOW0_T, .TB_NOW1_T, .TB_NOW2_T, .TB_INC_LO_INC, .TB_INC_HI_INC, .TB_STAT_MODE, .TB_STAT_HOLDOVER, .TB_STAT_STEPPED, .TB_OFS_THETA, .TB_RHO_RHO, .TB_CNT_FEEDS, .TB_CNT_STEPS, .TB_CNT_REJECTS, .TIN_STAT_FILL, .TIN_STAT_TB, .TIN_STAT_EDGE, .TIN_STAT_FEED, .TIN_CNT_CAPTURES, .TIN_CNT_LOST, .TOUT_STAT_MODE, .TOUT_STAT_ACTIVE]

/-- Fields 250 to 299, in table order. -/
def Fld.all5 : List Fld :=
  [.TOUT_STAT_LATE, .TOUT_STAT_TB, .TOUT_CNT_PULSES, .TOUT_CNT_SKIPPED, .PTP_STAT_ENABLE, .PTP_STAT_BOUND, .PTP_STAT_OWNER, .PTP_STAT_TB3, .PTP_STAT_TXQ, .PTP_TXADJ_ADJ, .PTP_RXADJ_ADJ, .PTP_RX_COUNT, .PTP_TX_COUNT, .PTP_LOSS_REFUSED, .PTP_LOSS_RX_LOST, .FIO_IN_STATE, .FIO_RAW_RAW, .FIO_OUT_ON, .FIO_SUPPLY_VF0, .FIO_SUPPLY_VF1, .FIO_SUPPLY_UV0, .FIO_SUPPLY_UV1, .FIO_CH_STAT_MODE, .FIO_CH_STAT_OWNER, .FIO_CH_STAT_BREAK, .FIO_CH_STAT_FAULT, .FIO_CH_STAT_LATCHED, .FIO_CH_STAT_TP_FAIL, .FIO_CH_STAT_MEAS, .FIO_CH_CNT_CHANGES, .FIO_CH_CNT_BREAKS, .FIO_CH_CNT2_OUT_FAULTS, .FIO_CH_CNT2_TP_FAILS, .SAF_STAT_STATE, .SAF_STAT_CONFIG_VALID, .SAF_STAT_SESSION, .SAF_STAT_SESSION_CTX, .SAF_STAT_LOCKOUT, .SAF_STAT_VERSION, .SAF_CRC_CRC, .SAF_SHUT_SHUT, .SAF_FAULT_CAUSE, .SAF_FAULT_LATE, .SAF_LOG_NUM, .SAF_STEPS_LEFT, .SAF_ZONE_CAUSE, .SAF_ZONE_SHUT, .SAF_ZONE_STUCK, .SAF_ZONE_REFUSED, .SAF_ZONE_SHORT]

/-- Fields 300 to 349, in table order. -/
def Fld.all6 : List Fld :=
  [.SAF_CONN_STATE, .SAF_CONN_RUN_PERMIT, .SAF_CONN_STO_ACTIVE, .SAF_CONN_BRAKE_OPEN, .SAF_CONN_ZONE, .SAF_CONN_FUNC, .SAF_CONN_CNT_CRC_ERR, .SAF_CONN_CNT_SEQ_GAP, .SAF_CONN_CNT2_REPEAT, .SAF_CONN_CNT2_FAULTS, .SAF_CONN_DISC_DISC, .CTX_CTRL_ENABLE, .CTX_CTRL_RESET, .CTX_STAT_RUN, .CTX_STAT_SESSION, .CTX_STAT_ERR, .CTX_BEAT_BEAT, .Q_BASE_LO_BASE, .Q_BASE_HI_BASE, .Q_SIZE_LOG2, .Q_PROD_IDX, .Q_CONS_IDX, .HOST_STAT_OPEN, .HOST_STAT_CFG_CTX, .HOST_STAT_CFG_HELD, .ETH_STAT_LINK, .ETH_STAT_SPEED, .ETH_STAT_SET, .ETH_DROP_COUNT, .ETH_ERR_CRC_ERR, .ETH_ERR_BAD_FRAME, .ETH_RX_COUNT, .HOST_CTX_STATE, .HOST_CTX_CONFIG, .HOST_CTX_RIGHTS, .HOST_CTX_LEASE, .HOST_SEQ_NEXT, .HOST_SEQ_EVNEXT, .HOST_CNT_BAD_SEQ, .HOST_CNT_EV_LOST, .HOST_CNT2_DUP, .HOST_CNT2_WR_DENIED, .ACQ_WIN_FIRST, .PWR_STAT_STATE, .PWR_STAT_CHANGING, .PWR_DOM_ON, .PWR_CFG_RUN_ON, .RST_CAUSE_KIND, .RST_CAUSE_HMP_RESTARTS, .RST_BOOTS_COUNT]

/-- Fields 350 to 386, in table order. -/
def Fld.all7 : List Fld :=
  [.RST_NLONG_MS, .HLTH_TJ_TJ, .HLTH_TJ_MAX, .HLTH_VCORE_MV, .HLTH_VCORE_TARGET, .HLTH_FLAGS_THERM_WARN, .HLTH_FLAGS_SUP_WARN, .HLTH_FLAGS_REFCLK_FB, .AG_SLACK_SLACK, .AG_SLACK_FRESH, .AG_CORE_LO_WORN, .AG_CORE_HI_WORN, .AG_STAT_VRAISE, .AG_STAT_GUARD, .AG_STAT_DAYS, .AG_CFG_WARN_DAYS, .AG_CFG_SLACK_LO, .AG_CFG_SLACK_MIN, .AG_HOURS_HOURS, .SOOT_NEXT_SEQ, .SOOT_CNT_LOST, .SOOT_HELD_COUNT, .TRACE_WR_COUNT, .UPD_STAT_STATE, .UPD_STAT_TWIN_HALF, .UPD_STAT_RESULT, .UPD_STAT_CTX, .UPD_CYCLE_CYCLE, .UPD_LEFT_SECONDS, .UPD_CFG_FMT, .UPD_CFG_LOSSY, .FW_ACT_VERSION, .FW_ALT_VERSION, .FW_KEYS_REVOKED, .FW_RB_MAJOR, .FW_BANK_LO_BANK, .FW_BANK_HI_BANK]

/-- Every field. -/
def Fld.all : List Fld :=
  Fld.all0 ++ Fld.all1 ++ Fld.all2 ++ Fld.all3 ++ Fld.all4 ++ Fld.all5 ++ Fld.all6 ++ Fld.all7

/-- The number of a field in the table order. -/
def Fld.code (f : Fld) : Nat := f.ctorIdx

/-- The field of a number. -/
def Fld.ofCode (n : Nat) : Option Fld := Fld.all[n]?

/-- The key of one field of one index in the register file. -/
def Fld.key (f : Fld) (i : Nat) : Nat := i * 512 + f.code

/-- The width of a field. -/
def FldInfo.width (r : FldInfo) : Nat := r.hi + 1 - r.lo

end Sys2Proof.Machine
end

