-- ==== Sys2Proof/Machine/State.lean ====
section
/-! DEFINITION. Sys2Proof/Machine/State.lean: the state of the block as plain data, its reset value, and the two ways a step can
stop. A value a register table shows has its home in `State.regs`, unless the docstring of a field here says that the
register is a view of it. Numbers that the manual gives a unit are naturals or integers in that unit. -/

namespace Sys2Proof.Machine

/-- No command of this block stops the machine: every abnormal condition of the manual has an effect it describes. The type
is closed and has the one constructor that the host's interface needs something to name; nothing raises it (safe). -/
inductive Fault where
  /-- Raised by nothing. -/
  | none
  deriving DecidableEq, Repr

/-- Why a command has no meaning. -/
inductive Refusal where
  /-- A row of the table that this model gives no meaning yet; raised by its arm in Dispatch.lean only (safe). -/
  | notModelled (mnemonic : String)
  deriving DecidableEq, Repr

/-- The fault state of an axis (R8, R471) and its late counts' last cause. MO_STAT.FC is a view of `fc`. -/
structure Axis where
  /-- The fault class in force, 0 to 4; 0 also where no class is set (FC0 is reported only). -/
  fc : Nat := 0
  /-- Pending causes of FC0 to FC4 with the class each set, oldest first. -/
  causes : List (Ev × Nat) := []
  /-- Cause of the last late cycle: 0 overrun, 1 input miss (Table 14.15). -/
  lastLate : Nat := 0
  /-- A task of the axis has committed since the last late cycle, at this count of cycles since then (R28). -/
  sinceCommit : Nat := 1
  /-- The frame in which its slot still leaves empty after FC3 of R31 or R123. -/
  noInhibit : Option Nat := none
  deriving DecidableEq, Repr


/-- Status codes of Table 14.5 (R392). -/
inductive Status where
  | ok | badParam | badState | refusedFull | authFail | unknownOpcode | notOwner | noRight | badSeq | noSession
  | unavailable | verifyFail | rollback | incompatible | internal
  deriving DecidableEq, Repr

/-- A packet the part sends: a reply (kind 1), an event (kind 2) or an unrequested device record (R387). -/
structure Packet where
  port : Port
  ctx : Nat
  kind : Nat
  flags : Nat := 0
  opcode : Nat
  seq : Nat
  status : Status := .ok
  session : Nat := 0
  ack : Nat := 0
  params : List Byte := []
  deriving DecidableEq, Repr

/-- An event held by a context (R391, R401). -/
structure Event where
  ev : Ev
  fc : Nat
  kind : Nat
  subj : Nat
  time : Nat
  cycle : Nat
  body : List Byte
  seq : Nat
  lost : Nat := 0
  deriving DecidableEq, Repr

/-- A host context (R376, R379, R389, R391); class D, held in the HUB outside the HMP (R382). HOST_CTX, HOST_SEQ and
HOST_STAT are views of it. -/
structure Ctx where
  /-- A session is open. -/
  isOpen : Bool := false
  session : Nat := 0
  /-- The last 16 SESSION values, newest first (R379). -/
  used : List Nat := []
  hostId : Nat := 0
  rights : Nat := 0
  leaseMs : Nat := 0
  /-- The TB0 value at which the lease runs out (R381). -/
  leaseEnd : Nat := 0
  /-- E of R389. -/
  nextSeq : Nat := 0
  lastSeq : Nat := 0
  /-- The last 64 replies, newest first (R389). -/
  history : List Packet := []
  evNext : Nat := 0
  /-- Held events, oldest first, at most 256 (R391). -/
  events : List Event := []
  /-- Events lost since the last one queued (R391). -/
  evLost : Nat := 0
  /-- PCIe: what the event ring holds unconsumed, oldest first, as SEQ values (none for one of an ended session), and held events
  still to be written into it (R396). -/
  ring : List (Option Nat) := []
  toSend : List Nat := []
  /-- When the held events were last sent, in TB0 (R391). -/
  evSent : Nat := 0
  mask : Nat := 0x07FF
  evPort : Nat := 0
  port : Port := .pcie0
  addr : Nat := 0
  udpPort : Nat := 0
  /-- A command of the context waits for a partner, a node or SAF, and holds its later commands (R390). -/
  busy : Bool := false
  /-- A resuming LOGIN waits: replies of the old session are discarded (R380). -/
  resuming : Bool := false
  /-- When the command that holds the context was forwarded to SAF, in TB0 (R392). -/
  safAt : Option Nat := none
  /-- Accepted commands not yet carried out, oldest first, at most 32 (R389): opcode and packet. -/
  held : List (Nat × Pkt) := []
  deriving DecidableEq, Repr

/-- The owner of a resource and its ON_DEPART (R383, R384). -/
structure Claim where
  ctx : Nat
  onDepart : Nat
  deriving DecidableEq, Repr

/-- A soot-log entry (Table 16.6). -/
structure SootEntry where
  seq : Nat := 0
  time : Nat
  cycle : Nat
  code : Nat
  fc : Nat
  kind : Nat
  subj : Nat
  boot : Nat := 0
  data : Nat := 0
  deriving DecidableEq, Repr

/-- The soot log (R447, R448): the writer's queue of 256, the rings of MEM (class D) and of Ember RAM (class E), newest
first, and what was held from before a reset. -/
structure Soot where
  queue : List SootEntry := []
  memRing : List SootEntry := []
  ember : List SootEntry := []
  lost : Nat := 0
  held : List SootEntry := []
  /-- BOOT has been written since the last boot began. -/
  booted : Bool := true
  deriving DecidableEq, Repr

/-- A datagram being reassembled (R399): port, TB0 start. -/
structure Reassembly where
  port : Nat
  since : Nat
  deriving DecidableEq, Repr


/-- A segment of a schedule mode (Tables 2.6, 2.7, 3.5): owner, type, the three size parameters, its offset in the segment area
and its length in bytes. -/
structure Seg where
  addr : Nat
  ty : Nat
  pa : Nat
  pb : Nat
  pc : Nat
  off : Nat := 0
  len : Nat := 0
  deriving DecidableEq, Repr

/-- A schedule mode SM0 to SM7 (R77). -/
structure Sched where
  /-- 0 never opened, 1 open, 2 closed. -/
  phase : Nat := 0
  /-- Times in 10 ns, the precision window in ns. -/
  period : Nat := 0
  tinLead : Nat := 0
  toutOfs : Nat := 0
  pw : Nat := 0
  segs : List Seg := []
  keepers : List Nat := []
  /-- The plan in force (R23, R41): inputs complete and break arrival in 10 ns, the break class. -/
  inDone : Nat := 0
  brk : Nat := 0
  cls : Nat := 0
  /-- The mode's re-plan fails (R472). -/
  noFit : Bool := false
  /-- Nodes that answered PRELOAD with RESULT 0, and nodes it breaks the declaration of (R77). -/
  loaded : List Nat := []
  barred : List Nat := []
  deriving DecidableEq, Repr

/-- A node's identity and declaration: bytes 1 to 31 of its claim (Table 3.3). -/
structure Ident where
  vendor : Nat
  serial : Nat
  claim : List Byte
  deriving DecidableEq, Repr

/-- A claim waiting for its assignment (R69). -/
structure ClaimRec where
  vendor : Nat
  serial : Nat
  lastAddr : Nat
  claim : List Byte
  deriving DecidableEq, Repr

/-- A measured DELTA heard in a claim, with the frame that brought it (R69). -/
structure DeltaHeard where
  vendor : Nat
  serial : Nat
  delta : Int
  frame : Nat
  deriving DecidableEq, Repr

/-- A mailbox message to a node (R76): service, body, and the host command that waits for its answer, if any. -/
structure Mail where
  svc : Nat
  body : List Byte
  waiter : Option Pkt := none
  deriving DecidableEq, Repr

/-- A mailbox path of one partner (R50, R473, R474). -/
structure Mailbox where
  outq : List Mail := []
  /-- Message bytes acknowledged so far, the length of the fragment in flight (none before it is sent), its MSEQ. -/
  sent : Nat := 0
  flight : Option Nat := none
  seq : Nat := 0
  /-- The sender is giving its message up. -/
  aborting : Bool := false
  /-- The last MSEQ accepted, the partial message, whether an ACK is owed. -/
  lastSeq : Option Nat := none
  partialMsg : List Byte := []
  ackDue : Bool := false
  /-- Complete messages not yet acted upon, oldest first. -/
  inbox : List (List Byte) := []
  /-- Tunnelled messages (RING_NODE_MAIL) delivered and not yet answered, oldest first. -/
  awaiting : List Mail := []
  /-- Answers that the partner still owes, and whether the present frame's fragment carries the ACK. -/
  expect : Nat := 0
  ackNow : Bool := false
  deriving DecidableEq, Repr

/-- The head's record of a node address (R69 to R75, R93). Identity and presence are in the register file. -/
structure HNode where
  /-- Bytes 1 to 31 of the claim. -/
  claim : List Byte := []
  confirmed : Bool := false
  /-- It held the address before (R75); its preloads have been sent (R73). -/
  back : Bool := false
  started : Bool := false
  /-- IDENT_REQ is outstanding. -/
  asking : Bool := false
  delta : Option Int := none
  /-- Path delays last sent, in 2^-16 ns. -/
  pdX : Int := 0
  pdY : Int := 0
  /-- TB0 of the last DELAY question. -/
  asked : Nat := 0
  mailTurns : Nat := 0
  /-- Cycles since a segment's copy was accepted (R74). -/
  gone : Nat := 0
  /-- Readmission count of a dropped keeper (R93). -/
  readmit : Nat := 0
  dropped : Bool := false
  lastD : Int := 0
  /-- The frame of the latest accepted uplink and its MODE_ACK (R81). -/
  ackFrame : Nat := 0
  modeAck : Bool := false
  /-- Desaturation reports of late (R206): block, legs, frame. -/
  desats : List (Nat × Nat × Nat) := []
  box : Mailbox := {}
  deriving DecidableEq, Repr

/-- An entry of the address map (R69): an identity, whether RING_ADDR_SET fixed it. -/
structure MapEntry where
  vendor : Nat
  serial : Nat
  fixed : Bool := false
  /-- RING_ADDR_SET has moved the identity; its node keeps the address until it next claims. -/
  old : Bool := false
  deriving DecidableEq, Repr

/-- The uplink of a segment as accepted (R57): the cycle after its frame's, whether both copies came, arrival in 10 ns. -/
structure SegIn where
  stamp : Nat := 0
  copies : Nat := 0
  ulf : Nat := 0
  data : List Byte := []
  /-- Its arrival in 10 ns after the tick. -/
  arr : Nat := 0
  /-- The cycle after that of the frame for which NODE_LOST last counted it. -/
  lostAt : Nat := 0
  /-- The accepted uplink before it, which a task under the input lag still reads (R42): stamp, ULF, data. -/
  prevStamp : Nat := 0
  prevUlf : Nat := 0
  prevData : List Byte := []
  deriving DecidableEq, Repr

/-- A keeper's report for a frame (R90). -/
structure KReport where
  addr : Nat
  devs : List Int
  rate : Int
  deriving DecidableEq, Repr

/-- A ring-time correction waiting for its tick (R91). -/
structure Corr where
  cycle : Nat
  ofs : Int
  rate : Int
  deriving DecidableEq, Repr

/-- The ring head (R61 to R93). RK_STAT, SW_STAT, TK_STAT and their like are in the register file. -/
structure Head where
  /-- TB0 at entry into the present head state. -/
  since : Nat := 0
  /-- CYCLE of the next kindling frame (R63); kindling frames sent in ROLL_CALL; the run of R70. -/
  kCycle : Nat := 0
  rollFrames : Nat := 0
  cleanRun : Nat := 0
  returned : Bool := false
  claimSeen : Bool := false
  mismatch : Bool := false
  noPartner : Bool := false
  partnerHeard : Bool := false
  claims : List ClaimRec := []
  heard : List DeltaHeard := []
  /-- Identities that have claimed since the head last left OFF (R472). -/
  known : List Ident := []
  given : List Nat := []
  waiting : List (Nat × Nat) := []
  /-- The assignment the frame carries: vendor, serial, address. -/
  assign : Option (Nat × Nat × Nat) := none
  measured : Bool := false
  /-- Propagation, in 0.01 ns, and node count of the last re-plan (R472). -/
  plannedProp : Nat := 0
  plannedNodes : Nat := 0
  /-- Identities that claimed with two measured DELTA values (R69). -/
  dups : List (Nat × Nat) := []
  /-- The partners of the mailbox segments of the present and the previous frame: frame, segment index, address (0 for a
  roll-call window). -/
  mailAt : List (Nat × Nat × Nat) := []
  /-- Two breaks at once are in force; the break's end has come (R42); the armed switch has been decided and stands (R81). -/
  split : Bool := false
  lagEnd : Bool := false
  decided : Bool := false
  /-- Frame a of R79, none while a switch is pending. -/
  armFrame : Option Nat := none
  /-- RING_STOP waits for the tick. -/
  stopping : Bool := false
  /-- Cycles in which no frame returned looped (R42). -/
  loopFree : Nat := 0
  loopedNow : Bool := false
  lagDue : Bool := false
  /-- System clock of the last tick. -/
  tickClk : Nat := 0
  /-- The mode of the frame before the present one. -/
  prevMode : Nat := 0
  /-- TB1 at the last tick, in 2^-16 ns (R13). -/
  tickTb : Nat := 0
  reports : List KReport := []
  lastD : List (Nat × Int) := []
  /-- The keepers used in the last frame, with their D (TK_STAT.K, RING_TIME_GET). -/
  usedD : List (Nat × Int) := []
  corrs : List Corr := []
  trailer : Int × Int := (0, 0)
  /-- The offset correction spread over the present cycle, as an increment to TB1 (R91). -/
  extraInc : Int := 0
  /-- The segments of the present frame that have departed. -/
  departed : List Nat := []
  /-- The segment last sent from RING-A, and from RING-B of a closed ring (the model's own view of the ring ports). -/
  lastSent : List Byte := []
  lastSentB : List Byte := []
  /-- This head sits at the far end of a twin line (address 255): the partner's frames carry SRC 0 (R36, Table 2.4). -/
  farEnd : Bool := false
  deriving DecidableEq, Repr

/-- A committed command of a block in the command buffer (R27, R145): the frame it is for and its bytes. -/
structure CmdSlot where
  frame : Nat := 0
  valid : Bool := false
  bytes : List Byte := []
  deriving DecidableEq, Repr


/-- An exponent register E0 to E7 (Table 4.1). -/
structure ExpReg where
  x : Int := 0
  h : Nat := 31
  deriving DecidableEq, Repr

/-- An open repeat level (R119). -/
structure RepLevel where
  start : Nat
  last : Nat
  count : Nat
  deriving DecidableEq, Repr

/-- A unit result on its way to its destination registers, with the SR and TS bits it sets (R117, R126, R127). -/
structure UnitResult where
  dst : List (Nat × W32)
  setSr : Nat := 0
  setTs : Nat := 0
  /-- A CVEC: SR.CZ tells of this one. -/
  cvec : Bool := false
  deriving DecidableEq, Repr

/-- A load from shared SRAM that stalls the core (R104): the access, and where the value goes. -/
structure SharedLoad where
  addr : Nat
  size : Nat
  signed : Bool
  dst : Nat
  deriving DecidableEq, Repr

/-- The task a core runs (R142). -/
structure Task where
  desc : Nat
  cycle : Nat
  /-- The cycle of its input frame (TW_INST). -/
  inst : Nat
  flags : Nat
  /-- TW_ARR. -/
  arr : Nat
  /-- System clock at which it was dispatched. -/
  since : Nat
  /-- The descriptor as it stood at dispatch (R130). -/
  bytes : List Byte
  /-- The input area of the task window (Table 5.3), and the schedule mode of its input frame. -/
  input : List Byte
  mode : Nat := 0
  deriving DecidableEq, Repr

/-- A loop core (R98 to R127). LC_STAT.STATE, LC_TRAP and the counters are in the register file. -/
structure Core where
  d : Tbl W32 := []
  a : Tbl W32 := []
  m : Tbl W32 := []
  ac : Tbl Acc := []
  e : Tbl ExpReg := []
  pc : Nat := 0
  lr : Nat := 0
  /-- SR without RDEPTH (Table 4.3). -/
  sr : Nat := 0
  tctl : Nat := 0
  ts : Nat := 0
  clk : Nat := 0
  vtb : Tbl W32 := []
  /-- Open repeat levels, outermost first, at most three. -/
  reps : List RepLevel := []
  /-- Per accumulator, the number of levels open when its SATL lock was set (R108). -/
  locks : Tbl Nat := []
  /-- Old values that the next instruction reads (Table 4.8): data registers, address registers as addresses, modifiers,
  accumulators as sources of moves, the flags of BFS and BFC, LR and the vector tables. -/
  oldD : List (Nat × W32) := []
  oldA : List (Nat × W32) := []
  oldM : List (Nat × W32) := []
  oldAc : List (Nat × Acc) := []
  oldSr : Option Nat := none
  oldLr : Option Nat := none
  oldVtb : List (Nat × W32) := []
  oldTctl : Option Nat := none
  /-- The last instruction was a MOVTC. -/
  movtc : Bool := false
  /-- Delay slots left to execute, and the target of a taken branch (R118). -/
  slots : Nat := 0
  target : Option Nat := none
  units : List UnitResult := []
  load : Option SharedLoad := none
  /-- TEND has issued and is on its way to W (R120). -/
  ended : Bool := false
  /-- TCTL.OVGP as TEND saw it. -/
  endOvgp : Nat := 0
  haltReq : Bool := false
  scratch : Mem := []
  /-- The committed state view, and the working copies of the lines written in this task (R103). -/
  view : Mem := []
  work : Mem := []
  lines : List Nat := []
  /-- Stores waiting for the commit, oldest first, at most 256: address, size, value (R104). -/
  queue : List (Nat × Nat × Nat) := []
  staging : Mem := []
  postRefused : Bool := false
  /-- The task in execution, if any. -/
  task : Option Task := none
  /-- System clock at which the core last became idle. -/
  idleAt : Nat := 0
  /-- The bank bit latched at dispatch (R419). -/
  bank : Nat := 0
  /-- Program memory, 16,384 words. -/
  prog : Tbl W32 := []
  deriving DecidableEq, Repr

/-- The shared SRAM of a loop die (R104): what every task may read, and the stores of recent cycles not yet readable by all. -/
structure SharedSram where
  base : Mem := []
  recent : List (Nat × List (Nat × Byte)) := []
  deriving DecidableEq, Repr


/-- One instance of a dependence counter (R131, R132). -/
structure CtrInst where
  armed : Bool := false
  value : Nat := 0
  /-- The cycle it belongs to, and its descriptor. -/
  cycle : Nat := 0
  desc : Nat := 0
  /-- PRED_FAIL bits (R134) and how many predecessors have been heard. -/
  predFail : Nat := 0
  preds : Nat := 0
  /-- Its inputs: LATE_INSTANT seen, a segment with one copy only, arrival of the last in 1.25 ns. -/
  late : Bool := false
  arr : Nat := 0
  deriving DecidableEq, Repr

/-- An entry of a ready list (R137), in the order in which entries became ready. -/
structure ReadyEntry where
  desc : Nat
  cycle : Nat
  prio : Nat
  core : Nat
  /-- System clock at which it became ready. -/
  since : Nat
  flags : Nat
  arr : Nat
  inst : Nat
  /-- The descriptor as it stood when the task became ready: a change does not reach a task that is ready (R130). -/
  bytes : List Byte := []
  /-- A FLOW_WAIT record has been written for it. -/
  waited : Bool := false
  deriving DecidableEq, Repr

/-- An entry of a delay list (R135). -/
structure DelayEntry where
  due : Nat
  desc : Nat
  cycle : Nat
  deriving DecidableEq, Repr

/-- A move accepted with GRATE_MOVE (R138). -/
structure MoveReq where
  core : Nat
  desc : Nat
  lines : Nat
  cycle : Nat
  deriving DecidableEq, Repr

/-- The Grate of a loop die (R129 to R147). -/
structure Grate where
  ready : List ReadyEntry := []
  delay : List DelayEntry := []
  moves : List MoveReq := []
  /-- The trace buffer, oldest first, at most 8,192 records (R147). -/
  trace : List (List Byte) := []
  /-- The trace area in MEM, by record number modulo 1,048,576 (R449). -/
  area : Tbl (List Byte) := []
  deriving DecidableEq, Repr


/-- An acquisition interval being reduced, or closed and waiting for its entry (R258 to R260). -/
structure Interval where
  /-- TB1 instant at which it opened, in 2^-16 ns. -/
  tStart : Nat := 0
  n : Nat := 0
  sum : Int := 0
  sumSq : Nat := 0
  min : Int := 0x7FFFFFFF
  max : Int := -0x80000000
  /-- Entry flags OVR, SETTLING, MISS, LATE, SAT and EMPTY, at their bits of Table 9.6. -/
  flags : Nat := 0
  cut : Bool := false
  /-- Ticks and samples counted in it. -/
  ticks : Nat := 0
  samples : Nat := 0
  firstTrig : Option Nat := none
  lastTrig : Nat := 0
  trigs : Nat := 0
  /-- Time to the next opposite edge of the TRG pin, in 25 ps; 0 while none came. -/
  width : Nat := 0
  /-- It has ended and the sample of the present cycle, whose instant may lie in it, has not come yet. -/
  waits : Bool := false
  deriving DecidableEq, Repr

/-- An acquisition record (R251 to R263). -/
structure AcqRec where
  configured : Bool := false
  /-- Admitted rate, MB/s (R264). -/
  rate : Nat := 0
  cur : Option Interval := none
  /-- Intervals that have ended and whose entries are not yet written, oldest first. -/
  closed : List Interval := []
  lastAccepted : Option Nat := none
  armRise : Bool := false
  armFall : Bool := false
  /-- The last present sample of the level condition: instant and value. -/
  last : Option (Nat × Int) := none
  /-- SEQ of the next entry. -/
  seq : Nat := 0
  postLeft : Nat := 0
  /-- The source has delivered a sample in this cycle. -/
  got : Bool := false
  /-- Samples whose instant lies after the next tick (R252): instant, value, flags. -/
  ahead : List (Nat × Int × Nat) := []
  /-- Accepted triggers not yet presented to every follower (R257, R233), oldest first. -/
  marks : List Nat := []
  /-- The buffer: entry bytes by index (class D). -/
  buf : Tbl (List Byte) := []
  deriving DecidableEq, Repr

/-- A local converter (R268 to R271). -/
structure Conv where
  scanPos : Nat := 0
  burstLeft : Nat := 0
  /-- TB1 start instant of the conversion in progress. -/
  start : Nat := 0
  /-- TB0 since when the reference has been within its band. -/
  refSince : Nat := 0
  /-- The number of the next interleaved conversion. -/
  count : Nat := 0
  deriving DecidableEq, Repr


/-- A time base (R277 to R285). The value counts 2^-48 ns; TB_NOW and TB_INC are views of it. -/
structure TimeBase where
  value : Nat := 0
  inc : Nat := 0x0001400000000000
  /-- INC_BASE of R281. -/
  incBase : Nat := 0x0001400000000000
  /-- The frequency term φ and the rate ρ of R282, in units of 2^-56 times 10^-18. -/
  phi : Int := 0
  rho : Int := 0
  firstFeed : Bool := false
  /-- T_MEAS of the last accepted feed, in 2^-16 ns (R282). -/
  lastMeas : Option Nat := none
  /-- The value after the last step, in 2^-16 ns (R282). -/
  lastStep : Option Nat := none
  /-- TB0 at the last accepted feed or step, or at enabling (R283). -/
  lastActive : Nat := 0
  /-- Stepped since the last tick (TFLAGS of Table 10.3). -/
  steppedTick : Bool := false
  deriving DecidableEq, Repr

/-- A capture entry (Table 10.4). -/
structure Capture where
  time : Nat
  falling : Bool
  stepped : Bool
  seq : Nat
  deriving DecidableEq, Repr

/-- A TIN pin (R287, R288). -/
structure Tin where
  /-- Captures queued, oldest first, at most eight. -/
  queue : List Capture := []
  seq : Nat := 0
  /-- The base was stepped since the previous capture. -/
  stepped : Bool := false
  deriving DecidableEq, Repr

/-- A TOUT pin (R290 to R293). -/
structure Tout where
  /-- The index k of the next instant of R290. -/
  next : Nat := 0
  /-- Pulses given in the present configuration. -/
  given : Nat := 0
  /-- System clock at which the pulse in progress ends. -/
  endClk : Nat := 0
  /-- A one-shot that a forward step passed over. -/
  passed : Bool := false
  /-- A configuration that waits for the end of the pulse in progress (R293). -/
  waiting : Option (List Byte) := none
  deriving DecidableEq, Repr

/-- A transmit timestamp entry, reserved and then completed (Table 10.6, R297, R298). -/
structure TxEntry where
  id : Nat
  seqId : Nat
  msgType : Nat
  done : Bool := false
  failed : Bool := false
  stepped : Bool := false
  ts : Nat := 0
  /-- When the command was accepted, in TB0 (R298). -/
  since : Nat := 0
  deriving DecidableEq, Repr

/-- A PTP port (R294 to R298). -/
structure PtpPort where
  /-- Frames accepted for sending, oldest first, with the entry each reserved, if any. -/
  txFrames : List (List Byte × Bool) := []
  entries : List TxEntry := []
  /-- The base was stepped since the previous PTP_RX of the port. -/
  stepped : Bool := false
  deriving DecidableEq, Repr

/-- A context's latch of the time bases (R300): per base, the visible value and whether TB_NOW0 was returned. -/
structure NowLatch where
  valid : Bool := false
  value : Nat := 0
  returned : Bool := false
  deriving DecidableEq, Repr



/-- A test pulse in progress (R314): when it began and ends in TB0, whether it is an off-test, whether it was aborted. -/
structure Pulse where
  start : Nat
  stop : Nat
  off : Bool
  aborted : Bool := false
  deriving DecidableEq, Repr

/-- A field channel (R302 to R318). FIO registers hold its states. -/
structure Chan where
  /-- The host's value, and SAF's for a SAF-owned output. -/
  host : Bool := false
  saf : Bool := false
  /-- The counter filter and the consecutive break samples. -/
  count : Nat := 0
  breaks : Nat := 0
  /-- Consecutive disagreeing readback samples and failed checks. -/
  readback : Nat := 0
  checks : Nat := 0
  /-- TB0 times of SHORT and THERMAL faults within a second, newest first, and the end of a retry pause. -/
  faults : List Nat := []
  retry : Option Nat := none
  /-- TB0 of the last switching, and the test pulse in progress. -/
  switched : Nat := 0
  pulse : Option Pulse := none
  /-- Until then an input's samples are excluded after its TP_SRC's off-test (R315). -/
  exclude : Nat := 0
  /-- A change of MODE passes through OFF until then, and then takes this record (R318). -/
  change : Option (Nat × List Byte) := none
  deriving DecidableEq, Repr


/-- What the standby's commit leaves pending until the active's RECORD decides (R366): written state-view lines and shared
stores. -/
structure TwinPend where
  cycle : Nat
  die : Nat
  desc : Nat
  core : Nat
  lines : List (Nat × List Byte)
  stores : List (Nat × Byte)
  /-- What the standard program committed. -/
  axes : List AxisRec := []
  shafts : List ShaftRec := []
  deriving DecidableEq, Repr

/-- A SENT message of the partner (R362, R365): frame, segment, and the command of each valid block. -/
structure TwinSent where
  frame : Nat
  addr : Nat
  ty : Nat
  blocks : List (Nat × List Byte)
  deriving DecidableEq, Repr

/-- Twin operation (R357 to R373). TWIN_STAT and its like are in the register file. -/
structure Twin where
  /-- No block on either lane for 1 us (R358). -/
  silent : Bool := true
  /-- The cycle of the last TICK applied, and whether it came in time (R367). -/
  tick : Option Nat := none
  tickLate : Bool := false
  /-- Digests of own tasks and of the partner's that came in time: cycle, die, descriptor, digest (R363). -/
  mine : List (Nat × Nat × Nat × Nat) := []
  theirs : List (Nat × Nat × Nat × Nat) := []
  /-- RECORDs applied: cycle, die, descriptor (R362). -/
  recs : List (Nat × Nat × Nat) := []
  pend : List TwinPend := []
  /-- SENT messages of the partner (R362, R365). -/
  sentIn : List TwinSent := []
  /-- The cycle of the last TWIN_DIGEST warning (R363). -/
  digestAt : Option Nat := none
  /-- Consecutive Flue-late cycles, and whether the present one is (R367). -/
  lateRun : Nat := 0
  lateNow : Bool := false
  /-- EPS has left EPS_MAX, and the cycles for which it has been within half of it since (R360). -/
  timeOut : Bool := false
  timeOk : Nat := 0
  /-- Message bytes sent in the present cycle (R367). -/
  bytes : Nat := 0
  /-- The cycle of a scheduled role swap (R372), and the cycle of SOLO (R368). -/
  swapAt : Option Nat := none
  solo : Option Nat := none
  /-- Bytes of the state copy done, while joining (R373). -/
  copied : Nat := 0
  /-- The winner's kindling frame content (R65). -/
  content : List Byte := []
  /-- The partner's versions and safety-set CRC (R373). -/
  images : List Nat := []
  /-- Arrival of the partner's frame after the tick here and there, in 2^-16 ns (R72), and the cycle of the last one here. -/
  ownArr : Option Nat := none
  partnerArr : Option Nat := none
  frameAt : Option Nat := none
  /-- Late tasks that count once the partner's SENT shows no valid command: axis, frame, cause (R365). -/
  lateOwed : List (Nat × Nat × Nat) := []
  deriving DecidableEq, Repr



/-- A connection of a node's safety part (R331 to R336). -/
structure NodeSafe where
  connId : Nat := 0
  kind : Nat := 0
  /-- Its own limits of SWD, in 10 us, and of SEQ_WIN. -/
  swdMax : Nat := 0
  winMax : Nat := 0
  /-- 0 CLOSED, 1 starting, 2 RUNNING, 3 FAILED. -/
  state : Nat := 0
  /-- The start parameters were within its limits. -/
  adopted : Bool := false
  lastSeq : Nat := 0
  seqOut : Nat := 0
  swd : Nat := 0
  win : Nat := 0
  /-- System clock at the last accepted container. -/
  heardAt : Nat := 0
  /-- DATA in force; gate-drive energy is removed; the brake is applied; the open dampers of an I/O connection are in DATA. -/
  data : List Byte := []
  sto : Bool := true
  brake : Bool := true
  deriving DecidableEq, Repr

/-- An axis block of a servo node (R48, R200 to R205, R151). -/
structure NodeBlock where
  /-- Held gate parameters, which of them have been accepted, the checked set that waits for T_out, the active set. -/
  held : Tbl Nat := []
  got : List Nat := []
  ready : Option (List Nat) := none
  active : Option (List Nat) := none
  /-- The command in force, the switch state, and whether all switches are held off. -/
  cmd : List Byte := []
  sw : Nat := 0
  inhibited : Bool := true
  /-- DESAT latches and their time, legs held off, legs under voltage, over-temperature, tripped, an INHIBIT accepted. -/
  desat : Nat := 0
  desatT : Nat := 0
  legOff : Nat := 0
  uv : Nat := 0
  ot : Bool := false
  tripped : Bool := false
  inhSeen : Bool := false
  /-- The index latch: QIDX, ISIN, ICOS, and a pulse since the last T_in. -/
  qidx : Nat := 0
  isin : Nat := 0
  icos : Nat := 0
  idx : Bool := false
  empties : Nat := 0
  deriving DecidableEq, Repr

/-- An axis of a stepper node (Table 2.10, R49): its update in force, the angle it has been rotated by since. -/
structure NodeStep where
  va : Int := 0
  vb : Int := 0
  dang : Int := 0
  rot : Int := 0
  ilim : Nat := 0
  sfl : Nat := 2
  empties : Nat := 0
  deriving DecidableEq, Repr

/-- A node as its vendor made it and as the ring left it (R38 to R40, R52 to R56, R66 to R92, R200 to R205, R331 to R336). -/
structure Node where
  /-- Bytes 1 to 31 of its claim, without DELTA and LAST_ADDR. -/
  decl : List Byte := []
  addr : Nat := 0
  lastAddr : Nat := 0
  /-- The address given up with RELEASE, under which its answer is still sent. -/
  releasing : Nat := 0
  /-- Roll-call windows in which it makes no claim, and the cycle of the last one counted. -/
  wait : Nat := 0
  winAt : Option Nat := none
  /-- PRIO and SERIAL of the head that assigned its address. -/
  head : Option (Nat × Nat) := none
  /-- Powered up, in its frame timeout, on a cyclic ring. -/
  fresh : Bool := true
  timedOut : Bool := false
  cyclic : Bool := false
  /-- Ports that are down or not yet up for 10 ms: it loops on the other. -/
  looping : List Nat := []
  preloads : Tbl (List Byte) := []
  mode : Option Nat := none
  /-- The mode before the last switch, and the armed switch: NEXT_SM, SWITCH_CYCLE. -/
  prevMode : Option Nat := none
  /-- The cycle at which it switched by itself (R83), and that whose T_in it last sampled at. -/
  swAt : Option Nat := none
  sampledAt : Option Nat := none
  armed : Option (Nat × Nat) := none
  /-- LATE_INSTANT for the frame of this cycle (R83). -/
  lateAt : Option Nat := none
  empties : Tbl (List Byte) := []
  /-- The last accepted cycle by segment type (R56), and the downlink then accepted: DLF and area. -/
  lastAcc : Tbl (Option Nat) := []
  accepted : Tbl (Nat × List Byte) := []
  /-- The uplink areas as sampled, and ULF and area as last written, by segment type. -/
  sampled : Tbl (List Byte) := []
  wrote : Tbl (Nat × List Byte) := []
  box : Mailbox := {}
  /-- The cycle whose mailbox fragment has been read, and what the node wrote into the mailbox segment or window. -/
  mailAt : Option Nat := none
  mailUp : List Byte := []
  emptyRx : Nat := 0
  noCopy : Nat := 0
  hdrErr : Nat := 0
  segErr : Nat := 0
  dups : Nat := 0
  replaced : Nat := 0
  /-- The cycle of the last accepted frame, its system clock, DEV of its copies, and its arrivals by port. -/
  cycle : Option Nat := none
  frameClk : Nat := 0
  devs : List Int := []
  arrs : Tbl (Option Int) := []
  delta : Option Int := none
  d : Int := 0
  lockRun : Nat := 0
  locked : Bool := false
  /-- The slew of this cycle from its own D, and what the trailers have added: offset of this cycle, rate. -/
  slew : Int := 0
  ofs : Int := 0
  rate : Int := 0
  corrs : List Corr := []
  pdX : Int := 0
  pdY : Int := 0
  pdNext : Option (Int × Int) := none
  blocks : Tbl NodeBlock := []
  steps : Tbl NodeStep := []
  /-- I/O outputs, and the empty cycles of the I/O segment. -/
  out : List Byte := []
  ioEmpties : Nat := 0
  /-- T_out instants so far, and the latest desaturation: its T_out instant, block and leg. -/
  latches : Nat := 0
  desatAt : Option (Nat × Nat × Nat) := none
  safe : Tbl NodeSafe := []
  deriving DecidableEq, Repr



/-- Positions that a core of SAF keeps (R341, R342): frame, position in 2^-32 counts, reception on SAF's clock; newest first, at most
65. -/
abbrev SafTrack := List (Nat × Int × Nat)

/-- A stop that SAF monitors (R340): when it began and the speed that each core then had, as 2^-32 counts over clocks. -/
structure SafStop where
  t0 : Nat
  vA : Nat × Nat
  vB : Nat × Nat
  deriving DecidableEq, Repr

/-- A connection at SAF (R328 to R342). Its STATE and mirrored bits are in the register file. -/
structure SafConn where
  /-- SEQ of the last container placed, and the frame it was for. -/
  seqOut : Nat := 0
  outFrame : Nat := 0
  lastIn : Nat := 0
  /-- The frame of the last uplink container taken. -/
  inFrame : Option Nat := none
  /-- SAF's clock: the start of the present state, the last accepted container. -/
  since : Nat := 0
  heard : Nat := 0
  /-- CONN_START_FAIL has been raised for this start. -/
  startFail : Bool := false
  /-- DATA as last accepted, and the host's request bits (R339). -/
  data : List Byte := []
  req : Nat := 0
  /-- When the first container without RUN_PERMIT was released, while STO_ACTIVE is awaited; STO_FB. -/
  stoAt : Option Nat := none
  stoFb : Bool := false
  /-- RUN_PERMIT has fallen and the brake is still released; the last change of the brake demand; SBC_FB. -/
  sbcAt : Option Nat := none
  brakeAt : Nat := 0
  sbcFb : Bool := false
  /-- SC-A's extended count with its last SPOS, the two cores' positions and anchors. -/
  countA : Int := 0
  lastSpos : Option Nat := none
  trackA : SafTrack := []
  trackB : SafTrack := []
  anchorA : Option Int := none
  anchorB : Option Int := none
  /-- Consecutive failing evaluations (R341). -/
  disc : Nat := 0
  /-- SS1 and SS2 under way, SLS's approach; SOS's positions; SDI's extremes; SLS is in force. -/
  ss1 : Option SafStop := none
  ss2 : Option SafStop := none
  sls : Option SafStop := none
  slsOn : Bool := false
  sos : Option (Int × Int) := none
  sdi : Option (Int × Int) := none
  deriving DecidableEq, Repr

/-- A safe signal (R338): since when its sources disagree, whether it is held at 0 for that, and both have since read 0. -/
structure SafSig where
  since : Option Nat := none
  held : Bool := false
  bothZero : Bool := false
  deriving DecidableEq, Repr

/-- A reset signal of a zone (R345): its level at the last evaluation, the start of the press, whether the press began with a change to 1,
whether it may still count, whether it was reported stuck, and a counting release that is not yet judged. -/
structure SafPress where
  level : Bool := false
  rise : Bool := false
  stuck : Bool := false
  since : Nat := 0
  counts : Bool := false
  released : Bool := false
  deriving DecidableEq, Repr


/-- A firmware slot (R407, R411): 0 EMPTY, 1 CONFIRMED, 2 TRIAL; version, image as decrypted, write counter. -/
structure FwSlot where
  state : Nat := 0
  version : Nat := 0
  image : List Byte := []
  counter : Nat := 0
  deriving DecidableEq, Repr

/-- The flash configuration as one of its two areas holds it (R407, R423): format, register fields, records, address map. -/
structure CfgArea where
  fmt : Nat
  regs : Tbl W32
  recs : Tbl (List Byte)
  map : Tbl (Option MapEntry)
  deriving DecidableEq, Repr

/-- An update under way (R412 to R423). UPD_STAT and its like are in the register file. -/
structure Update where
  /-- The manifest, the public key that came with it, and the staged ciphertext by part entry (class D). -/
  manifest : List Byte := []
  key : List Byte := []
  staged : Tbl (List (Nat × List Byte)) := []
  /-- CONFIRM_S; TB0 at activation while its success is open, and at which the HMP then reported ready; TB0 at which the timer ends. -/
  confirmS : Nat := 0
  began : Option Nat := none
  hmpAt : Option Nat := none
  ends : Option Nat := none
  /-- The tick of a fall-back and its cause. -/
  fall : Option (Nat × Nat) := none
  /-- SAF parts have been activated on this unit. -/
  safDone : Bool := false
  deriving DecidableEq, Repr

/-- Power, resets and ageing (R428 to R446, R461, R462). PWR_STAT, PWR_DOM, RST_CAUSE and their like are in the register file. -/
structure Power where
  /-- Held in reset, with only PD0 powered, until a boot starts. -/
  held : Bool := false
  /-- A boot has run since the last reset that clears class W (log 35). -/
  booted : Bool := false
  /-- A Hibernate is being left; in Hibernate, since this TB0 value. -/
  leaving : Bool := false
  hib : Option Nat := none
  /-- The power state being entered: 0 Run, 1 Standby, 2 Hibernate. -/
  target : Option Nat := none
  /-- The wake flags, WAKE_AT in 2^-16 ns, and WAKE has risen during the entry to Hibernate. -/
  wake : Nat := 0
  wakeAt : Nat := 0
  woke : Bool := false
  /-- Domains being switched, with the state they go to, the mask of the command, and its packet. -/
  doms : List (Nat × Bool) := []
  mask : Nat := 0
  waiter : Option Pkt := none
  /-- In a warm reset caused by the loss of REFCLK (Ember). -/
  refclk : Bool := false
  /-- TB0 of the last restarts by the HMP watchdog, newest first; the next restart uses the other slot. -/
  dogs : List Nat := []
  other : Bool := false
  /-- VOUT_COMMAND as last written, in mV; TB0 of a VRAISE step not yet confirmed; TB0 at which it is tried again. -/
  vout : Nat := 0
  step : Option Nat := none
  retry : Option Nat := none
  /-- TB0 since when a die's slack lies below SLACK_LO, by die, and a core's below SLACK_MIN at VRAISE 10, by core. -/
  low : Tbl (Option Nat) := []
  lowCore : Tbl (Option Nat) := []
  /-- Referred slack: of the hours of the present day (class E) and of past days (class N), newest first, by die. -/
  hours : Tbl (List Nat) := []
  days : Tbl (List Nat) := []
  /-- TB0 of the last ageing warnings, by cause: 0 to 7 mode fits no more with G + 10 ns, 8 to 15 mode fits no more, 16 DAYS. -/
  warned : Tbl (Option Nat) := []
  deriving DecidableEq, Repr


/-- The whole block, as plain data (INVENTORY.md, State). -/
structure State where
  axes : Tbl Axis := []
  /-- The commands that are waiting, first in, first out. -/
  pending : List Instr := []
  /-- The model's own counter of free values drawn (log 3). -/
  free : Nat := 0
  /-- 1.25 ns system clocks since power-on: the model's own measure of elapsed clocks (log 1). -/
  clk : Nat := 0
  /-- The register file: one entry per field and index whose value differs from its reset value. -/
  regs : Tbl W32 := []
  /-- Fused values (class F), by the numbers of `Fuse` in Records.lean. -/
  fuses : Tbl Nat := []
  /-- Configuration records in force, by kind and index. -/
  recs : Tbl (List Byte) := []
  /-- Accepted record changes that take effect at the next tick. -/
  recsNext : Tbl (List Byte) := []
  /-- Register fields of class N as the flash configuration holds them (R437), by the register file's keys. -/
  regsFlash : Tbl W32 := []
  /-- The MSI-X table of an endpoint (BAR2 0x1000), by endpoint times 16 plus word. -/
  msixTab : Tbl W32 := []
  /-- Records saved in flash configuration (class N). -/
  recsFlash : Tbl (List Byte) := []
  /-- The last packet the part sent (the model's own view of its output). -/
  sent : Option Packet := none
  /-- The value the last register read returned (the model's own view of its output). -/
  readOut : W32 := 0
  ctxs : Tbl Ctx := []
  claims : Tbl (Option Claim) := []
  /-- Holder of the configuration lease (R385). -/
  cfgLease : Option Nat := none
  /-- MSI-X vectors signalled, a bit set per endpoint (R397). -/
  msix : Tbl Nat := []
  /-- SSPI: replies that wait to be read, oldest first; the receive buffer holds a packet that is not yet executed; the packets
  discarded (R388, R400). -/
  sspiReplies : List Packet := []
  sspiRx : Bool := false
  sspiDrops : Nat := 0
  /-- The HMP runs: while it does not, no command is read and no lease runs down (R382). -/
  hmpRun : Bool := true
  /-- The model's own mark of how a held command is resumed: 0 a packet from its port, 1 a held command whose turn has come,
  2 one whose forwarding is acknowledged. It is 0 before and after every step. -/
  replay : Nat := 0
  /-- Commands forwarded to the partner over the Flue, oldest first: opcode and packet (R371). -/
  fwdOut : List (Nat × Pkt) := []
  /-- Sources answered by DISCOVER and when, in TB0 (R403). -/
  discovered : Tbl Nat := []
  reassembly : List Reassembly := []
  /-- When a port last announced itself, in TB0 (R403). -/
  announced : Tbl Nat := []
  soot : Soot := {}
  head : Head := {}
  scheds : Tbl Sched := []
  /-- The head's records of node addresses 1 to 254. -/
  hnodes : Tbl HNode := []
  addrMap : Tbl (Option MapEntry) := []
  /-- Map entries saved with RING_ADDR_SET (Table 3.9). -/
  mapFlash : Tbl (Option MapEntry) := []
  /-- Empty-slot settings kept for an address and type, as the body of EMPTY_CFG (R86). -/
  empties : Tbl (List Byte) := []
  /-- The path delays last held for an identity, by vendor times 2^64 plus serial (R73). -/
  oldDelay : Tbl (Int × Int) := []
  /-- Accepted uplinks, by address times eight plus type. -/
  segIn : Tbl SegIn := []
  /-- The command buffer, by (address times eight plus type) times 64 plus block. -/
  cmds : Tbl CmdSlot := []
  /-- The sent-command history (R181): four 16-byte entries, oldest first, by the same key. -/
  sentHist : Tbl (List Byte) := []
  /-- Downlink safe containers from SAF, and the last two uplink containers to SAF, each after the 4 bytes of its frame, by the same key (R47). -/
  contDown : Tbl (List Byte) := []
  contUp : Tbl (List Byte) := []
  cores : Tbl Core := []
  sram : Tbl SharedSram := []
  grates : Tbl Grate := []
  /-- Work descriptors in force and waiting for the next tick, by die times 4,096 plus index (R129, R130). -/
  descs : Tbl (List Byte) := []
  descsNext : Tbl (List Byte) := []
  /-- RELOAD values in force and waiting, by die times 1,024 plus counter (R131). -/
  reload : Tbl Nat := []
  reloadNext : Tbl Nat := []
  /-- Counter instances, by (die times 1,024 plus counter) times four plus instance. -/
  insts : Tbl CtrInst := []
  /-- The arrival map: counters by die and index, by (mode times 256 plus address) times eight plus type (R133). -/
  arrMap : Tbl (List (Nat × Nat)) := []
  fbs : Tbl Fb := []
  emus : Tbl Emu := []
  servos : Tbl Servo := []
  /-- The position table, by axis 0 to 647 (R222), and each axis's entry before it. -/
  posTab : Tbl PosEntry := []
  posPrev : Tbl PosEntry := []
  /-- The register marks presented to a follower in the present cycle, in 2^-16 ns of TB1, earliest first (R233). -/
  marksIn : Tbl (List Nat) := []
  motions : Tbl Motion := []
  steppers : Tbl Stepper := []
  vms : Tbl Vm := []
  groups : Tbl Group := []
  cams : Tbl Cam := []
  recBufs : Tbl AcqRec := []
  convs : Tbl Conv := []
  /-- REC_TLAST1 and REC_TLAST2 as latched, by record (R275). -/
  tlastLatch : Tbl (Nat × Nat) := []
  tbs : Tbl TimeBase := []
  tins : Tbl Tin := []
  touts : Tbl Tout := []
  ptps : Tbl PtpPort := []
  /-- Keyed by context times four plus base (R300). -/
  nowLatch : Tbl NowLatch := []
  chans : Tbl Chan := []
  twin : Twin := {}
  /-- Nodes for which the HUB has requested STO for a DC-link short, until SAF takes the request (R206, R323). -/
  dcShorts : List Nat := []
  /-- The nodes on the fibre, as the obligations on them describe them, by a number that names the unit. -/
  nodes : Tbl Node := []
  /-- The safety parameter set in force and the edit copy, by kind (0 connection, 1 axis, 2 signal, 3 zone, 4 channel, 5 password) times 256
  plus index (R348); class N the set. -/
  safeSet : Tbl (List Byte) := []
  safeEdit : Tbl (List Byte) := []
  /-- The set in flash, with the CRC and VERSION written beside it (R349). -/
  safeFlash : Tbl (List Byte) := []
  safeFlashCrc : Option (Nat × Nat) := none
  /-- The safety change log, oldest first, at most 256 (R351). -/
  safeLog : List (List Byte) := []
  safConns : Tbl SafConn := []
  safSigs : Tbl SafSig := []
  /-- Reset signals A and B, by zone times two. -/
  safPresses : Tbl SafPress := []
  /-- SAF's clock: the last safety command of the session, the beginning of a lock-out, entry into the fault state; failed logins in a
  row. -/
  safeLast : Nat := 0
  safeLockAt : Nat := 0
  safFaultAt : Nat := 0
  /-- The cycle of SAF's last evaluation on a cyclic ring (R324). -/
  safEvalAt : Option Nat := none
  safeFails : Nat := 0
  power : Power := {}
  update : Update := {}
  /-- Firmware slots, by type (0 to 3) times two plus slot; each type's slot in force. At reset slot 0 of each type is CONFIRMED. -/
  fw : Tbl FwSlot := []
  fwCur : Tbl Nat := []
  /-- The configuration area of the old format, while an update that changes the format is in TRIAL (R423). -/
  oldArea : Option CfgArea := none
  deriving DecidableEq, Repr

/-- The machine right after power-on, before the first command: every register field at its table's reset value, every
hidden item at the value the log names (log 8), memory with nothing listed. -/
def State.reset : State := {}

end Sys2Proof.Machine
end

