-- ==== Sys2Proof/Machine/Ops.lean ====
section
/-! DEFINITION. Sys2Proof/Machine/Ops.lean: the named operations over the state that every family shares: the register file, the
record store, free values, the time bases, and raising an event into the contexts and the soot log. -/

namespace Sys2Proof.Machine

/-! The register file (R5). -/

/-- What a field reads as while nothing has written it. -/
def Fld.dflt (f : Fld) : W32 := BitVec.ofNat 32 f.info.reset

/-- The value of a register field of one index. -/
def State.r (s : State) (f : Fld) (i : Nat := 0) : Nat := (Tbl.get f.dflt s.regs (f.key i)).toNat

/-- A one-bit field. -/
def State.rb (s : State) (f : Fld) (i : Nat := 0) : Bool := s.r f i != 0

/-- A signed field. -/
def State.rI (s : State) (f : Fld) (i : Nat := 0) : Int := toSigned f.info.width (s.r f i)

/-- Write a field, cut to its width. -/
def State.w (s : State) (f : Fld) (i v : Nat) : State :=
  { s with regs := Tbl.set f.dflt s.regs (f.key i) (BitVec.ofNat 32 (v % 2 ^ f.info.width)) }

/-- Write a one-bit field. -/
def State.wb (s : State) (f : Fld) (i : Nat) (b : Bool) : State := s.w f i (b2n b)

/-- Write a signed field. -/
def State.wI (s : State) (f : Fld) (i : Nat) (v : Int) : State := s.w f i (ofSigned f.info.width v)

/-- A fresh free value (log 3). -/
def State.fresh (s : State) : Nat × State := (Config.freeValue s.free, { s with free := s.free + 1 })

/-- The largest value of a field. -/
def Fld.top (f : Fld) : Nat := 2 ^ f.info.width - 1

/-- The two counters of Table 1.5 for which the manual states no saturation (log 9). -/
def Fld.openTop (f : Fld) : Bool := f = .CYC_OVERBUDGET_COUNT || f = .CYC_LATE_TOTAL_COUNT

/-- Count up. Counters saturate at their maximum; where the manual does not say so, the value past the top is free. -/
def State.inc (s : State) (f : Fld) (i : Nat := 0) (n : Nat := 1) : State :=
  if s.r f i + n ≤ f.top then s.w f i (s.r f i + n)
  else if f.openTop then s.fresh.2.w f i s.fresh.1 else s.w f i f.top

/-! Time (R4, R277). -/

def State.tb (s : State) (t : Nat) : TimeBase := Tbl.get {} s.tbs t

def State.updTb (s : State) (t : Nat) (f : TimeBase → TimeBase) : State := { s with tbs := Tbl.modify {} s.tbs t f }

/-- The visible value of a base, in 2^-16 ns (R277). -/
def State.now (s : State) (t : Nat) : Nat := (s.tb t).value / 2 ^ 32

/-- TB0 in 2^-16 ns. -/
def State.now0 (s : State) : Nat := s.now 0

/-- A number of milliseconds in 2^-16 ns. -/
def msT (n : Nat) : Nat := n * 1000000 * 65536

/-- A number of 10 ns units in 2^-16 ns. -/
def t10 (n : Nat) : Nat := n * 10 * 65536

/-- The 12 bytes of a time value (R4) from a number of 2^-16 ns. -/
def timeBytes (v : Nat) : List Byte :=
  le 2 (v % 65536) ++ le 4 (v / 65536 % 1000000000) ++ le 6 (v / 65536 / 1000000000)

/-- A time value that 12 bytes spell, in 2^-16 ns; none for a nanoseconds field of 1,000,000,000 or more (R4). -/
def timeOf (b : List Byte) : Option Nat :=
  if fld b 2 4 < 1000000000 then some ((fld b 6 6 * 1000000000 + fld b 2 4) * 65536 + fld b 0 2) else none

/-- One past the largest time value, in 2^-16 ns: the 48-bit seconds of R4. -/
def timeTop : Nat := 2 ^ 48 * 1000000000 * 65536

/-- Advance one base by a number of clocks. -/
def TimeBase.run (n : Nat) (b : TimeBase) : TimeBase := { b with value := b.value + n * b.inc }

/-- Only PD0 and SAF run: the part is held in reset, or in Hibernate (R428, R433). -/
def State.asleep (s : State) : Bool := s.power.held || s.power.hib.isSome

/-- A number of 1.25 ns clocks passes: every base advances by its own increment (R277); only TB0 does where the system clock is
stopped (R279). -/
def State.clocks (s : State) (n : Nat) : State :=
  { s with
    clk := s.clk + n
    tbs := (if s.asleep then [0] else [0, 1, 2, 3]).foldl (fun t i => Tbl.modify {} t i (TimeBase.run n)) s.tbs }

/-! Lists with a bound. -/

/-- Replace the element at a place. -/
def setAt {α : Type} (l : List α) (i : Nat) (x : α) : List α := l.set i x

/-! Contexts, claims and events (R391, R401, R402). -/

def State.ctx (s : State) (c : Nat) : Ctx := Tbl.get {} s.ctxs c

def State.updCtx (s : State) (c : Nat) (f : Ctx → Ctx) : State := { s with ctxs := Tbl.modify {} s.ctxs c f }

/-- The owner of a resource (R383). -/
def State.owner (s : State) (res : Nat) : Option Nat := (Tbl.get none s.claims res).map Claim.ctx

/-- An identifier of Table 14.2. -/
def isResource (id : Nat) : Bool :=
  id < 0x288 || (0x300 ≤ id && id < 0x320) || (0x340 ≤ id && id < 0x380) || (0x400 ≤ id && id < 0x420) ||
  (0x500 ≤ id && id < 0x510) || (0x520 ≤ id && id < 0x522) || (0x600 ≤ id && id < 0x618)

/-- HC7 is the Flue path of a unit that is a member of a twin pair (Table 14.1, R371, R406). -/
def State.twinPath (s : State) (c : Nat) : Bool := c == 7 && s.rb .TWIN_CFG_ENABLE

/-- The context owns a resource; the Flue path acts as owner of every one (R406). -/
def State.owns (s : State) (c res : Nat) : Bool := s.twinPath c || s.owner res == some c

/-- The context holds the configuration lease (R385, R406). -/
def State.holdsLease (s : State) (c : Nat) : Bool := s.twinPath c || s.cfgLease == some c

/-- The resource an event's subject is, for the kinds OWN_ONLY limits (R402). -/
def subjectResource (kind subj : Nat) : Option Nat :=
  match kind with
  | 1 => some subj
  | 10 => some (0x300 + subj)
  | 5 => some (0x400 + subj)
  | 6 => if isResource subj then some subj else none
  | 7 => some (0x600 + subj)
  | _ => none

/-- An event reaches a context: a session, the group's mask bit, and ownership under OWN_ONLY (R402). -/
def State.hears (s : State) (c : Nat) (e : Ev) (kind subj : Nat) : Bool :=
  (s.ctx c).isOpen && bit (s.ctx c).mask e.group &&
  (!bit (s.ctx c).mask 15 ||
    match subjectResource kind subj with
    | some res => s.owner res == some c
    | none => true)

/-- The event header of R401 and the body. -/
def Event.bytes (e : Event) : List Byte :=
  le 1 e.fc ++ [0] ++ le 1 e.kind ++ [0] ++ le 2 e.subj ++ [0, 0] ++ timeBytes e.time ++ le 4 e.cycle ++ e.body

/-- The event as a packet (R387, R391). -/
def Ctx.eventPacket (x : Ctx) (c : Nat) (e : Event) : Packet :=
  { port := x.port, ctx := c, kind := 2, flags := b2n (e.lost != 0), opcode := e.ev.code, seq := e.seq,
    session := x.session, ack := e.lost, params := e.bytes }

/-- An event of the kind that vector 2 signals: FC3, FC4 or group 0x07xx (R397). -/
def Event.urgent (e : Event) : Bool := e.fc == 3 || e.fc == 4 || e.ev.group == 7

/-- Signal an MSI-X vector of an endpoint (R397). -/
def State.msi (s : State) (e v : Nat) : State := { s with msix := Tbl.modify 0 s.msix e (fun m => m ||| 2 ^ v) }

/-- Entries in a ring of an endpoint (R396). -/
def State.ringUsed (s : State) (e q : Nat) : Nat :=
  (s.r .Q_PROD_IDX (e * 3 + q) + 65536 - s.r .Q_CONS_IDX (e * 3 + q)) % 65536

/-- Room in a ring of an endpoint (R396). -/
def State.ringRoom (s : State) (e q : Nat) : Bool := s.ringUsed e q < 2 ^ s.r .Q_SIZE_LOG2 (e * 3 + q)

/-- Write held events that are still to be sent into the event ring while it has room (R396); `fuel` bounds how many. -/
def State.pumpEvents (s : State) (e : Nat) : Nat → State
  | 0 => s
  | fuel + 1 =>
    match (s.ctx e).toSend with
    | [] => s
    | q :: rest =>
      match (s.ctx e).events.find? (fun ev => ev.seq == q) with
      | none => State.pumpEvents (s.updCtx e (fun x => { x with toSend := rest })) e fuel
      | some ev =>
        if s.rb .CTX_STAT_RUN e && s.ringRoom e 2 then
          let s1 := s.w .Q_PROD_IDX (e * 3 + 2) (s.r .Q_PROD_IDX (e * 3 + 2) + 1)
          let s2 := (s1.msi e (if ev.urgent then 2 else 1)).updCtx e (fun x => { x with toSend := rest, ring := x.ring ++ [some q] })
          State.pumpEvents { s2 with sent := some ((s.ctx e).eventPacket e ev) } e fuel
        else s

/-- Queue an event to one context: at most 256 are held, and the next one queued carries what was lost (R391). -/
def State.deliver (s : State) (c : Nat) (e : Ev) (fc kind subj : Nat) (body : List Byte) : State :=
  let x := s.ctx c
  if x.events.length < 256 then
    let ev : Event :=
      { ev := e, fc := fc, kind := kind, subj := subj, time := s.now0, cycle := s.r .CYC_NOW_CYCLE, body := body,
        seq := x.evNext, lost := x.evLost }
    let s1 := s.updCtx c (fun y => { y with events := y.events ++ [ev], evNext := (y.evNext + 1) % 65536, evLost := 0 })
    if c < 2 then (s1.updCtx c (fun y => { y with toSend := y.toSend ++ [x.evNext] })).pumpEvents c 256
    else if c = 6 then s1
    else { s1 with sent := some (x.eventPacket c ev) }
  else (s.updCtx c (fun y => { y with evLost := satAdd 65535 y.evLost 1 })).inc .HOST_CNT_EV_LOST c

/-- Events that the soot log leaves out (R447). -/
def Ev.logged (e : Ev) : Bool := e ≠ .ptpRx && e ≠ .ptpTxts && e ≠ .fieldChange

/-- A soot-log entry made now; its number is given when it is written (Table 16.6). -/
def State.sootEntry (s : State) (code fc kind subj data : Nat) : SootEntry :=
  { time := s.now0, cycle := s.r .CYC_NOW_CYCLE, code := code, fc := fc, kind := kind, subj := subj,
    boot := s.r .RST_BOOTS_COUNT % 65536, data := data }

/-- Give an entry to the writer's queue of 256; a full queue stores nothing and counts (R448). -/
def State.log (s : State) (code fc kind subj data : Nat) : State :=
  if s.soot.queue.length < 256 then
    { s with soot := { s.soot with queue := s.soot.queue ++ [s.sootEntry code fc kind subj data] } }
  else ({ s with soot := { s.soot with lost := s.soot.lost + 1 } }).inc .SOOT_CNT_LOST

/-- Raise an event: into the soot log and to every context that hears it (R402, R447). -/
def State.raise (s : State) (e : Ev) (fc : Nat := 0xFF) (kind : Nat := 0) (subj : Nat := 0) (body : List Byte := [])
    (data : Nat := 0) : State :=
  let s1 := if e.logged then s.log e.code fc kind subj data else s
  [0, 1, 2, 3, 4, 5, 6, 7].foldl (fun t c => if s.hears c e kind subj then t.deliver c e fc kind subj body else t) s1

/-- What a write to the flash configuration does to the area of the old format while an update that changed the format is in TRIAL (R423):
the same, unless the old format cannot hold the setting, which the manual leaves open; then the write is counted and reported once. -/
def State.alsoOld (s : State) (f : CfgArea → CfgArea) : State :=
  match s.oldArea with
  | none => s
  | some a =>
    let (v, s) := s.fresh
    if v % 2 = 0 then { s with oldArea := some (f a) }
    else
      let t := s.inc .UPD_CFG_LOSSY
      if s.r .UPD_CFG_LOSSY = 0 then t.raise .updateCfgLossy else t

/-- Raise PTP_RX or PTP_TXTS to the owner of the port alone (R402). -/
def State.raiseTo (s : State) (c : Nat) (e : Ev) (kind subj : Nat) (body : List Byte) : State :=
  if s.hears c e kind subj then s.deliver c e 0xFF kind subj body else s

end Sys2Proof.Machine
end

