-- ==== Sys2Proof/Machine/Fuses.lean ====
section
/-! DEFINITION. Sys2Proof/Machine/Fuses.lean: what is fixed by fuse at manufacture or provisioning (class F, R7). The manual names these
values and gives none of them; they stand in the state as data, zero at reset (log 10). -/

namespace Sys2Proof.Machine

/-- The fused items, each with an index. -/
inductive Fuse where
  | serial | mac0 | tinDelay | ptpRxLatency | ptpTxLatency | debug | antiRollback | keyHash | keyRevoked | acqInputDelay | tempCoeff
  | adcAperture | freshSlack | versionSteps
  deriving DecidableEq, Repr

/-- The key of a fused item. -/
def Fuse.key (f : Fuse) (i : Nat) : Nat := i * 64 + f.ctorIdx

/-- A fused value. -/
def State.fuse (s : State) (f : Fuse) (i : Nat := 0) : Nat := Tbl.get 0 s.fuses (f.key i)

/-- Blow a fuse. -/
def State.blow (s : State) (f : Fuse) (i v : Nat) : State := { s with fuses := Tbl.set 0 s.fuses (f.key i) v }

/-! Firmware slots (R407). -/

/-- A slot of a part type. -/
def State.fwSlot (s : State) (t k : Nat) : FwSlot := Tbl.get (if k = 0 then { state := 1 } else {}) s.fw (t * 2 + k)

/-- Write a slot. -/
def State.setFwSlot (s : State) (t k : Nat) (x : FwSlot) : State :=
  { s with fw := Tbl.set (if k = 0 then { state := 1 } else {}) s.fw (t * 2 + k) x }

/-- The slot in force of a part type. -/
def State.fwIn (s : State) (t : Nat) : Nat := Tbl.get 0 s.fwCur t

/-- Put a slot in force. -/
def State.setFwIn (s : State) (t k : Nat) : State := { s with fwCur := Tbl.set 0 s.fwCur t k }

/-- The address set a unit uses (R398): set 1 where it is the member of a twin pair with the higher serial. -/
def State.addressSet (s : State) : Nat :=
  b2n (s.rb .TWIN_CFG_ENABLE && decide (s.r .TWIN_PSER_LO_SERIAL + 2 ^ 32 * s.r .TWIN_PSER_HI_SERIAL < s.fuse .serial))

/-- The version in force (FW_ACT). -/
def State.fwVersion (s : State) (t : Nat) : Nat := (s.fwSlot t (s.fwIn t)).version

/-- The other slot. -/
def State.fwOther (s : State) (t : Nat) : FwSlot := s.fwSlot t (1 - s.fwIn t)

/-- The other slot's version, or 0 where it is EMPTY (FW_ALT). -/
def State.fwAlternate (s : State) (t : Nat) : Nat := if (s.fwOther t).state = 0 then 0 else (s.fwOther t).version

/-- The fused anti-rollback limit of a part type (R408). -/
def State.rollLimit (s : State) (t : Nat) : Nat := s.fuse .antiRollback / 256 ^ t % 256

/-- A version lies below the limit of its part type (R408). -/
def State.belowLimit (s : State) (t version : Nat) : Bool := decide (version / 2 ^ 24 < s.rollLimit t)

/-- Every TRIAL slot becomes EMPTY; its write counter stays (R411, R422). -/
def State.emptyTrials (s : State) : State :=
  [0, 1, 2, 3].foldl (fun u t => [0, 1].foldl (fun v k =>
    if (v.fwSlot t k).state = 2 then v.setFwSlot t k { counter := (v.fwSlot t k).counter } else v) u) s

/-- An update that has not been activated is discarded (R416). -/
def State.discardUpdate (s : State) : State :=
  { (((s.emptyTrials.w .UPD_STAT_STATE 0 0).w .UPD_STAT_CTX 0 0).w .UPD_CYCLE_CYCLE 0 0xFFFFFFFF) with update := {} }

/-- The context that opened an update departs: the update is aborted before activation, and goes on after it (R416). -/
def State.dropUpdate (s : State) (c : Nat) : State :=
  if (s.r .UPD_STAT_STATE == 1 || s.r .UPD_STAT_STATE == 2) && s.r .UPD_STAT_CTX == c then s.discardUpdate else s

end Sys2Proof.Machine
end

