-- ==== Sys2Proof/Machine/Records.lean ====
section
/-! DEFINITION. Sys2Proof/Machine/Records.lean: the configuration records of the chapters: their kinds, lengths and defaults, and the
store that holds them: in force, waiting for the next tick, and saved in flash (class N). -/

namespace Sys2Proof.Machine

/-- The kinds of record. -/
inductive RecKind where
  /-- Bellows record of TB2 and TB3, by base (Table 10.2). -/
  | bellows
  /-- TIN pin: TB, EDGE, FLAGS, zero, PPS_OFS (R301). -/
  | tin
  /-- TOUT pin: MODE, TB, FLAGS, zero, START, PERIOD, WIDTH, COUNT, DIV, zero (R301). -/
  | tout
  /-- PTP port: FLAGS, three zero bytes, TX_ADJ, RX_ADJ (R301). -/
  | ptp
  /-- Login-table entry (Table 14.9). -/
  | loginTable
  /-- Network record, by port times two plus address set (Table 14.8). -/
  | net
  /-- Acquisition record (Table 9.11). -/
  | acq
  /-- Converter (Table 9.12). -/
  | adc
  /-- Calibration pair OFFSET and GAIN, by converter times 16 plus stream (R272). -/
  | adcCal
  /-- Servo control record (Table 7.6). -/
  | servo
  /-- Stored motor set (Table 7.7). -/
  | motor
  /-- Tracked motor set (R181, R187). -/
  | motorTracked
  /-- Power-stage record (Table 7.8). -/
  | ps
  /-- Vector table of the parameter view (Table 7.1). -/
  | vt
  /-- Selection map of the parameter view (Table 7.1). -/
  | selMap
  /-- VTB0 image of the parameter view (Table 7.1). -/
  | vtb0
  /-- Feedback parameters (Table 6.3). -/
  | fb
  /-- Stored calibration set (Table 6.4, R159). -/
  | cal
  /-- Tracked calibration set (R159). -/
  | calTracked
  /-- Motion record of an axis or virtual master (Table 8.6). -/
  | motion
  /-- Follower record (Table 8.7). -/
  | follower
  /-- Stepper record (Table 8.8). -/
  | stepper
  /-- Virtual-master record (Table 8.10). -/
  | vm
  /-- Encoder emulator: SRC, FLAGS, zero, LINES, PERIOD_NM, MINSEP, LAGMAX, Z_POS (Table 6.6). -/
  | emu
  /-- Field channel (Table 11.4). -/
  | field
  /-- Servo binding: ADDR, BLK, DIE, NPC, DESC (R180). -/
  | servoBind
  /-- Stepper binding, by stepper axis 0 to 511: ADDR, DIE, LOCAL, DESC (R242; log 14). -/
  | stepBind
  deriving DecidableEq, Repr

/-- The length of a record, in bytes. -/
def RecKind.length : RecKind → Nat
  | .bellows => 20
  | .tin => 12
  | .tout => 36
  | .ptp => 12
  | .loginTable => 32
  | .net => 32
  | .acq => 64
  | .adc => 20
  | .adcCal => 8
  | .servo => 64
  | .motor => 64
  | .motorTracked => 64
  | .ps => 32
  | .vt => 128
  | .selMap => 96
  | .vtb0 => 4
  | .fb => 64
  | .cal => 48
  | .calTracked => 48
  | .motion => 128
  | .follower => 64
  | .stepper => 64
  | .vm => 16
  | .emu => 16
  | .field => 16
  | .servoBind => 8
  | .stepBind => 8

/-- The default record. -/
def RecKind.dflt : RecKind → List Byte
  | .bellows => le 2 0 ++ le 2 3000 ++ le 4 32768 ++ le 4 1048576 ++ le 4 100000 ++ le 4 0
  | .tin => le 12 0
  | .tout => le 36 0
  | .ptp => le 12 0
  | .loginTable => le 32 0
  | .net => le 32 0
  | .acq => le 64 0
  | .adc => le 20 0
  | .adcCal => le 4 0 ++ le 4 65536
  | .servo => le 1 0 ++ le 1 1 ++ le 1 1 ++ le 1 6 ++ le 2 655 ++ le 2 6554 ++ le 2 1311 ++ le 2 1000 ++ le 2 800 ++ le 1 2 ++ le 1 0 ++ le 4 50331648 ++ le 12 0 ++ le 2 32768 ++ le 6 0 ++ le 2 36700 ++ le 2 20 ++ le 9 0 ++ le 1 18 ++ le 1 120 ++ le 1 140 ++ le 2 1200 ++ le 2 256 ++ le 4 0
  | .motor => le 64 0
  | .motorTracked => le 64 0
  | .ps => le 2 0 ++ le 2 240 ++ le 2 560 ++ le 2 100 ++ le 2 2048 ++ le 2 1250 ++ le 2 1000 ++ le 2 400 ++ le 2 4 ++ le 2 42 ++ le 12 0
  | .vt => le 128 0
  | .selMap => le 96 0
  | .vtb0 => le 4 0
  | .fb => le 8 0 ++ le 2 16384 ++ le 2 45120 ++ le 1 64 ++ le 1 2 ++ le 2 256 ++ le 4 4294967295 ++ le 2 0 ++ le 1 16 ++ le 1 10 ++ le 4 0 ++ le 1 1 ++ le 1 3 ++ le 1 2 ++ le 1 6 ++ le 1 4 ++ le 1 5 ++ le 1 4 ++ le 1 64 ++ le 2 2731 ++ le 2 256 ++ le 4 0 ++ le 2 64 ++ le 1 15 ++ le 1 1 ++ le 4 256 ++ le 2 0 ++ le 2 64 ++ le 4 65536 ++ le 4 0
  | .cal => le 8 0 ++ le 4 1073741824 ++ le 4 1073741824 ++ le 32 0
  | .calTracked => le 8 0 ++ le 4 1073741824 ++ le 4 1073741824 ++ le 32 0
  | .motion => le 1 0 ++ le 1 3 ++ le 1 8 ++ le 25 0 ++ le 2 50 ++ le 2 50 ++ le 56 0 ++ le 8 6442450944 ++ le 4 0 ++ le 4 16 ++ le 24 0
  | .follower => le 3 0 ++ le 1 4 ++ le 4 0 ++ le 4 1 ++ le 2 32768 ++ le 50 0
  | .stepper => le 1 0 ++ le 1 50 ++ le 1 0 ++ le 1 8 ++ le 10 0 ++ le 2 80 ++ le 12 0 ++ le 1 20 ++ le 1 40 ++ le 1 56 ++ le 1 3 ++ le 2 62259 ++ le 30 0
  | .vm => le 16 0
  | .emu => le 6 0 ++ le 2 1 ++ le 2 16 ++ le 2 4096 ++ le 4 0
  | .field => le 2 0 ++ le 1 3 ++ le 1 8 ++ le 2 1000 ++ le 2 200 ++ le 2 100 ++ le 6 0
  | .servoBind => le 8 0
  | .stepBind => le 8 0

/-- The key of a record. -/
def RecKind.key (k : RecKind) (i : Nat) : Nat := i * 64 + k.ctorIdx

/-- The record in force. -/
def State.cfg (s : State) (k : RecKind) (i : Nat) : List Byte :=
  let b := Tbl.get [] s.recs (k.key i)
  if b = [] then k.dflt else b

/-- An unsigned field of the record in force. -/
def State.ru (s : State) (k : RecKind) (i off n : Nat) : Nat := fld (s.cfg k i) off n

/-- A signed field of the record in force. -/
def State.ri (s : State) (k : RecKind) (i off n : Nat) : Int := fldI (s.cfg k i) off n

/-- Put a record in force. -/
def State.recSet (s : State) (k : RecKind) (i : Nat) (b : List Byte) : State :=
  { s with recs := Tbl.set [] s.recs (k.key i) b }

/-- Have a record take effect at the next tick. -/
def State.recNext (s : State) (k : RecKind) (i : Nat) (b : List Byte) : State :=
  { s with recsNext := Tbl.set [] s.recsNext (k.key i) b }

/-- The record that a change starts from: the one waiting for the tick, else the one in force. -/
def State.recLatest (s : State) (k : RecKind) (i : Nat) : List Byte :=
  let b := Tbl.get [] s.recsNext (k.key i)
  if b = [] then s.cfg k i else b

/-- Save a record in flash when a command's FLASH flag asks for it. -/
def State.recFlash (s : State) (k : RecKind) (i : Nat) (b : List Byte) (flash : Bool) : State :=
  if flash then { s with recsFlash := Tbl.set [] s.recsFlash (k.key i) b }.alsoOld (fun a => { a with recs := Tbl.set [] a.recs (k.key i) b }) else s

/-- Every waiting record takes effect (at a tick). -/
def State.recsTick (s : State) : State :=
  { s with recs := s.recsNext.foldl (fun t e => Tbl.set [] t e.1 e.2) s.recs, recsNext := [] }

/-- Take the present bytes where a record's field of `n` bytes at an offset is zero (R10: the present value stays). -/
def keepZero (old new : List Byte) (off n : Nat) : List Byte :=
  if fld new off n = 0 then patch new off (slice old off n) else new

end Sys2Proof.Machine
end

