-- ==== Sys2Proof/Machine/TimeOps.lean ====
section
/-! DEFINITION. Sys2Proof/Machine/TimeOps.lean: steps of a time base and what they reach (R285, R292), the Bellows (R281 to R283), and
the timed pins' instants (R290 to R293). -/

namespace Sys2Proof.Machine

/-- The modes of TB_STAT.MODE. -/
def State.tbBellows (s : State) (t : Nat) : Bool := s.r .TB_STAT_MODE t == 1
def State.tbRing (s : State) (t : Nat) : Bool := s.r .TB_STAT_MODE t == 2

def State.tin (s : State) (k : Nat) : Tin := Tbl.get {} s.tins k
def State.updTin (s : State) (k : Nat) (f : Tin → Tin) : State := { s with tins := Tbl.modify {} s.tins k f }
def State.tout (s : State) (k : Nat) : Tout := Tbl.get {} s.touts k
def State.updTout (s : State) (k : Nat) (f : Tout → Tout) : State := { s with touts := Tbl.modify {} s.touts k f }
def State.ptp (s : State) (p : Nat) : PtpPort := Tbl.get {} s.ptps p
def State.updPtp (s : State) (p : Nat) (f : PtpPort → PtpPort) : State := { s with ptps := Tbl.modify {} s.ptps p f }

/-! The TOUT record: MODE 0, TB 1, FLAGS 2, START 4, PERIOD 16, WIDTH 24, COUNT 28, DIV 32. -/

/-- START in 2^-16 ns. -/
def toutStart (b : List Byte) : Nat := (timeOf (slice b 4 12)).getD 0

/-- The instant I_k of R290; a one-shot ignores PERIOD (R291). -/
def toutInstant (b : List Byte) (k : Nat) : Nat :=
  toutStart b + (if fld b 28 4 = 1 then 0 else k * fld b 16 8)

/-- The first k with I_k at or after a value. -/
def toutFirst (b : List Byte) (v : Nat) : Nat :=
  if fld b 28 4 = 1 ∨ v ≤ toutStart b then 0 else divCeil (v - toutStart b) (fld b 16 8)

/-- A timed train that has pulses left. -/
def State.toutLive (s : State) (k : Nat) : Bool :=
  s.r .TOUT_STAT_MODE k == 1 &&
    (s.ru .tout k 28 4 == 0xFFFFFFFF || (s.tout k).given < s.ru .tout k 28 4)

/-- What a step of its base does to one pin's instants (R292): a forward step passes instants over and counts them; a
backward step starts again at the first instant at or after the new value. -/
def State.toutStep (s : State) (t old new k : Nat) : State :=
  let b := s.cfg .tout k
  if !(s.toutLive k && s.r .TOUT_STAT_TB k == t) then s
  else if fld b 28 4 = 1 then
    if old < toutStart b ∧ toutStart b ≤ new then s.updTout k (fun x => { x with passed := true }) else s
  else if old ≤ new then
    if toutInstant b (s.tout k).next ≤ new then
      let last := (new - toutStart b) / fld b 16 8
      (s.inc .TOUT_CNT_SKIPPED k (last - (s.tout k).next)).updTout k (fun x => { x with next := max last x.next })
    else s
  else s.updTout k (fun x => { x with next := toutFirst b new })

/-- Step a base to a value in 2^-48 ns, in one clock (R285). Causes of Table 14.15: 0 TIME_SET, 1 TIME_STEP, 2 Bellows,
3 adoption. -/
def State.stepBase (s : State) (t newVal cause : Nat) : State :=
  let old := s.now t
  let new := newVal / 2 ^ 32
  let s := s.updTb t (fun b =>
    { b with value := newVal, lastStep := some new, firstFeed := b.firstFeed || s.tbBellows t, lastActive := s.now0,
             steppedTick := true })
  let s := ((s.wb .TB_STAT_STEPPED t true).inc .TB_CNT_STEPS t).wb .TB_STAT_HOLDOVER t false
  let s := (List.range 8).foldl (fun u k =>
    let u := if u.ru .tin k 0 1 = t then u.updTin k (fun x => { x with stepped := true }) else u
    u.toutStep t old new k) s
  let s := (List.range 2).foldl (fun u p =>
    if (if u.rb .PTP_STAT_TB3 p then 3 else 2) = t then
      u.updPtp p (fun x => { x with
        stepped := true
        entries := x.entries.map (fun e => if e.done then e else { e with stepped := true }) })
    else u) s
  let d := clampInt (-(2 ^ 63)) (2 ^ 63 - 1) ((new : Int) - old)
  s.raise .tbStep 0xFF 12 t (timeBytes new ++ leInt 8 d ++ le 1 cause ++ [0, 0, 0])

/-! The Bellows (R282). Rates are in units of 2^-56 times 10^-18. -/

/-- One, as a rate. -/
def rateOne : Nat := 2 ^ 56 * 10 ^ 18

/-- RATE_MAX of a base, as a rate. -/
def State.rateMax (s : State) (t : Nat) : Int := (s.ru .bellows t 12 4 : Int) * (2 ^ 56 * 10 ^ 9 : Nat)

/-- INC = INC_BASE times (1 + rho), rounded half up, and what TB_RHO shows, in 2^-40. -/
def State.applyRho (s : State) (t : Nat) : State :=
  let b := s.tb t
  let s := s.updTb t (fun x => { x with inc := (divRound ((x.incBase : Int) * (rateOne + x.rho)) rateOne).toNat })
  s.wI .TB_RHO_RHO t (divRound b.rho (2 ^ 16 * 10 ^ 18))

/-- The servo of rule 3. -/
def State.bellowsServo (s : State) (t : Nat) (theta : Int) (tMeas : Nat) : State :=
  let m := s.rateMax t
  let kp : Int := s.ru .bellows t 4 4
  let ki : Int := s.ru .bellows t 8 4
  let s := s.updTb t (fun b =>
    let phi := if b.firstFeed then b.phi
      else clampInt (-m) m (b.phi - ki * theta * ((tMeas : Int) - (b.lastMeas.getD tMeas : Nat)))
    { b with phi := phi, rho := clampInt (-m) m (phi - kp * theta * (2 ^ 24 * 10 ^ 9 : Nat)), firstFeed := false,
             lastMeas := some tMeas, lastActive := s.now0 })
  let s := (s.inc .TB_CNT_FEEDS t).wb .TB_STAT_HOLDOVER t false
  (s.wI .TB_OFS_THETA t (clampInt (-(2 ^ 31)) (2 ^ 31 - 1) theta)).applyRho t

/-- A feed of offset `theta` and instant `tMeas`, both in 2^-16 ns; the result is 0 applied, 1 stepped, 2 rejected (R282). -/
def State.bellowsFeed (s : State) (t : Nat) (theta : Int) (tMeas : Nat) : State × Nat :=
  let b := s.tb t
  let early := (match b.lastMeas with | some m => decide (tMeas ≤ m) | none => false) ||
    (match b.lastStep with | some v => decide (tMeas < v) | none => false)
  if s.now t < tMeas || early then (s.inc .TB_CNT_REJECTS t, 2)
  else
    let thr := s.ru .bellows t 16 4 * 65536
    if thr ≠ 0 ∧ thr ≤ theta.natAbs then
      let new : Int := (b.value : Int) - theta * (2 ^ 32 : Nat)
      if bit (s.ru .bellows t 0 1) 1 && decide (0 ≤ new) && decide (new < (timeTop * 2 ^ 32 : Nat)) then
        ((s.stepBase t new.toNat 2).applyRho t, 1)
      else (s.inc .TB_CNT_REJECTS t, 2)
    else (s.bellowsServo t theta tMeas, 0)

/-- Put a TOUT record in force (R291, R293). -/
def State.toutApply (s : State) (k : Nat) (b : List Byte) : State :=
  let s := s.recSet .tout k b
  let s := s.updTout k (fun x =>
    { x with next := toutFirst b (s.now (fld b 1 1)), given := 0, passed := false, waiting := none })
  (s.w .TOUT_STAT_MODE k (fld b 0 1)).w .TOUT_STAT_TB k (fld b 1 1)

/-- Put a TOUT record in force at once, or at the end of the pulse in progress (R293). -/
def State.toutConfig (s : State) (k : Nat) (b : List Byte) : State :=
  if s.rb .TOUT_STAT_ACTIVE k then s.updTout k (fun x => { x with waiting := some b }) else s.toutApply k b

/-- The idle configuration of TOUT_STOP: MODE 0 with the present polarity. -/
def State.toutIdle (s : State) (k : Nat) : List Byte := patch (s.cfg .tout k) 0 [0]

/-- The level of a TOUT pin (R290). -/
def State.toutLevel (s : State) (k : Nat) : Bool := s.rb .TOUT_STAT_ACTIVE k != bit (s.ru .tout k 2 1) 0

/-- End a PTP binding: the port's timestamp queue is emptied (R296). -/
def State.ptpUnbind (s : State) (p : Nat) : State :=
  ((s.wb .PTP_STAT_BOUND p false).w .PTP_STAT_OWNER p 0).updPtp p (fun x => { x with entries := [] })

end Sys2Proof.Machine
end

