-- ==== Sys2Proof/Machine/AcqOps.lean ====
section
/-! DEFINITION. Sys2Proof/Machine/AcqOps.lean: the acquisition engine: triggers and their acceptance (R255 to R257), intervals and
reductions (R258, R259), measurements and entries (R260 to R262). -/

namespace Sys2Proof.Machine

/-! Fields of a record's configuration (Table 9.11). -/

def acqSingle (b : List Byte) : Bool := bit (fld b 0 1) 0
def acqSkind (b : List Byte) : Nat := fld b 1 1
def acqIkind (b : List Byte) : Nat := fld b 2 1
def acqMkind (b : List Byte) : Nat := fld b 3 1
def acqIval (b : List Byte) : Nat := fld b 4 4 + 1
def acqLength (b : List Byte) : Nat := fld b 8 4
def acqPost (b : List Byte) : Nat := fld b 12 4
def acqTsrc (b : List Byte) : Nat := fld b 25 1
def acqTsel (b : List Byte) : Nat := fld b 26 1
def acqTedge (b : List Byte) : Nat := fld b 27 1

def State.acq (s : State) (r : Nat) : AcqRec := Tbl.get {} s.recBufs r
def State.updAcq (s : State) (r : Nat) (f : AcqRec → AcqRec) : State := { s with recBufs := Tbl.modify {} s.recBufs r f }

/-- A record in RUNNING, ARMED or POST (Table 9.1). -/
def State.acqRuns (s : State) (r : Nat) : Bool := s.r .REC_STAT_STATE r == 1 || s.r .REC_STAT_STATE r == 2 || s.r .REC_STAT_STATE r == 3

/-- 1.25 ns in 2^-16 ns. -/
def clockT : Nat := 81920

/-- The integer square root, by bisection over `fuel` bits. -/
def acqIsqrt : Nat → Nat → Nat → Nat
  | 0, acc, _ => acc
  | fuel + 1, acc, n => acqIsqrt fuel (if (acc + 2 ^ fuel) * (acc + 2 ^ fuel) ≤ n then acc + 2 ^ fuel else acc) n

/-- A quotient whose rounding the manual does not state: either neighbour, by a free value (log 12). -/
def State.freeQuot (s : State) (num den : Nat) : Nat × State :=
  if den = 0 ∨ num % den = 0 then (num / den, s) else (num / den + s.fresh.1 % 2, s.fresh.2)

/-! Reduction (R259). -/

/-- Take a present sample into an interval; N, SUM and SUMSQ saturate and set SAT. -/
def Interval.add (x : Interval) (v : Int) (flags : Nat) : Interval :=
  let sum := x.sum + v
  let sq := x.sumSq + v.natAbs * v.natAbs
  let sat := decide (2 ^ 32 - 1 < x.n + 1) || decide (sum < -(2 ^ 63)) || decide (2 ^ 63 - 1 < sum) || decide (2 ^ 64 - 1 < sq)
  { x with
    n := Nat.min (2 ^ 32 - 1) (x.n + 1)
    sum := clampInt (-(2 ^ 63)) (2 ^ 63 - 1) sum
    sumSq := Nat.min (2 ^ 64 - 1) sq
    min := if v < x.min then v else x.min
    max := if x.max < v then v else x.max
    flags := x.flags ||| flags ||| (if sat then 64 else 0)
    samples := x.samples + 1 }

/-- Count a trigger in an interval. -/
def Interval.trigger (x : Interval) (t : Nat) : Interval :=
  { x with firstTrig := some (x.firstTrig.getD t), lastTrig := t, trigs := x.trigs + 1 }

/-- Close the open interval of a record; `waits` says that a sample which may lie in it is still to come. -/
def AcqRec.close (x : AcqRec) (cut : Bool) (waits : Bool := false) : AcqRec :=
  match x.cur with
  | some i => { x with cur := none, closed := x.closed ++ [{ i with cut := i.cut || cut, waits := waits }] }
  | none => x

/-- Change the newest of the intervals that wait and had begun by an instant; `l` lists the newest first. -/
def lateIn (t : Nat) (f : Interval → Interval) : List Interval → List Interval
  | [] => []
  | i :: rest => if i.waits && decide (i.tStart ≤ t) then f i :: rest else i :: lateIn t f rest

/-- Nothing waits any longer. -/
def AcqRec.settled (x : AcqRec) : AcqRec := { x with closed := x.closed.map (fun i => { i with waits := false }) }

/-- A sample with its instant joins the interval in which the instant lies (R258, R259); one before every interval is not
reduced. -/
def AcqRec.reduce (x : AcqRec) (ringRate : Bool) (t : Nat) (v : Int) (flags : Nat) : AcqRec :=
  match x.cur with
  | some i =>
    if ringRate && decide (t < i.tStart) then { x with closed := (lateIn t (fun i => i.add v flags) x.closed.reverse).reverse }
    else { x with cur := some (i.add v flags) }
  | none => { x with closed := (lateIn t (fun i => i.add v flags) x.closed.reverse).reverse }

/-! Triggers (R255 to R257). -/

/-- Words of REC_TLAST. -/
def State.setTlast (s : State) (r t : Nat) : State :=
  let v := leNat (timeBytes t)
  ((s.w .REC_TLAST0_T r v).w .REC_TLAST1_T r (v / 2 ^ 32)).w .REC_TLAST2_T r (v / 2 ^ 64)

/-- A trigger offered to one record: accepted or held off, and then seen by the records with TSRC 5 that name it; `fuel` bounds
the chain, which has no loop (R256). -/
def State.offer : Nat → State → Nat → Nat → State
  | 0, s, _, _ => s
  | fuel + 1, s, r, t =>
    let b := s.cfg .acq r
    let x := s.acq r
    if !s.acqRuns r then s
    else
      let soon := match x.lastAccepted with
        | some l => decide (t < l + fld b 36 4 * clockT)
        | none => false
      if soon || (acqIkind b == 3 && x.cur.isSome) then s.inc .REC_CNT_HOLDOFF r
      else
        let s := (s.inc .REC_CNT2_ACCEPTED r).setTlast r t
        let s := s.updAcq r (fun x =>
          let x := { x with lastAccepted := some t, marks := if s.rb .CYC_MODE_RUN then x.marks ++ [t] else [] }
          if acqIkind b = 2 then { x.close false ((acqSkind b == 0 || acqSkind b == 2) && !x.got) with cur := some ((({ tStart := t } : Interval)).trigger t) }
          else if acqIkind b = 3 then { x with cur := some ((({ tStart := t } : Interval)).trigger t) }
          else { x with cur := x.cur.map (fun (i : Interval) => i.trigger t) })
        (List.range 32).foldl (fun u q =>
          if acqTsrc (u.cfg .acq q) = 5 ∧ acqTsel (u.cfg .acq q) = r ∧ q ≠ r then State.offer fuel u q t else u) s

/-- A trigger from a source of Table 9.3 with an edge bit (0 rising, 1 falling), for every record that uses it. -/
def State.triggerEdge (s : State) (tsrc sel edge t : Nat) : State :=
  (List.range 32).foldl (fun u r =>
    let b := u.cfg .acq r
    if (u.acq r).configured && acqTsrc b == tsrc && acqTsel b == sel && (tsrc != 1 || bit (acqTedge b) edge)
    then State.offer 32 u r t else u) s

/-- A capture on a TIN pin, for the records with TSRC 4. The instant is taken to TB1 by the present distance of the bases. -/
def State.acqTrigger (s : State) (tsrc sel tb time : Nat) : State :=
  s.triggerEdge tsrc sel 0 (((time : Int) + s.now 1 - s.now tb).toNat)

/-- The instant of a level crossing (R255), rounded half up. -/
def crossing (level : Int) (last : Option (Nat × Int)) (t1 : Nat) (v1 : Int) : Nat :=
  match last with
  | none => t1
  | some (t0, v0) =>
    if v1 = v0 then t1
    else
      let num := (level - v0) * ((t1 : Int) - t0)
      let den := v1 - v0
      ((t0 : Int) + (if 0 < den then divRound num den.toNat else divRound (-num) (-den).toNat)).toNat

/-- One sample of the source a record's level condition watches (R255). -/
def State.level (s : State) (q t : Nat) (v : Int) : State :=
  let b := s.cfg .acq q
  let x := s.acq q
  let lv := fldI b 28 4
  let hy : Int := fld b 32 4
  let rise := bit (acqTedge b) 0
  let fall := bit (acqTedge b) 1
  let fireR := rise && x.armRise && decide (lv ≤ v)
  let fireF := fall && x.armFall && decide (v ≤ lv)
  let armR := if fireR then false else x.armRise || (rise && decide (v ≤ lv - hy))
  let armF := if fireF then false else x.armFall || (fall && decide (lv + hy ≤ v))
  let s := s.updAcq q (fun y => { y with armRise := armR, armFall := armF, last := some (t, v) })
  if fireR || fireF then State.offer 32 s q (crossing lv x.last t v) else s

/-- A sample for one record: the level conditions on its source see it first, then it is reduced (R255, R258, R259). -/
def State.acqSample (s : State) (r t : Nat) (v : Int) (flags : Nat) : State :=
  let s := (List.range 32).foldl (fun u q =>
    let b := u.cfg .acq q
    if (u.acq q).configured && ((acqTsrc b == 2 && q == r) || (acqTsrc b == 3 && acqTsel b == r)) then u.level q t v else u) s
  let b := s.cfg .acq r
  let s := s.updAcq r (fun x => { x with got := true })
  if !s.acqRuns r then s
  else s.updAcq r (fun x =>
    let x := (x.reduce (decide (acqSkind b ≠ 3)) t v flags).settled
    match x.cur with
    | some i =>
      if acqSkind b = 3 ∧ (acqIkind b = 1 ∨ acqIkind b = 3) ∧ acqIval b ≤ i.samples then
        let y := x.close false
        if acqIkind b = 1 then { y with cur := some { tStart := t } } else y
      else x
    | none => x)

/-- Keep a sample for every configured record whose source it is, until the next tick. -/
def State.acqDefer (s : State) (isSource : List Byte → Bool) (t : Nat) (value : List Byte → Option (Int × Nat)) : State :=
  (List.range 32).foldl (fun u r =>
    let b := u.cfg .acq r
    if (u.acq r).configured && isSource b then
      match value b with
      | some (v, flags) => u.updAcq r (fun x => { x with ahead := x.ahead ++ [(t, v, flags)] })
      | none => u
    else u) s

/-- Deliver a sample to every configured record whose source it is. -/
def State.acqFeed (s : State) (isSource : List Byte → Bool) (t : Nat) (value : List Byte → Option (Int × Nat)) : State :=
  (List.range 32).foldl (fun u r =>
    let b := u.cfg .acq r
    if (u.acq r).configured && isSource b then
      match value b with
      | some (v, flags) => u.acqSample r t v flags
      | none => u
    else u) s

/-- A value in a format of Table 9.2 at an offset of an area; none where the area is too short. -/
def ringValue (b area : List Byte) : Option Int :=
  let o := fld b 18 2
  let need := match fld b 20 1 with | 2 | 3 => 2 | 4 => 4 | _ => 1
  if area.length < o + need then none
  else some (match fld b 20 1 with
    | 0 => fld area o 1
    | 1 => fldI area o 1
    | 2 => fld area o 2
    | 3 => fldI area o 2
    | 4 => fldI area o 4
    | _ => b2n (bit (fld area o 1) (fld b 21 1)))

/-- The tick's part of the engine: samples that did not come are missing (R252, R274), and the tick-counted intervals end
(R258). `cycle` is the cycle that begins. -/
def State.acqTick (s : State) (cycle : Nat) : State :=
  (List.range 32).foldl (fun u r =>
    if !u.acqRuns r then u
    else
      let b := u.cfg .acq r
      let lost := (acqSkind b == 0 || acqSkind b == 2) && !(u.acq r).got
      let u := if lost then u.inc .REC_CNT_MISS r else u
      let now := u.now 1
      let waits := acqSkind b == 0 || acqSkind b == 2
      u.updAcq r (fun x =>
        let miss (i : Interval) : Interval := if lost then { i with flags := i.flags ||| 16 } else i
        let x := if x.closed.any (fun i => i.waits) then { x with closed := (lateIn now miss x.closed.reverse).reverse }
          else { x with cur := x.cur.map miss }
        let x := { x.settled with got := false, cur := x.cur.map (fun (i : Interval) => { i with ticks := i.ticks + 1 }) }
        match x.cur with
        | none => x
        | some i =>
          if acqIkind b = 0 ∧ cycle % acqIval b = 0 then { x.close (decide (i.ticks < acqIval b)) waits with cur := some { tStart := now } }
          else if acqIkind b = 3 ∧ acqSkind b ≠ 3 ∧ acqIval b ≤ i.ticks then x.close false waits
          else x)) s

/-- What waited for the tick is delivered: samples of downlinks, whose instant is the L of their frame (R252). -/
def State.acqRelease (s : State) : State :=
  (List.range 32).foldl (fun u r =>
    let l := (u.acq r).ahead
    if l = [] then u
    else l.foldl (fun w e => w.acqSample r e.1 e.2.1 e.2.2) (u.updAcq r (fun x => { x with ahead := [] }))) s

/-! Entries (R260 to R262). -/

/-- The measurement of an interval (Table 9.5); `pos` is the position for MKIND 3. -/
def State.acqMeas (s : State) (b : List Byte) (i : Interval) (pos : Int) : List Byte × State :=
  match acqMkind b with
  | 1 =>
    let (per, s) := if i.trigs < 2 then (0, s) else s.freeQuot (i.lastTrig - i.firstTrig.getD 0) (i.trigs - 1)
    (le 8 per ++ le 4 i.trigs ++ le 4 0, s)
  | 2 =>
    if i.n = 0 then (le 16 0, s)
    else
      let a := 4 * (i.n * i.sumSq - i.sum.natAbs * i.sum.natAbs)
      (leInt 4 (i.max - i.min) ++ leInt 4 (divRound i.sum i.n) ++ le 4 ((acqIsqrt 100 0 a + i.n) / (2 * i.n)) ++ le 4 0, s)
  | 3 => (leInt 8 (if i.firstTrig.isSome then pos else 0) ++ le 4 i.width ++ le 4 0, s)
  | _ => (le 16 0, s)

/-- The entry of an interval (Table 9.6). -/
def State.acqEntry (s : State) (b : List Byte) (seq : Nat) (i : Interval) (pos : Int) : List Byte × State :=
  let (m, s) := s.acqMeas b i pos
  let fl := (i.flags / 4) * 4 + b2n (i.firstTrig.isSome) + 2 * b2n i.cut
  (le 4 seq ++ le 2 fl ++ le 1 (acqMkind b) ++ [0] ++ timeBytes i.tStart ++ le 4 i.n ++ leInt 8 i.sum ++ le 8 i.sumSq ++
    leInt 4 i.min ++ leInt 4 i.max ++ m, s)

/-- Write the oldest closed interval as an entry (R261), and move a single-shot record on (R262). -/
def State.acqWrite (s : State) (r : Nat) (pos : Int) : State :=
  let b := s.cfg .acq r
  let x := s.acq r
  match x.closed with
  | [] => s
  | i :: rest =>
    let (bytes, s) := s.acqEntry b x.seq i pos
    let s := s.updAcq r (fun y =>
      { y with closed := rest, seq := (x.seq + 1) % 2 ^ 32, buf := Tbl.set [] y.buf (x.seq % acqLength b) bytes })
    let s := s.w .REC_SEQ_SEQ r x.seq
    let s := if x.seq ≠ 0 ∧ x.seq % acqLength b = 0 then s.inc .REC_CNT2_WRAPS r else s
    if s.r .REC_STAT_STATE r = 2 ∧ i.firstTrig.isSome then
      let s := (s.w .REC_TRIG_SEQ_SEQ r x.seq).wb .REC_STAT_PRE_SHORT r (decide (x.seq + 1 + acqPost b < acqLength b))
      if acqPost b = 0 then (s.w .REC_STAT_STATE r 4).updAcq r (fun y => { y with cur := none, closed := [] })
      else (s.w .REC_STAT_STATE r 3).updAcq r (fun y => { y with postLeft := acqPost b })
    else if s.r .REC_STAT_STATE r = 3 then
      if x.postLeft ≤ 1 then (s.w .REC_STAT_STATE r 4).updAcq r (fun y => { y with cur := none, closed := [], postLeft := 0 })
      else s.updAcq r (fun y => { y with postLeft := x.postLeft - 1 })
    else s

end Sys2Proof.Machine
end

