-- ==== Sys2Proof/Machine/HostPort.lean ====
section
/-! DEFINITION. Sys2Proof/Machine/HostPort.lean: how a command packet is taken, checked, carried out and answered: the order of
R393 over sessions (R379 to R382), sequence numbers (R389), rights and ownership (R377, R383), and the reply's way back
through the port (R396, R399, R400). Every command row is `hostCmd` over its own checks and effect. -/

namespace Sys2Proof

/-- The ports of the two PCI Express endpoints. -/
def Port.endpoint : Port → Option Nat
  | .pcie0 => some 0
  | .pcie1 => some 1
  | _ => none

/-- The Ethernet port a packet came in on. -/
def Port.eth : Port → Option Nat
  | .eth0 => some 0
  | .eth1 => some 1
  | _ => none

/-- The context is one that the port serves (Table 14.1). -/
def Port.serves (port : Port) (c : Nat) : Bool :=
  match port with
  | .pcie0 => c == 0
  | .pcie1 => c == 1
  | .eth0 | .eth1 => (2 ≤ c && c ≤ 5) || c == 7
  | .sspi => c == 6
  | .flue => c == 7

/-- PLEN. -/
def Pkt.len (p : Pkt) : Nat := p.params.length

/-- A parameter field. -/
def Pkt.u (p : Pkt) (off n : Nat) : Nat := Machine.fld p.params off n

/-- A signed parameter field. -/
def Pkt.i (p : Pkt) (off n : Nat) : Int := Machine.fldI p.params off n

end Sys2Proof

namespace Sys2Proof.Machine

/-- The value of a status code (Table 14.5). -/
def Status.code : Status → Nat
  | .ok => 0 | .badParam => 1 | .badState => 2 | .refusedFull => 3 | .authFail => 4 | .unknownOpcode => 5 | .notOwner => 6
  | .noRight => 7 | .badSeq => 8 | .noSession => 9 | .unavailable => 10 | .verifyFail => 11 | .rollback => 12
  | .incompatible => 13 | .internal => 14

/-- What a command needs to own (R383, R406). `owns ok ids`: ownership of every listed resource, `ok` telling that every
identifier is in range. -/
inductive Need where
  | nothing
  | lease
  | owns (ok : Bool) (ids : List Nat)
  /-- CLAIM: no listed resource has another owner (R384). -/
  | claim (ids : List Nat)
  | ptp (port : Nat)
  /-- REG_WRITE: a write that R395 carries out; otherwise NOT_OWNER names the axis, or the lease. -/
  | write (ok : Bool) (axis : Option Nat)
  deriving DecidableEq, Repr

/-- The boot ROM serves in Recovery, and then only HC0 and HC6 (R439). -/
def State.recovering (s : State) : Bool := s.r .PWR_STAT_STATE == 2

/-- The opcodes that the boot ROM accepts (R439). -/
def recoveryOpcode (op : Nat) : Bool := [0x0000, 0x0001, 0x0002, 0x0003, 0x0006, 0x0023, 0x0901].contains op || (decide (0x0801 ≤ op) && decide (op ≤ 0x0808))

/-- Replies that an endpoint's context still owes for commands read from its ring. -/
def State.owed (s : State) (e : Nat) : Nat :=
  let x := s.ctx e
  x.held.length + b2n (x.busy && x.safAt.isNone && !s.fwdOut.any (fun k => k.2.ctx == e))

/-- An endpoint may read its next command: its rings run, the context's queue has room, and the reply ring has room for the reply of
every command read and not yet answered (R396). -/
def State.mayRead (s : State) (e : Nat) : Bool :=
  s.rb .CTX_STAT_RUN e && s.ringUsed e 0 != 0 && decide ((s.ctx e).held.length < 32) &&
    decide (s.ringUsed e 1 + s.owed e < 2 ^ s.r .Q_SIZE_LOG2 (e * 3 + 1))

/-- Take a packet from its port: a PCIe packet is the next entry of a command ring that may be read (R396),
an SSPI packet is the one in the receive buffer (R400); none where there is nothing to take or the HMP does not run. -/
def State.take (s : State) (p : Pkt) : Option State :=
  if !s.hmpRun || (s.recovering && p.port ≠ .pcie0 && p.port ≠ .sspi) then none else
  match p.port with
  | .pcie0 | .pcie1 =>
    let e := p.port.endpoint.getD 0
    if s.mayRead e then
      some (s.w .Q_CONS_IDX (e * 3) (s.r .Q_CONS_IDX (e * 3) + 1)) else none
  | .eth0 | .eth1 =>
    if s.rb .ETH_STAT_LINK (p.port.eth.getD 0) then some (s.inc .ETH_RX_COUNT (p.port.eth.getD 0)) else none
  | .sspi => if s.sspiRx then some { s with sspiRx := false } else none
  | .flue => if s.twinPath 7 then some s else none

/-- The reply packet of a command. -/
def replyPacket (p : Pkt) (c op : Nat) (st : Status) (params : List Byte) : Packet :=
  { port := p.port, ctx := c, kind := 1, opcode := op, seq := p.seq, status := st, session := p.session, params := params }

/-- Send a packet out of a port: into the reply ring with vector 0 (R396, R397), into the SSPI reply buffer (R400), or
onto the wire (R399). -/
def State.emit (s : State) (k : Packet) : State :=
  let s := { s with sent := some k }
  match k.port with
  | .pcie0 | .pcie1 =>
    let e := k.port.endpoint.getD 0
    (s.w .Q_PROD_IDX (e * 3 + 1) (s.r .Q_PROD_IDX (e * 3 + 1) + 1)).msi e 0
  | .sspi => { s with sspiReplies := s.sspiReplies ++ [k] }
  | _ => s

/-- Answer a command and keep the reply in the history of 64 (R389); while a resuming LOGIN
waits, the reply is discarded (R380). -/
def State.answer (s : State) (p : Pkt) (c op : Nat) (st : Status) (params : List Byte) : State :=
  let k := replyPacket p c op st params
  let s := s.updCtx c (fun x => { x with history := (k :: x.history).take 64, lastSeq := p.seq })
  if (s.ctx c).resuming then s else s.emit k

/-- Restart a session's lease (R381). -/
def State.restartLease (s : State) (c : Nat) : State :=
  s.updCtx c (fun x => { x with leaseEnd := s.now0 + msT x.leaseMs })

/-- Acknowledge held events up to and including a SEQ that lies in the held range (R391). -/
def State.ackEvents (s : State) (c ack : Nat) : State :=
  s.updCtx c (fun x => if x.events.any (fun e => e.seq == ack) then { x with events := (x.events.dropWhile (fun e => e.seq != ack)).tail }
    else x)

/-- Accept a command: E advances, the lease restarts, ACK is taken, and the address events go to is the packet's (R389, R381,
R391, R399). -/
def State.accept (s : State) (p : Pkt) (c : Nat) : State :=
  let s := (s.updCtx c (fun x => { x with nextSeq := (x.nextSeq + 1) % 65536, port := p.port, addr := p.addr, udpPort := p.udpPort })).restartLease c
  if p.port.eth.isSome && bit p.flags 0 then s.ackEvents c p.ack else s

/-- NOT_OWNER's parameters (R388). -/
def notOwnerParams (id : Nat) (owner : Option Nat) : List Byte := le 2 id ++ le 1 (owner.getD 0xFF) ++ [0]

/-- The ownership step of R393: the status and parameters of a refusal, or none. -/
def State.needFails (s : State) (c : Nat) : Need → Option (Status × List Byte)
  | .nothing => none
  | .lease => if s.holdsLease c then none else some (.notOwner, notOwnerParams 0xFFFF s.cfgLease)
  | .owns ok ids =>
    if !(ok && ids.all isResource) then some (.badParam, [])
    else match ids.find? (fun id => !s.owns c id) with
      | some id => some (.notOwner, notOwnerParams id (s.owner id))
      | none => none
  | .claim ids =>
    if !ids.all isResource then some (.badParam, [])
    else match ids.find? (fun id => (s.owner id).isSome && !s.owns c id) with
      | some id => some (.notOwner, notOwnerParams id (s.owner id))
      | none => none
  | .ptp port => if port < 2 then none else some (.badParam, [])
  | .write ok axis =>
    if ok then none
    else match axis with
      | some n => some (.notOwner, notOwnerParams n (s.owner n))
      | none => some (.notOwner, notOwnerParams 0xFFFF s.cfgLease)

/-- A standby that is SYNCED or JOINING (R371). -/
def State.standbyBound (s : State) : Bool :=
  s.r .TWIN_STAT_ROLE == 2 && (s.r .TWIN_STAT_SYNC == 1 || s.r .TWIN_STAT_SYNC == 2)

/-- An active unit that forwards configuration to its partner (R371). -/
def State.forwards (s : State) : Bool :=
  s.r .TWIN_STAT_ROLE == 1 && (s.r .TWIN_STAT_SYNC == 1 || s.r .TWIN_STAT_SYNC == 2)

/-- The first check that fails, in the order given. -/
def firstFailure : List (Bool × Status) → Option Status
  | [] => none
  | (ok, st) :: rest => if ok then firstFailure rest else some st

/-- What a command asks before it acts: that PLEN fits, a right, ownership, and its own range and state checks in the order of
R393. `fwd` marks a command that changes class W or N state (R371). -/
structure Req where
  plen : Bool
  /-- The opcode is in the index (R406). -/
  known : Bool := true
  right : Option Nat := none
  need : Need := .nothing
  fwd : Bool := false
  checks : List (Bool × Status) := []
  /-- The answer comes from a node and is sent later. -/
  deferred : Bool := false
  /-- The command is forwarded to SAF (R323). -/
  saf : Bool := false
  /-- What follows the answer (LOGOUT). -/
  after : State → State := id
  /-- What a refusal counts, where a chapter says so; nothing otherwise. -/
  onRefuse : Status → State → State := fun _ s => s

/-- The first failure of R393 from step 3 on. -/
def State.judge (s : State) (op : Nat) (p : Pkt) (c : Nat) (q : Req) : Option (Status × List Byte) :=
  if s.recovering && !recoveryOpcode op then some (.badState, [])
  else if !q.known then some (.unknownOpcode, [])
  else if !(match q.right with | none => true | some b => s.twinPath c || bit (s.ctx c).rights b) then some (.noRight, [])
  else if !q.plen then some (.badParam, [])
  else match s.needFails c q.need with
    | some f => some f
    | none =>
      match firstFailure (q.checks.filter (fun k => k.2 == .badParam)) with
      | some st => some (st, [])
      | none =>
        if q.fwd && s.standbyBound && p.port ≠ .flue then some (.badState, [])
        else (firstFailure q.checks).map (fun st => (st, []))

/-- Carry out an accepted command: the first failure is answered and nothing is done (R393), otherwise its effect is taken
as a whole and answered OK with the parameters it gives (R390). A deferred command is answered later. -/
def State.carryOut (s : State) (op : Nat) (p : Pkt) (c : Nat) (q : Req) (eff : State → State × List Byte) : State :=
  match s.judge op p c q with
  | some (st, params) => (q.onRefuse st s).answer p c op st params
  | none =>
    let (t, params) := eff s
    if q.deferred then t.updCtx c (fun x => { x with busy := true }) else q.after (t.answer p c op .ok params)

/-- Begin an accepted command. The active unit of a twin pair forwards a change of class W or N state and waits for the
partner's acknowledgement (R371); a command for SAF waits while SAF is starting (R323); every other command is carried out. -/
def State.begin (s : State) (op : Nat) (p : Pkt) (c : Nat) (q : Req) (eff : State → State × List Byte) : State :=
  if q.fwd && s.forwards then
    match s.judge op p c q with
    | some (st, params) => (q.onRefuse st s).answer p c op st params
    | none =>
      ({ s with fwdOut := s.fwdOut ++ [(op, p)] }).updCtx c (fun x => { x with busy := true, held := (op, p) :: x.held })
  else if q.saf && s.r .SAF_STAT_STATE = 0 then
    s.updCtx c (fun x => { x with busy := true, safAt := some s.now0, held := (op, p) :: x.held })
  else s.carryOut op p c q eff

/-- The SEQ distance of R389. -/
def State.seqBehind (s : State) (c seq : Nat) : Nat := ((s.ctx c).nextSeq + 65536 - seq % 65536) % 65536

/-- Send a duplicate's stored reply again with DUP set (R389). -/
def State.resendReply (s : State) (c seq : Nat) : State :=
  let s := (s.inc .HOST_CNT2_DUP c).restartLease c
  match (s.ctx c).history.find? (fun k => k.seq == seq) with
  | some k => s.emit { k with flags := 1 }
  | none => s

/-- A packet at the SEQ the context expects: it waits behind a command that holds the context, up to 32 deep (R389, R390), or
begins. -/
def State.expected (s : State) (op : Nat) (p : Pkt) (c : Nat) (q : Req) (eff : State → State × List Byte) : State :=
  if (s.ctx c).busy then
    if (s.ctx c).held.length < 32 then (s.accept p c).updCtx c (fun x => { x with held := x.held ++ [(op, p)] })
    else (s.restartLease c).emit (replyPacket p c op .refusedFull [])
  else (s.accept p c).begin op p c q eff

/-- A command packet of a session, from its port to its answer (R389, R393). SEQ_GET is accepted at any SEQ. A packet whose
turn in its context has come, or whose forwarding was acknowledged, was accepted before. -/
def hostCmd (op : Nat) (p : Pkt) (s : State) (q : Req) (eff : State → State × List Byte) : State :=
  if s.replay = 2 then s.carryOut op p p.ctx q eff
  else if s.replay = 1 then s.begin op p p.ctx q eff
  else
    match s.take p with
    | none => s
    | some s =>
      let c := p.ctx
      if p.port = .flue then s.carryOut op p 7 q eff
      else if !(p.port.serves c && !s.twinPath c && (s.ctx c).isOpen && (s.ctx c).session == p.session) then
        s.emit (replyPacket p c op .noSession [])
      else if op = 0x0004 then
        let s := s.restartLease c
        match s.judge op p c q with
        | some (st, params) => s.emit (replyPacket p c op st params)
        | none => s.emit (replyPacket p c op .ok (eff s).2)
      else if s.seqBehind c p.seq = 0 then s.expected op p c q eff
      else if s.seqBehind c p.seq ≤ 64 then s.resendReply c p.seq
      else (s.inc .HOST_CNT_BAD_SEQ c).emit (replyPacket p c op .badSeq (le 2 (s.ctx c).nextSeq ++ [0, 0]))

end Sys2Proof.Machine
end

