-- ==== Sys2Proof/Machine/RingOps.lean ====
section
/-! DEFINITION. Sys2Proof/Machine/RingOps.lean: the layout of schedule modes and the plans over it (R20 to R24, R41, R43, R45, R472),
slots and their cutoffs (R21, R144), and the classes of axes that a slot serves (R49). -/

namespace Sys2Proof.Machine

def State.sched (s : State) (m : Nat) : Sched := Tbl.get {} s.scheds m
def State.updSched (s : State) (m : Nat) (f : Sched → Sched) : State := { s with scheds := Tbl.modify {} s.scheds m f }
def State.hnode (s : State) (a : Nat) : HNode := Tbl.get {} s.hnodes a
def State.updHnode (s : State) (a : Nat) (f : HNode → HNode) : State := { s with hnodes := Tbl.modify {} s.hnodes a f }
def State.updHead (s : State) (f : Head → Head) : State := { s with head := f s.head }

/-- The active schedule mode. -/
def State.mode (s : State) : Nat := s.r .CYC_MODE_SM

/-- The ring is cyclic. -/
def State.cyclic (s : State) : Bool := s.rb .CYC_MODE_RUN

/-- The cycle in progress. -/
def State.cycle (s : State) : Nat := s.r .CYC_NOW_CYCLE

/-- A cycle number plus some cycles (R14). -/
def cycAdd (c n : Nat) : Nat := (c + n) % Config.cycleModulus

/-- How many cycles one number lies ahead of another (R14). -/
def cycDiff (a b : Nat) : Nat := (a + Config.cycleModulus - b % Config.cycleModulus) % Config.cycleModulus

/-- What was accepted of a segment in a frame: ULF and data. -/
def SegIn.of (x : SegIn) (frame : Nat) : Option (Nat × List Byte) :=
  if x.stamp = frame + 1 then some (x.ulf, x.data) else if x.prevStamp = frame + 1 then some (x.prevUlf, x.prevData) else none

/-- The input frame of the cycle in progress (R15, R42). -/
def State.inputFrame (s : State) : Nat := if s.rb .RING_STAT_LAG then cycAdd s.cycle (Config.cycleModulus - 1) else s.cycle

/-! Segments (Table 2.7). -/

/-- The length of a segment from its type and parameters (Tables 2.7, 3.5, 3.10). -/
def segLen (ty pa pb pc : Nat) : Nat :=
  match ty with
  | 1 => 8 + 60 * pa
  | 2 => 8 + 16 * pa + 24 * pb
  | 3 => 8 + 4 * pa + 4 * pb + 24 * pc
  | 4 => 28
  | _ => 16 + 8 * pa

/-- The length of a segment's downlink area; the uplink area follows it. -/
def Seg.down (g : Seg) : Nat :=
  match g.ty with
  | 1 => 24 * g.pa
  | 2 => 8 * g.pa + 12 * g.pb
  | 3 => 4 * g.pa + 12 * g.pc
  | 4 => 8
  | _ => 4 + 4 * g.pa

/-- The length of a segment's uplink area. -/
def Seg.up (g : Seg) : Nat :=
  match g.ty with
  | 1 => 36 * g.pa
  | 2 => 8 * g.pa + 12 * g.pb
  | 3 => 4 * g.pb + 12 * g.pc
  | 4 => 12
  | _ => 4 + 4 * g.pa

/-- Place segments one after the other, each at the next multiple of 4. -/
def place : Nat → List Seg → List Seg
  | _, [] => []
  | off, g :: gs =>
    let len := segLen g.ty g.pa g.pb g.pc
    { g with off := off, len := len } :: place ((off + len + 3) / 4 * 4) gs

/-- The bytes of a frame: header, segment area and trailer (R44). -/
def frameLen (segs : List Seg) : Nat := 40 + (segs.map (fun g => g.off + g.len)).foldl max 0

/-- An entry of SCHED_SEGMENTS is inside Table 2.7 and the rules of Table 3.10. -/
def segOk (g : Seg) : Bool :=
  match g.ty with
  | 1 => decide (1 ≤ g.addr) && decide (g.addr ≤ 254) && decide (1 ≤ g.pa) && decide (g.pa ≤ 4) && g.pb == 0 && g.pc == 0
  | 2 => decide (1 ≤ g.addr) && decide (g.addr ≤ 254) && decide (1 ≤ g.pa) && decide (g.pa ≤ 32) && decide (g.pb ≤ 1) && decide (1 ≤ g.pc) && decide (g.pc ≤ 16)
  | 3 => decide (1 ≤ g.addr) && decide (g.addr ≤ 254) && decide (g.pa ≤ 64) && decide (g.pb ≤ 64) && decide (g.pc ≤ 4)
  | 4 => decide (1 ≤ g.addr) && decide (g.addr ≤ 254) && g.pa == 0 && g.pb == 0 && g.pc == 0
  | 5 => g.addr == 0 && decide (4 ≤ g.pa) && decide (g.pa ≤ 64) && g.pb == 0 && g.pc == 0
  | _ => false

/-- No node holds two segments of one type (the text before R45). -/
def segsDistinct : List Seg → Bool
  | [] => true
  | g :: gs => (g.ty == 5 || gs.all (fun h => !(h.addr == g.addr && h.ty == g.ty))) && segsDistinct gs

/-- The segment of a node and type in a mode. -/
def Sched.seg (m : Sched) (addr ty : Nat) : Option Seg := m.segs.find? (fun g => g.addr == addr && g.ty == ty)

/-- The CRC-32C of the ring (R51): 0x1EDC6F41, reflected. -/
def crc32c (b : List Byte) : Nat := crcReflected 0x82F63B78 b

/-! Times on the ring. -/

/-- The time of a byte in 0.01 ns (Table 2.1). -/
def State.byteTime (s : State) : Nat := if s.r .RK_CFG_GEN = 1 then 32 else 80

/-- Departure of a segment in 0.01 ns after the tick (R43). -/
def State.departure (s : State) (g : Seg) : Nat := g.off * s.byteTime

/-- The slot cutoff in 1.25 ns clocks from the tick of its frame, rounded down (R21, R43). -/
def State.cutoffClk (s : State) (g : Seg) : Int := ((s.departure g : Int) - 20000) / 125

/-- The cutoff of a task in clocks from the tick of its own cycle: its slot's cutoff in the next frame, or 200 ns before that
tick without a slot (R144). -/
def State.taskCut (s : State) (m : Sched) (seg : Option Seg) : Int :=
  (m.period * 8 : Int) + match seg with
    | some g => s.cutoffClk g
    | none => -160

/-! Plans (R23, R41, R472), in 10 ns. -/

/-- FWD of an identity's claim, in 1/16 ns (Table 3.3). -/
def claimFwd (claim : List Byte) : Nat := fld claim 15 2

/-- Measured propagation in 0.01 ns: L less the declared forwarding delays; zero until L has been measured (R472). -/
def State.propagation (s : State) : Nat :=
  if s.head.measured then
    (s.r .RK_LOOP_L - (s.head.known.map (fun k => claimFwd k.claim * 4096)).sum) * 100 / 65536
  else 0

/-- The nodes a frame crosses, for a plan of a mode (R472). -/
def State.planNodes (s : State) (m : Sched) : Nat :=
  if s.head.measured then s.head.known.length else ((m.segs.filter (fun g => g.ty != 5)).map (·.addr)).eraseDups.length

/-- The forwarding delay and the head port latency of R23 with the guard time of R444, in 0.01 ns. -/
def State.fwdDelay (s : State) : Nat := if s.r .RK_CFG_GEN = 1 then 4000 else 10000
def State.portLatency (s : State) : Nat := s.fwdDelay + s.r .AG_STAT_GUARD * 1000

/-- First uplink arrival in 10 ns (R23). -/
def State.firstUplink (s : State) (m : Sched) : Nat :=
  divCeil (s.propagation + s.planNodes m * s.fwdDelay + s.portLatency) 1000

/-- Frame time in 10 ns (R23). -/
def State.frameTime (s : State) (m : Sched) : Nat := divCeil (frameLen m.segs * s.byteTime) 1000

/-- Inputs complete in 10 ns (R23). -/
def State.inputsComplete (s : State) (m : Sched) : Nat := s.firstUplink m + s.frameTime m

/-- The break arrival B in 10 ns (R41). In a twin line TWIN_LAT is added (Table 13.3). -/
def State.breakArrival (s : State) (m : Sched) : Nat :=
  divCeil (2 * (s.propagation + s.planNodes m * s.fwdDelay) + s.portLatency + frameLen m.segs * s.byteTime) 1000 +
    (if s.r .RING_STAT_TOPO = 2 then s.r .TWIN_LAT_LAT else 0)

/-- The compute window in 10 ns (R23). -/
def computeWindow (period inDone : Nat) : Int := (period : Int) - inDone - Config.builderLead

/-! Descriptors (Table 5.2). -/

def descEntry (b : List Byte) : Nat := fld b 0 2 % 16384
def descPrio (b : List Byte) : Nat := fld b 2 1 % 8
def descEnabled (b : List Byte) : Bool := bit (fld b 2 1) 3
def descOnFail (b : List Byte) : Bool := bit (fld b 2 1) 4
def descDelayed (b : List Byte) : Bool := bit (fld b 2 1) 5
def descCore (b : List Byte) : Nat := fld b 3 1 % 16
def descCtr (b : List Byte) : Nat := fld b 4 2
def descFlow (b : List Byte) : Nat := fld b 6 2
def descSucc0 (b : List Byte) : Nat := fld b 8 2
def descSucc1 (b : List Byte) : Nat := fld b 10 2
def descAddr (b : List Byte) : Nat := fld b 12 1
def descType (b : List Byte) : Nat := fld b 13 1
def descBlk (b : List Byte) : Nat := fld b 14 1
def descNblk (b : List Byte) : Nat := fld b 15 1
def descSmask (b : List Byte) : Nat := fld b 16 1
def descDiv (b : List Byte) : Nat := fld b 17 1 % 16 + 1
def descPhase (b : List Byte) : Nat := fld b 17 1 / 16
def descWcet (b : List Byte) : Nat := fld b 18 2
def descArg (b : List Byte) : Nat := fld b 20 4
def descSvbase (b : List Byte) : Nat := fld b 24 2
def descDue (b : List Byte) : Nat := fld b 28 4

/-- The descriptor has a slot. -/
def descSlot (b : List Byte) : Bool := descAddr b != 0 && descNblk b != 0

def State.desc (s : State) (g i : Nat) : List Byte := Tbl.get [] s.descs (g * 4096 + i)

/-- A descriptor takes part in a cycle of a mode (R129). -/
def partakes (b : List Byte) (mode cycle : Nat) : Bool :=
  descEnabled b && bit (descSmask b) mode && cycle % descDiv b == descPhase b

/-- A descriptor takes part in some cycle of a mode. -/
def partakesMode (b : List Byte) (mode : Nat) : Bool := descEnabled b && bit (descSmask b) mode

/-- The segment of a task's slot in a mode, if the mode has it with all its blocks (R144). -/
def Sched.slot (m : Sched) (b : List Byte) : Option Seg :=
  if descSlot b then
    (m.seg (descAddr b) (descType b)).filter (fun g =>
      decide (descBlk b + descNblk b ≤ (if g.ty = 3 then 1 else g.pa)))
  else none

/-- The descriptors of a die, with their indices. -/
def State.dieDescs (s : State) (g : Nat) : List (Nat × List Byte) :=
  (s.descs.filter (fun e => e.1 / 4096 == g)).map (fun e => (e.1 % 4096, e.2))

/-! The axes of a slot. -/

/-- The axes bound to a servo block. -/
def State.servoAxis (s : State) (addr blk : Nat) : Option Nat :=
  (List.range 128).find? (fun a => s.rb .SV_STAT_BOUND a && s.r .SV_BIND_ADDR a == addr && s.r .SV_BIND_BLK a == blk)

/-- The axis bound to a stepper node's local axis (log 14 for the record of a stepper binding). -/
def State.stepAxis (s : State) (addr loc : Nat) : Option Nat :=
  ((List.range 512).find? (fun k =>
    s.ru .stepBind k 0 1 == addr && addr != 0 && s.ru .stepBind k 2 2 == loc)).map (· + 128)

/-- The axes a task serves in the frame it commits into: a servo block's axis, or a stepper block's axis of that frame's round
(R49, the text after R129). -/
def State.slotAxes (s : State) (m : Sched) (b : List Byte) (frame : Nat) : List Nat :=
  match m.slot b with
  | none => []
  | some g =>
    (List.range (descNblk b)).filterMap (fun i =>
      let blk := descBlk b + i
      if g.ty = 1 then s.servoAxis g.addr blk
      else if g.ty = 2 then s.stepAxis g.addr (frame % g.pc * g.pa + blk)
      else none)

/-- The key of a block in the command buffer and history. -/
def blockKey (addr ty blk : Nat) : Nat := (addr * 8 + ty) * 64 + blk

/-! The input area of a task (Table 5.3): entries of ADDR, TYPE, ULF, status and an uplink, each padded to 8 bytes. -/

/-- The bytes of a segment's uplink area without its safe containers. -/
def Seg.inputLen (g : Seg) : Nat :=
  match g.ty with
  | 1 => 24 * g.pa
  | 2 => 8 * g.pa
  | 3 => 4 * g.pb
  | 4 => 12
  | _ => 0

/-- A segment's uplink area without its safe containers (R47, Table 5.3). -/
def Seg.inputBytes (g : Seg) (up : List Byte) : List Byte :=
  if g.ty = 1 then (List.range g.pa).flatMap (fun k => slice up (36 * k) 24) else slice up 0 g.inputLen

/-- The length of an entry: a head of 4 bytes and the uplink, padded to a multiple of 8. -/
def Seg.entryLen (g : Seg) : Nat := (4 + g.inputLen + 7) / 8 * 8

/-- An entry of the input area. -/
def inputOf (g : Seg) (ulf : Nat) (ok : Bool) (up : List Byte) : List Byte :=
  slice (le 1 g.addr ++ le 1 g.ty ++ le 1 ulf ++ le 1 (b2n ok) ++ g.inputBytes up) 0 g.entryLen

/-- The entry of a node and type: ULF, status and uplink. -/
def inputEntry (m : Sched) (addr ty : Nat) : Nat → List Byte → Option (Nat × Nat × List Byte)
  | 0, _ => none
  | fuel + 1, b =>
    match b with
    | a :: t :: u :: st :: rest =>
      match m.seg a.toNat t.toNat with
      | none => none
      | some g =>
        if a.toNat = addr ∧ t.toNat = ty then some (u.toNat, st.toNat, slice rest 0 g.inputLen)
        else inputEntry m addr ty fuel (rest.drop (g.entryLen - 4))
    | _ => none

end Sys2Proof.Machine
end

