-- ==== Sys2Proof/Machine/Time.lean ====
section
/-! DEFINITION. Sys2Proof/Machine/Time.lean: the time family: captures and pulses on the timed pins, PTP frames, the latch of
TB_NOW, and the opcodes of Table 10.9. -/

namespace Sys2Proof.Machine

/-! Events of the pins and ports. -/

/-- The offset a pulse-per-second edge feeds (R289): the edge less PPS_OFS, less the nearest whole second. -/
def ppsOffset (time : Nat) (ppsOfs : Int) : Int := wrapHalf ((time : Int) - ppsOfs) (1000000000 * 65536)

/-- TIN_CAPTURE (R287 to R289): a selected edge is stamped, queued or counted lost, fed to the Bellows and given to the
acquisition records. -/
def execTinCapture (pin : Fin 8) (falling : Bool) (s : State) : Host.Outcome State Fault Refusal :=
  let k := pin.val
  let b := s.cfg .tin k
  if !bit (fld b 1 1) (b2n falling) then .next s
  else
    let t := fld b 0 1
    let time := s.now t - s.fuse .tinDelay k
    let x := s.tin k
    let c : Capture := { time := time, falling := falling, stepped := x.stepped, seq := x.seq }
    let s := s.inc .TIN_CNT_CAPTURES k
    let s := s.updTin k (fun y => { y with seq := (y.seq + 1) % 65536, stepped := false })
    let s := if x.queue.length < 8 then s.updTin k (fun y => { y with queue := y.queue ++ [c] }) else s.inc .TIN_CNT_LOST k
    let s := s.acqTrigger 4 k t time
    .next (if bit (fld b 2 1) 0 && s.tbBellows t then (s.bellowsFeed t (ppsOffset time (fldI b 4 8)) time).1 else s)

/-- BELLOWS_HOLDOVER (R283): HOLD_TO without an accepted feed or a step. -/
def execBellowsHoldover (tb : Fin 4) (s : State) : Host.Outcome State Fault Refusal :=
  let t := tb.val
  if s.tbBellows t && !s.rb .TB_STAT_HOLDOVER t &&
      decide (msT (s.ru .bellows t 2 2) * 2 ^ 32 ≤ (s.now0 - (s.tb t).lastActive) * 2 ^ 32) then
    let s := s.updTb t (fun b => { b with rho := b.phi, firstFeed := true })
    let s := (s.applyRho t).wb .TB_STAT_HOLDOVER t true
    .next (s.raise .tbHoldover 0xFF 12 t (le 4 (s.r .TB_RHO_RHO t)))
  else .next s

/-- A pulse goes active for WIDTH clocks and counts. -/
def State.pulse (s : State) (k : Nat) : State :=
  let s := (s.inc .TOUT_CNT_PULSES k).wb .TOUT_STAT_ACTIVE k true
  s.updTout k (fun x => { x with endClk := s.clk + s.ru .tout k 24 4 })

/-- TOUT_PULSE_START (R290 to R292): the base has reached the next instant of a timed train, or a tick of MODE 2 has come;
where neither holds nothing happens. -/
def execToutPulseStart (pin : Fin 8) (s : State) : Host.Outcome State Fault Refusal :=
  let k := pin.val
  let b := s.cfg .tout k
  let x := s.tout k
  if s.r .TOUT_STAT_MODE k = 1 then
    if s.toutLive k && !s.rb .TOUT_STAT_ACTIVE k && decide (toutInstant b x.next ≤ s.now (fld b 1 1)) then
      let s := s.pulse k
      let s := s.updTout k (fun y => { y with next := y.next + 1, given := y.given + 1, passed := false })
      .next (if x.passed then s.wb .TOUT_STAT_LATE k true else s)
    else .next s
  else if s.r .TOUT_STAT_MODE k = 2 then
    if s.rb .CYC_MODE_RUN && s.r .CYC_NOW_CYCLE % fld b 32 2 == 0 then .next (s.pulse k) else .next s
  else .next s

/-- TOUT_PULSE_END (R290, R293): the pulse ends after WIDTH clocks; a waiting configuration takes effect, and the pin returns
to MODE 0 when the count is reached. -/
def execToutPulseEnd (pin : Fin 8) (s : State) : Host.Outcome State Fault Refusal :=
  let k := pin.val
  if s.rb .TOUT_STAT_ACTIVE k && decide ((s.tout k).endClk ≤ s.clk) then
    let s := s.wb .TOUT_STAT_ACTIVE k false
    match (s.tout k).waiting with
    | some b => .next (s.toutApply k b)
    | none => .next (if s.r .TOUT_STAT_MODE k = 1 ∧ s.toutLive k = false then s.toutApply k (s.toutIdle k) else s)
  else .next s

/-! PTP frames (R294 to R298). The layout of the headers is that of the standards R294 names (log 11). -/

/-- A byte of a frame. -/
def octet (f : List Byte) (i : Nat) : Nat := fld f i 1

/-- A 16-bit field in network order. -/
def be16 (f : List Byte) (i : Nat) : Nat := beNat (slice f i 2)

/-- Where the payload of the frame begins, after at most one 802.1Q tag, and its Ethertype. -/
def etherType (f : List Byte) : Nat × Nat := if be16 f 12 = 0x8100 then (be16 f 16, 18) else (be16 f 12, 14)

/-- The PTP message of a frame: its offset, where the frame is layer 2 PTP or an unfragmented UDP datagram to 319 or 320. -/
def ptpOffset (f : List Byte) : Option Nat :=
  let (ty, o) := etherType f
  if ty = 0x88F7 then some o
  else if ty = 0x0800 then
    let h := octet f o % 16 * 4
    if octet f (o + 9) = 17 ∧ be16 f (o + 6) % 0x4000 = 0 ∧ (be16 f (o + h + 2) = 319 ∨ be16 f (o + h + 2) = 320) then some (o + h + 8)
    else none
  else if ty = 0x86DD then
    if octet f (o + 6) = 17 ∧ (be16 f (o + 42) = 319 ∨ be16 f (o + 42) = 320) then some (o + 48) else none
  else none

/-- The PTP multicast MAC addresses of Annexes C, D and E, the Ethernet ones and those that map the IPv4 and IPv6 groups. -/
def ptpMulticast (mac : Nat) : Bool :=
  mac == 0x011B19000000 || mac == 0x0180C200000E || mac == 0x01005E000181 || mac == 0x01005E000182 || mac == 0x01005E000183 ||
  mac == 0x01005E000184 || mac == 0x01005E00006B || mac == 0x333300000181 || mac == 0x33330000006B

/-- A port's MAC address; ETH1's is one above (R398). -/
def State.mac (s : State) (p : Nat) : Nat := s.fuse .mac0 + p

/-- The base a port stamps in. -/
def State.ptpBase (s : State) (p : Nat) : Nat := if s.rb .PTP_STAT_TB3 p then 3 else 2

/-- A time plus a signed correction, never below zero. -/
def addTime (v : Nat) (d : Int) : Nat := ((v : Int) + d).toNat

/-- PTP_FRAME_RX (R294 to R296): stamped at ingress and delivered to the port's owner; other frames are dropped and counted. -/
def execPtpFrameRx (port : Fin 2) (frame : List Byte) (s : State) : Host.Outcome State Fault Refusal :=
  let p := port.val
  let dst := beNat (slice frame 0 6)
  if s.rb .PTP_STAT_ENABLE p && s.rb .PTP_STAT_BOUND p && (ptpOffset frame).isSome && (dst == s.mac p || ptpMulticast dst) then
    let c := s.r .PTP_STAT_OWNER p
    let ts := addTime (s.now (s.ptpBase p) - s.fuse .ptpRxLatency p) (s.rI .PTP_RXADJ_ADJ p)
    let full := decide (256 ≤ (s.ctx c).events.length)
    let body := le 1 p ++ le 1 (b2n (s.rb .PTP_STAT_TB3 p) + 2 * b2n (s.ptp p).stepped) ++ le 2 frame.length ++ timeBytes ts ++ frame
    let s := s.updPtp p (fun x => { x with stepped := false })
    let s := s.raiseTo c .ptpRx 0 0 body
    .next (if full then s.inc .PTP_LOSS_RX_LOST p else s.inc .PTP_RX_COUNT p)
  else .next (s.inc .ETH_DROP_COUNT p)

/-- Complete the oldest reserved entry (R298). -/
def completeEntry (failed : Bool) (ts : Nat) : List TxEntry → List TxEntry
  | [] => []
  | e :: es => if e.done then e :: completeEntry failed ts es
    else { e with done := true, failed := failed, ts := if failed then 0 else ts } :: es

/-- The frame in front leaves the port or fails to; the entry it reserved completes and PTP_TXTS is raised. -/
def State.ptpComplete (s : State) (p : Nat) (failed : Bool) (ts : Nat) : State :=
  match (s.ptp p).txFrames with
  | [] => s
  | (_, reserved) :: rest =>
    let s := s.updPtp p (fun x => { x with txFrames := rest })
    if reserved && (s.ptp p).entries.any (fun e => !e.done) then
      let s := (s.updPtp p (fun x => { x with entries := completeEntry failed ts x.entries })).inc .PTP_TX_COUNT p
      s.raiseTo (s.r .PTP_STAT_OWNER p) .ptpTxts 0 0 []
    else s

/-- PTP_EGRESS (R298): the frame in front leaves the port; a reserved entry completes with its egress timestamp. -/
def execPtpEgress (port : Fin 2) (s : State) : Host.Outcome State Fault Refusal :=
  let p := port.val
  .next (s.ptpComplete p false (addTime (s.now (s.ptpBase p) + s.fuse .ptpTxLatency p) (s.rI .PTP_TXADJ_ADJ p)))

/-- PTP_TX_TIMEOUT (R298): a frame that could not be sent within 1 ms completes its entry with FAILED and TS zero. -/
def execPtpTxTimeout (port : Fin 2) (s : State) : Host.Outcome State Fault Refusal :=
  let p := port.val
  match (s.ptp p).entries.find? (fun e => !e.done) with
  | some e => .next (if e.since + msT 1 ≤ s.now0 then s.ptpComplete p true 0 else s)
  | none => .next s

/-- A read of word `w` of TB_NOW (R300): TB_NOW0 returns a latched value not yet returned, or else the present one and latches all
four bases; TB_NOW1 and TB_NOW2 return the latched value. Each context has its own latch. -/
def State.nowRead (s : State) (c t w : Nat) : Nat × State :=
  let key (t : Nat) := c * 4 + t
  let l := Tbl.get {} s.nowLatch (key t)
  let out (v : Nat) := leNat (timeBytes v) / 2 ^ (32 * w) % 2 ^ 32
  if w = 0 then
    if l.valid && !l.returned then (out l.value, { s with nowLatch := Tbl.set {} s.nowLatch (key t) { l with returned := true } })
    else
      (out (s.now t), { s with
        nowLatch := (List.range 4).foldl (fun m k => Tbl.set {} m (key k) { valid := true, value := s.now k, returned := k == t }) s.nowLatch })
  else (out l.value, s)

/-- A register read has returned a word. -/
def State.readBack (s : State) (v : Nat) : State := { s with readOut := BitVec.ofNat 32 v }

/-- TB_NOW_READ (R300). -/
def execTbNowRead (ctx : Fin 8) (tb : Fin 4) (word : Fin 3) (s : State) : Host.Outcome State Fault Refusal :=
  let (v, s) := s.nowRead ctx.val tb.val word.val
  .next (s.readBack v)

/-! The opcodes of Table 10.9. -/

/-- TB_STAT as a word. -/
def State.tbStat (s : State) (t : Nat) : Nat :=
  s.r .TB_STAT_MODE t + 4 * s.r .TB_STAT_HOLDOVER t + 8 * s.r .TB_STAT_STEPPED t

/-- TIME_GET: the four bases and TB_STAT, read at one clock. -/
def execTimeGet (p : Pkt) (s : State) : Host.Outcome State Fault Refusal :=
  .next (hostCmd 0x0501 p s { plen := p.len == 0 } fun s =>
    (s, (List.range 4).flatMap (fun t => timeBytes (s.now t) ++ le 4 (s.tbStat t))))

/-- What a write of a base needs: the lease for TB1, the base for TB2 and TB3 (R383). -/
def baseNeed (t : Nat) : Need := if t = 1 then .lease else .owns (t = 2 || t = 3) [0x51E + t]

/-- TIME_SET (R280, R285). -/
def execTimeSet (p : Pkt) (s : State) : Host.Outcome State Fault Refusal :=
  let t := p.u 0 1
  let v := timeOf (slice p.params 4 12)
  .next (hostCmd 0x0502 p s
    { plen := p.len == 16, need := baseNeed t, fwd := true, checks := [(zeroBytes p.params 1 3 && v.isSome, .badParam), (!s.tbRing t, .badState)] }
    fun s => (s.stepBase t (v.getD 0 * 2 ^ 32) 0, []))

/-- TIME_STEP (R280, R285); a DELTA of 0 changes nothing. -/
def execTimeStep (p : Pkt) (s : State) : Host.Outcome State Fault Refusal :=
  let t := p.u 0 1
  let d := p.i 4 8
  let new : Int := (s.tb t).value + d * (2 ^ 32 : Nat)
  .next (hostCmd 0x0503 p s
    { plen := p.len == 12, need := baseNeed t, fwd := true,
      checks := [(zeroBytes p.params 1 3 && decide (0 ≤ new) && decide (new < (timeTop * 2 ^ 32 : Nat)), .badParam), (!s.tbRing t, .badState)] }
    fun s => (if d = 0 then s else s.stepBase t ((s.tb t).value + d * (2 ^ 32 : Nat)).toNat 1, []))

/-- An increment within 1,000 ppm of nominal (R278). -/
def incOk (inc : Nat) : Bool :=
  decide (((inc : Int) - Config.nominalInc).natAbs * 1000 ≤ Config.nominalInc)

/-- TIME_INC_SET (R278, R280, R281). -/
def execTimeIncSet (p : Pkt) (s : State) : Host.Outcome State Fault Refusal :=
  let t := p.u 0 1
  let v := p.u 4 8
  .next (hostCmd 0x0504 p s
    { plen := p.len == 12, need := baseNeed t, fwd := true,
      checks := [(zeroBytes p.params 1 3 && incOk v, .badParam), (!s.tbRing t && !s.tbBellows t, .badState)] }
    fun s => (s.updTb t (fun b => { b with inc := v }), []))

/-- BELLOWS_CONFIG_SET (R281, R284). -/
def execBellowsConfigSet (p : Pkt) (s : State) : Host.Outcome State Fault Refusal :=
  let t := p.u 0 1
  let b := keepZero (s.cfg .bellows t) (slice p.params 4 20) 2 2
  let r := fld b 12 4
  .next (hostCmd 0x0505 p s
    { plen := p.len == 24, need := .owns (t = 2 || t = 3) [0x51E + t], fwd := true,
      checks := [(decide (p.u 1 1 < 2) && zeroBytes p.params 2 2 && decide (fld b 0 1 < 4) && zeroBytes b 1 1 &&
        decide (1 ≤ r) && decide (r ≤ 1000000), .badParam)] }
    fun s =>
      let s := (s.recSet .bellows t b).recFlash .bellows t b (bit (p.u 1 1) 0)
      (if bit (fld b 0 1) 0 then
        if s.tbBellows t then s
        else (s.w .TB_STAT_MODE t 1).updTb t
          (fun x => { x with incBase := x.inc, phi := 0, rho := 0, firstFeed := true, lastActive := s.now0 })
      else (s.w .TB_STAT_MODE t 0).wb .TB_STAT_HOLDOVER t false, []))

/-- BELLOWS_FEED (R282). -/
def execBellowsFeed (p : Pkt) (s : State) : Host.Outcome State Fault Refusal :=
  let t := p.u 0 1
  let m := timeOf (slice p.params 12 12)
  .next (hostCmd 0x0506 p s
    { plen := p.len == 24, need := .owns (t = 2 || t = 3) [0x51E + t], fwd := true,
      checks := [(zeroBytes p.params 1 3 && m.isSome, .badParam), (s.tbBellows t, .badState)] }
    fun s => let (s, r) := s.bellowsFeed t (p.i 4 8) (m.getD 0); (s, le 1 r))

/-- TIN_CONFIG_SET (R287 to R289): empties the queue and restarts SEQ. -/
def execTinConfigSet (p : Pkt) (s : State) : Host.Outcome State Fault Refusal :=
  let k := p.u 0 1
  let t := p.u 1 1
  let fl := p.u 3 1
  let b := le 1 t ++ le 1 (p.u 2 1) ++ le 1 (fl % 2) ++ [0] ++ slice p.params 4 8
  .next (hostCmd 0x0510 p s
    { plen := p.len == 12, need := .owns (decide (k < 8)) [0x500 + k], fwd := true,
      checks := [(decide (t < 4) && decide (p.u 2 1 < 4) && decide (fl < 4) && (!bit fl 0 || t == 2 || t == 3), .badParam)] }
    fun s =>
      let s := (s.recSet .tin k b).recFlash .tin k b (bit fl 1)
      let s := s.updTin k (fun _ => {})
      (((s.w .TIN_STAT_TB k t).w .TIN_STAT_EDGE k (p.u 2 1)).wb .TIN_STAT_FEED k (bit fl 0), []))

/-- A capture entry's bytes (Table 10.4). -/
def Capture.bytes (c : Capture) : List Byte := timeBytes c.time ++ le 1 (b2n c.falling) ++ le 1 (b2n c.stepped) ++ le 2 c.seq

/-- TIN_CAPTURE_GET: the oldest entries, removed. -/
def execTinCaptureGet (p : Pkt) (s : State) : Host.Outcome State Fault Refusal :=
  let k := p.u 0 1
  let n := p.u 1 1
  .next (hostCmd 0x0511 p s
    { plen := p.len == 2, need := .owns (decide (k < 8)) [0x500 + k], checks := [(decide (n ≤ 8), .badParam)] }
    fun s =>
      let out := (s.tin k).queue.take n
      (s.updTin k (fun x => { x with queue := x.queue.drop n }), le 1 out.length ++ [0, 0, 0] ++ out.flatMap Capture.bytes))

/-- TOUT_CONFIG_SET (R290 to R293). -/
def execToutConfigSet (p : Pkt) (s : State) : Host.Outcome State Fault Refusal :=
  let k := p.u 0 1
  let mode := p.u 1 1
  let fl := p.u 3 1
  let b := le 1 mode ++ le 1 (p.u 2 1) ++ le 1 (fl % 2) ++ [0] ++ slice p.params 4 32
  let timed := mode == 1
  .next (hostCmd 0x0512 p s
    { plen := p.len == 36, need := .owns (decide (k < 8)) [0x508 + k], fwd := true,
      checks :=
        [(decide (mode < 3) && decide (p.u 2 1 < 4) && decide (fl < 4) && zeroBytes p.params 34 2 &&
          (timeOf (slice p.params 4 12)).isSome && decide (1 ≤ p.u 24 4) && (mode != 2 || decide (1 ≤ p.u 32 2)), .badParam),
         (!(timed && decide (2 ≤ p.u 28 4)) || decide (p.u 24 4 * 81920 < p.u 16 8), .badParam),
         (!(timed && p.u 28 4 == 1) || decide (s.now (p.u 2 1) ≤ toutStart b), .badState)] }
    fun s => ((s.toutConfig k b).recFlash .tout k b (bit fl 1), []))

/-- TOUT_STOP: MODE 0 under R293. -/
def execToutStop (p : Pkt) (s : State) : Host.Outcome State Fault Refusal :=
  let k := p.u 0 1
  .next (hostCmd 0x0513 p s { plen := p.len == 1, need := .owns (decide (k < 8)) [0x508 + k], fwd := true }
    fun s => (s.toutConfig k (s.toutIdle k), []))

/-- PTP_CONFIG_SET (R294, R295): clearing ENABLE ends the binding. -/
def execPtpConfigSet (p : Pkt) (s : State) : Host.Outcome State Fault Refusal :=
  let q := p.u 0 1
  let fl := p.u 1 1
  let b := le 1 (fl % 4) ++ [0, 0, 0] ++ slice p.params 4 8
  .next (hostCmd 0x0520 p s
    { plen := p.len == 12, need := .lease, fwd := true,
      checks := [(decide (q < 2) && decide (fl < 8) && zeroBytes p.params 2 2, .badParam)] }
    fun s =>
      let s := (s.recSet .ptp q b).recFlash .ptp q b (bit fl 2)
      let s := ((((s.wb .PTP_STAT_ENABLE q (bit fl 0)).wb .PTP_STAT_TB3 q (bit fl 1)).w .PTP_TXADJ_ADJ q (p.u 4 4)).w
        .PTP_RXADJ_ADJ q (p.u 8 4))
      (if bit fl 0 then s else s.ptpUnbind q, []))

/-- The context owns a PTP port (R296). -/
def State.ptpOwned (s : State) (q c : Nat) : Bool := s.rb .PTP_STAT_BOUND q && s.r .PTP_STAT_OWNER q == c

/-- PTP_BIND (R296). -/
def execPtpBind (p : Pkt) (s : State) : Host.Outcome State Fault Refusal :=
  let q := p.u 0 1
  let bind := p.u 1 1
  .next (hostCmd 0x0521 p s
    { plen := p.len == 2,
      checks := [(decide (q < 2) && decide (bind < 2), .badParam),
        (s.rb .PTP_STAT_ENABLE q && (if bind = 1 then !s.rb .PTP_STAT_BOUND q || s.ptpOwned q p.ctx else s.ptpOwned q p.ctx), .badState)] }
    fun s => (if bind = 1 then (s.wb .PTP_STAT_BOUND q true).w .PTP_STAT_OWNER q p.ctx else s.ptpUnbind q, []))

/-- PTP_TX (R297). -/
def execPtpTx (p : Pkt) (s : State) : Host.Outcome State Fault Refusal :=
  let q := p.u 0 1
  let ts := bit (p.u 1 1) 0
  let n := p.u 4 2
  let f := slice p.params 8 n
  let o := (ptpOffset f).getD 0
  let ty := octet f o % 16
  let full := decide (16 ≤ (s.ptp q).entries.length)
  .next (hostCmd 0x0522 p s
    { plen := 8 ≤ p.len && p.len == 8 + n, need := .ptp q,
      checks :=
        [(decide (p.u 1 1 < 2) && decide (60 ≤ n) && decide (n ≤ 1514) && zeroBytes p.params 6 2, .badParam),
         (!ts || ((ptpOffset f).isSome && decide (ty ≤ 3) && !((ty == 0 || ty == 3) && !bit (octet f (o + 6)) 1)), .badParam),
         (s.ptpOwned q p.ctx, .badState), (!(ts && full), .refusedFull)],
      onRefuse := fun st s => if st = .refusedFull then s.inc .PTP_LOSS_REFUSED q else s }
    fun s =>
    (s.updPtp q (fun x => { x with
      txFrames := x.txFrames ++ [(f, ts)]
      entries := if ts then x.entries ++ [{ id := p.u 2 2, seqId := be16 f (o + 30), msgType := ty, since := s.now0 }]
        else x.entries }), []))

/-- A completed entry's bytes (Table 10.6). -/
def TxEntry.bytes (e : TxEntry) : List Byte :=
  le 2 e.id ++ le 2 e.seqId ++ le 1 e.msgType ++ le 1 (b2n e.failed + 2 * b2n e.stepped) ++ [0, 0] ++ timeBytes e.ts

/-- PTP_TXTS_GET: completed entries, oldest first, removed. -/
def execPtpTxtsGet (p : Pkt) (s : State) : Host.Outcome State Fault Refusal :=
  let q := p.u 0 1
  let n := p.u 1 1
  .next (hostCmd 0x0523 p s
    { plen := p.len == 2, need := .ptp q, checks := [(decide (n ≤ 16), .badParam), (s.ptpOwned q p.ctx, .badState)] }
    fun s =>
      let out := ((s.ptp q).entries.takeWhile TxEntry.done).take n
      (s.updPtp q (fun x => { x with entries := x.entries.drop out.length }),
        le 1 out.length ++ [0, 0, 0] ++ out.flatMap TxEntry.bytes))

end Sys2Proof.Machine
end

