-- ==== Sys2Proof/Machine/Acq.lean ====
section
/-! DEFINITION. Sys2Proof/Machine/Acq.lean: the acquisition family: trigger edges, interval ends, the local converters, and the
opcodes of Table 9.13. -/

namespace Sys2Proof.Machine

/-! Marks. -/

/-- The position of an axis at an instant, interpolated linearly between the two T_in samples around it (R233, R260), rounded
half up; none while no sample at or after the instant has been committed. -/
def State.markPos (s : State) (a t : Nat) : Option Int :=
  let e1 := Tbl.get {} s.posTab a
  let e0 := Tbl.get {} s.posPrev a
  if !e1.valid || e1.tIn < t then none
  else if !e0.valid || e1.tIn ≤ e0.tIn then some e1.pos
  else some (e0.pos + divRound ((e1.pos - e0.pos) * ((t : Int) - e0.tIn)) (e1.tIn - e0.tIn))

/-- PIN_TRG_EDGE (R254): an edge stamped by its TDC is offered to the records of TSRC 1, and ends the width that a mark
measures (Table 9.5). -/
def execPinTrgEdge (pin : Fin 4) (falling : Bool) (fine : Fin 50) (s : State) : Host.Outcome State Fault Refusal :=
  let k := pin.val
  -- F times 25 ps, in 2^-16 ns rounded half up with the edge: 25 ps is 8192/5 units of 2^-16 ns
  let t := (divRound ((((s.now 1 - s.fuse .acqInputDelay k : Nat) : Int) * 5 - (fine.val : Int) * 8192)) 5).toNat
  let edge := b2n falling
  let s := (List.range 32).foldl (fun u r =>
    let b := u.cfg .acq r
    if u.acqRuns r && acqTsrc b == 1 && acqTsel b == k && acqMkind b == 3 &&
        (!bit (acqTedge b) edge || acqTedge b == 3) then
      u.updAcq r (fun x => { x with cur := x.cur.map (fun (i : Interval) =>
        match i.firstTrig with
        | some t0 => if i.width = 0 ∧ t - t0 ≤ fld b 44 4 * clockT then { i with width := (divRound ((t - t0 : Nat) * 5) 8192).toNat } else i
        | none => i) })
    else u) s
  .next (s.triggerEdge 1 k edge t)

/-- INTERVAL_END (R258 to R262): the oldest interval of a record that has ended is written as an entry, a mark's as soon as its
position is known; nothing happens where none has ended, or while a sample that may lie in it is still to come. -/
def execIntervalEnd (record : Fin 32) (s : State) : Host.Outcome State Fault Refusal :=
  let r := record.val
  let b := s.cfg .acq r
  match s.acqRuns r, (s.acq r).closed with
  | true, i :: _ =>
    let axis := fld b 40 2
    if i.waits && s.cyclic then .next s
    else match acqMkind b == 3 && axis != 0xFFFF, i.firstTrig with
    | true, some t =>
      match s.markPos axis t with
      | some pos => .next (s.acqWrite r pos)
      | none => .next s
    | _, _ => .next (s.acqWrite r 0)
  | _, _ => .next s

/-! The local converters (R268 to R272). -/

def State.conv (s : State) (c : Nat) : Conv := Tbl.get {} s.convs c
def State.updConv (s : State) (c : Nat) (f : Conv → Conv) : State := { s with convs := Tbl.modify {} s.convs c f }

/-- The converter runs interleaved (R270). -/
def State.interleaved (s : State) : Bool := bit (s.ru .adc 0 3 1) 0

/-- The record that governs a converter: CONV0's while interleaved. -/
def State.convCfg (s : State) (c : Nat) : List Byte := s.cfg .adc (if s.interleaved then 0 else c)

/-- ADC_START (R268, R269): a start of the configured kind begins a conversion or a burst; during a burst it is lost. The
edge matters for START 4 and 5 only. -/
def execAdcStart (conv : Fin 2) (falling : Bool) (fine : Fin 50) (s : State) : Host.Outcome State Fault Refusal :=
  let c := conv.val
  let b := s.convCfg c
  let start := fld b 1 1
  let due := match start with
    | 1 => true
    | 2 | 3 => s.rb .CYC_MODE_RUN
    | 4 => !falling
    | 5 => falling
    | _ => false
  if !due then .next s
  else if (s.conv c).burstLeft ≠ 0 then .next (s.inc .ADC_CNT_START_LOST c)
  else
    let t := if 4 ≤ start then (divRound (((s.now 1 : Int) * 5 - (fine.val : Int) * 8192)) 5).toNat else s.now 1
    .next (s.updConv c (fun x => { x with burstLeft := if start = 1 then 1 else fld b 6 2 + 1, start := t }))

/-- The calibrated value of a raw code (R272). -/
def calibrate (cal : List Byte) (raw : Int) : Int := ((raw * 256 - fldI cal 0 4) * (fld cal 4 4 : Int) + 2 ^ 23) / 2 ^ 24

/-- ADC_CONVERSION_DONE (R268 to R272): the conversion in progress ends, is corrected and enters its stream. -/
def execAdcConversionDone (conv : Fin 2) (raw : W16) (s : State) : Host.Outcome State Fault Refusal :=
  let c := conv.val
  let b := s.convCfg c
  let x := s.conv c
  if x.burstLeft = 0 then .next s
  else
    let stream := fld b (12 + if s.interleaved then 0 else x.scanPos) 1
    let code : Int := if stream < 8 then raw.toNat else raw.toInt
    let clip := if stream < 8 then raw.toNat == 0 || raw.toNat == 65535 else raw.toInt == -32768 || raw.toInt == 32767
    let v := calibrate (s.cfg .adcCal (c * 16 + stream)) code
    let fl := (if clip then 4 else 0) + (if s.rb .ADC_STAT_SETTLED c then 0 else 8)
    let t := x.start + s.fuse .adcAperture c
    let s := if clip then s.inc .ADC_CNT_CLIP c else s
    let s := s.updConv c (fun y =>
      { y with burstLeft := y.burstLeft - 1, start := y.start + 100 * 65536, scanPos := (y.scanPos + 1) % (fld b 8 1 + 1), count := y.count + 1 })
    .next (s.acqFeed (fun q => acqSkind q == 3 && fld q 22 2 == stream) t (fun _ => some (v, fl)))

/-- REF_OUT_OF_BAND (R271): the reference leaves its band. -/
def execRefOutOfBand (conv : Fin 2) (s : State) : Host.Outcome State Fault Refusal :=
  .next ((s.wb .ADC_STAT_SETTLED conv.val false).updConv conv.val (fun x => { x with refSince := s.now0 }))

/-- REF_SETTLED (R271): the reference has stayed within its band for 100 µs. -/
def execRefSettled (conv : Fin 2) (s : State) : Host.Outcome State Fault Refusal :=
  .next (if (s.conv conv.val).refSince + 100000 * 65536 ≤ s.now0 then s.wb .ADC_STAT_SETTLED conv.val true else s)

/-! Rates (R264, Table 9.7). -/

/-- Entries of a stream in a converter's scan list. -/
def scanCount (b : List Byte) (stream : Nat) : Nat :=
  ((List.range (fld b 8 1 + 1)).filter (fun i => fld b (12 + i) 1 == stream)).length

/-- The worst-case conversions per second of a converter with a configuration, as a fraction; a converter that is off makes none
(log 13). -/
def convFrac (b : List Byte) : Nat × Nat :=
  match fld b 1 1 with
  | 0 => (0, 1)
  | 1 => (10000000, fld b 4 2 + 1)
  | _ => (10000000, 1)

/-- ADC_RATE: the whole number of them. -/
def convRate (b : List Byte) : Nat := (convFrac b).1 / (convFrac b).2

/-- The stream rate of Table 9.7, as a fraction. -/
def streamRate (cfg : Nat → List Byte) (stream : Nat) : Nat × Nat :=
  let part (c : Nat) : Nat × Nat := ((convFrac (cfg c)).1 * scanCount (cfg c) stream, (convFrac (cfg c)).2 * (fld (cfg c) 8 1 + 1))
  if bit (fld (cfg 0) 3 1) 0 then (if fld (cfg 0) 12 1 = stream then 20000000 else 0, fld (cfg 0) 4 2 + 1)
  else ((part 0).1 * (part 1).2 + (part 1).1 * (part 0).2, (part 0).2 * (part 1).2)

/-- The admitted rate of a record, MB/s rounded up (Table 9.7). -/
def acqRate (cfg : Nat → List Byte) (b : List Byte) : Nat :=
  match acqIkind b with
  | 0 => divCeil 8 (acqIval b)
  | 1 => divCeil (64 * (streamRate cfg (fld b 22 2)).1) ((streamRate cfg (fld b 22 2)).2 * 1000000 * acqIval b)
  | _ => divCeil 51200 (fld b 36 4)

/-- The admitted sum, with one record and the converters replaced. -/
def State.acqSum (s : State) (cfg : Nat → List Byte) (new : Option (Nat × List Byte)) : Nat :=
  ((List.range 32).map (fun r =>
    match new with
    | some (n, b) => if n = r then acqRate cfg b else if (s.acq r).configured then acqRate cfg (s.cfg .acq r) else 0
    | none => if (s.acq r).configured then acqRate cfg (s.cfg .acq r) else 0)).sum

/-- The entries allocated, with one record replaced (R266). -/
def State.acqAlloc (s : State) (new : Nat × List Byte) : Nat :=
  ((List.range 32).map (fun r =>
    if r = new.1 then acqLength new.2 else if (s.acq r).configured then acqLength (s.cfg .acq r) else 0)).sum

/-- A chain of TSRC 3 and 5 references from a record; true if it comes back to `r0` (R256). -/
def State.acqLoop (s : State) (r0 : Nat) : Nat → List Byte → Bool
  | 0, _ => true
  | fuel + 1, b =>
    if acqTsrc b = 3 ∨ acqTsrc b = 5 then
      acqTsel b == r0 || State.acqLoop s r0 fuel (s.cfg .acq (acqTsel b))
    else false

/-- The ranges of Table 9.11, and that fields the kinds do not use are zero. -/
def acqOk (b : List Byte) : Bool :=
  let sk := acqSkind b
  let ik := acqIkind b
  let ts := acqTsrc b
  let ring := sk == 0 || sk == 1
  let level := ts == 2 || ts == 3
  let z (off n : Nat) := fld b off n == 0
  decide (fld b 0 1 < 2) && decide (sk ≤ 4) && decide (ik ≤ 3) && decide (acqMkind b ≤ 3) &&
  decide (1 ≤ acqLength b) && decide (acqLength b ≤ 16777216) &&
  (if acqSingle b then decide (acqPost b ≤ acqLength b - 1) else z 12 4) &&
  (if ring then decide (1 ≤ fld b 16 1) && decide (fld b 16 1 ≤ 254) && decide (1 ≤ fld b 17 1) && decide (fld b 17 1 ≤ 5) && decide (fld b 20 1 ≤ 5)
   else z 16 4 && z 20 1) &&
  (if ring && fld b 20 1 == 5 then decide (fld b 21 1 ≤ 7) else z 21 1) &&
  (if sk == 2 then decide (fld b 22 2 ≤ 647) && decide (fld b 24 1 ≤ 2) else if sk == 3 then decide (fld b 22 2 ≤ 11) && z 24 1 else z 22 3) &&
  decide (ts ≤ 6) && (match ts with | 1 => decide (acqTsel b ≤ 3) | 3 | 5 => decide (acqTsel b ≤ 31) | 4 => decide (acqTsel b ≤ 7) | _ => z 26 1) &&
  (if ts == 1 || level then decide (1 ≤ acqTedge b) && decide (acqTedge b ≤ 3) else z 27 1) &&
  (level || (z 28 4 && z 32 4)) &&
  (if ts == 0 then z 36 4 || decide (8 ≤ fld b 36 4) else decide (8 ≤ fld b 36 4)) &&
  (if acqMkind b == 3 then decide (fld b 40 2 ≤ 647) || fld b 40 2 == 0xFFFF else z 40 2 && z 44 4) && z 42 2 && zeroBytes b 48 16 &&
  (ik != 1 || sk == 3) && ((ik != 2 && ik != 3) || ts != 0) && (ik != 2 || z 4 4)

/-- REC_CONFIG_SET (R251, R258, R264, R266). -/
def execRecConfigSet (p : Pkt) (s : State) : Host.Outcome State Fault Refusal :=
  let r := p.u 0 1
  let b := slice p.params 4 64
  let cfg := s.cfg .adc
  .next (hostCmd 0x0401 p s
    { plen := p.len == 68, need := .owns (decide (r < 32)) [0x400 + r], fwd := true,
      checks :=
        [(zeroBytes p.params 1 3 && acqOk b && !s.acqLoop r 33 b, .badParam),
         (decide (s.acqSum cfg (some (r, b)) ≤ 6400) && decide (s.acqAlloc (r, b) ≤ 16777216), .badParam),
         (!s.acqRuns r, .badState)] }
    fun s =>
      let rate := acqRate cfg b
      let s := (s.recSet .acq r b).updAcq r (fun _ => { configured := true, rate := rate })
      let s := ((s.w .REC_SEQ_SEQ r 0xFFFFFFFF).w .REC_TRIG_SEQ_SEQ r 0xFFFFFFFF).wb .REC_STAT_PRE_SHORT r false
      let s := ((s.w .REC_STAT_STATE r 0).w .REC_STAT_CAUSE r 0).w .ACQ_BW_USED 0 (s.acqSum cfg none)
      let s := s.w .ACQ_AREA_ALLOC 0 (s.acqAlloc (r, b))
      let s := s.fresh.2.w .ACQ_WIN_FIRST r (s.fresh.1 % (16777217 - acqLength b))
      (s, le 2 rate ++ le 2 (s.r .ACQ_BW_USED)))

/-- REC_CONFIG_GET. -/
def execRecConfigGet (p : Pkt) (s : State) : Host.Outcome State Fault Refusal :=
  let r := p.u 0 1
  .next (hostCmd 0x0402 p s { plen := p.len == 1, checks := [(decide (r < 32), .badParam)] } fun s => (s, s.cfg .acq r))

/-- REC_START (R261 to R263). -/
def execRecStart (p : Pkt) (s : State) : Host.Outcome State Fault Refusal :=
  let r := p.u 0 1
  .next (hostCmd 0x0403 p s
    { plen := p.len == 1, need := .owns (decide (r < 32)) [0x400 + r], fwd := true,
      checks := [((s.acq r).configured && !s.acqRuns r, .badState)] }
    fun s =>
      let b := s.cfg .acq r
      let opens := acqIkind b == 0 || acqIkind b == 1
      let s := s.updAcq r (fun x => { ({ configured := true, rate := x.rate } : AcqRec) with
        cur := if opens then some { tStart := s.now 1, cut := acqIkind b == 0 } else none })
      let s := ((s.w .REC_SEQ_SEQ r 0xFFFFFFFF).w .REC_TRIG_SEQ_SEQ r 0xFFFFFFFF).w .REC_STAT_CAUSE r 0
      ((s.wb .REC_STAT_PRE_SHORT r false).w .REC_STAT_STATE r (if acqSingle b then 2 else 1), []))

/-- Write every interval that has ended; `fuel` bounds them. -/
def State.acqFlush (s : State) (r : Nat) : Nat → State
  | 0 => s
  | fuel + 1 =>
    match (s.acq r).closed with
    | [] => s
    | i :: _ =>
      let pos := ((s.markPos (s.ru .acq r 40 2) (i.firstTrig.getD 0))).getD 0
      State.acqFlush (s.acqWrite r pos) r fuel

/-- Stop a running record: the open interval is written with PARTIAL (R263). -/
def State.acqStop (s : State) (r cause : Nat) : State :=
  if s.acqRuns r then
    let s := s.updAcq r (fun x => x.close true)
    let s := s.acqFlush r ((s.acq r).closed.length)
    (s.w .REC_STAT_STATE r 5).w .REC_STAT_CAUSE r cause
  else s

/-- REC_STOP (R263). -/
def execRecStop (p : Pkt) (s : State) : Host.Outcome State Fault Refusal :=
  let r := p.u 0 1
  .next (hostCmd 0x0404 p s { plen := p.len == 1, need := .owns (decide (r < 32)) [0x400 + r], fwd := true }
    fun s => (s.acqStop r 1, []))

/-- REC_TRIGGER (R256): the trigger instant is the TB1 time at acceptance. -/
def execRecTrigger (p : Pkt) (s : State) : Host.Outcome State Fault Refusal :=
  let r := p.u 0 1
  .next (hostCmd 0x0405 p s { plen := p.len == 1, need := .owns (decide (r < 32)) [0x400 + r], fwd := true }
    fun s => (State.offer 32 s r (s.now 1), []))

/-- REC_READ. -/
def execRecRead (p : Pkt) (s : State) : Host.Outcome State Fault Refusal :=
  let r := p.u 0 1
  let n := p.u 2 2
  .next (hostCmd 0x0406 p s
    { plen := p.len == 8, checks := [(decide (r < 32) && zeroBytes p.params 1 1 && decide (n ≤ 63), .badParam)] }
    fun s =>
      let x := s.acq r
      let len := acqLength (s.cfg .acq r)
      let first := min x.seq (max (p.u 4 4) (x.seq - len))
      let k := min n (x.seq - first)
      (s, le 4 first ++ le 2 k ++ [0, 0] ++
        ((List.range k).flatMap (fun i => slice (Tbl.get [] x.buf ((first + i) % len)) 0 64))))

/-- Clear an RC field that a status opcode reads (R395). -/
def State.rc (s : State) (f : Fld) (i : Nat) : State := s.w f i 0

/-- REC_STATUS_GET: the eight registers of a record; RC fields clear. -/
def execRecStatusGet (p : Pkt) (s : State) : Host.Outcome State Fault Refusal :=
  let r := p.u 0 1
  .next (hostCmd 0x0407 p s { plen := p.len == 1, checks := [(decide (r < 32), .badParam)] }
    fun s =>
      ((((s.rc .REC_CNT_MISS r).rc .REC_CNT_HOLDOFF r).rc .REC_CNT2_WRAPS r).rc .REC_CNT2_ACCEPTED r,
        le 4 (s.r .REC_STAT_STATE r + 8 * s.r .REC_STAT_PRE_SHORT r + 256 * s.r .REC_STAT_CAUSE r) ++ le 4 (s.r .REC_SEQ_SEQ r) ++
        le 4 (s.r .REC_TRIG_SEQ_SEQ r) ++ le 2 (s.r .REC_CNT_MISS r) ++ le 2 (s.r .REC_CNT_HOLDOFF r) ++ le 2 (s.r .REC_CNT2_WRAPS r) ++
        le 2 (s.r .REC_CNT2_ACCEPTED r) ++ le 4 (s.r .REC_TLAST0_T r) ++ le 4 (s.r .REC_TLAST1_T r) ++ le 4 (s.r .REC_TLAST2_T r)))

/-- ACQ_BW_GET. -/
def execAcqBwGet (p : Pkt) (s : State) : Host.Outcome State Fault Refusal :=
  .next (hostCmd 0x0408 p s { plen := p.len == 0 } fun s =>
    (s, le 4 (s.r .ACQ_BW_USED) ++ le 4 (s.r .ACQ_AREA_ALLOC) ++ (List.range 32).flatMap (fun r => le 2 (s.acq r).rate)))

/-- The ranges of Table 9.12. -/
def adcOk (b : List Byte) : Bool :=
  decide (fld b 0 1 < 2) && decide (fld b 1 1 ≤ 5) && decide (fld b 2 1 ≤ 2) && decide (fld b 3 1 < 2) && (fld b 3 1 == 0 || fld b 0 1 == 0) &&
  decide (fld b 4 2 ≤ 9999) && decide (fld b 6 2 ≤ 1023) && decide (fld b 8 1 ≤ 7) && zeroBytes b 9 3 &&
  (List.range 8).all (fun i => if i ≤ fld b 8 1 then decide (fld b (12 + i) 1 ≤ 11) else fld b (12 + i) 1 == 0) &&
  (fld b 3 1 == 0 || fld b 1 1 == 1)

/-- ADC_CONFIG_SET (R268 to R271, R264). -/
def execAdcConfigSet (p : Pkt) (s : State) : Host.Outcome State Fault Refusal :=
  let c := p.u 0 1
  let b := slice p.params 0 20
  let cfg := fun k => if k = c then b else s.cfg .adc k
  .next (hostCmd 0x0410 p s
    { plen := p.len == 20, need := .lease, fwd := true,
      checks := [(adcOk b && decide (s.acqSum cfg none ≤ 6400), .badParam), (!(c == 1 && s.interleaved), .badState)] }
    fun s =>
      let newRef := s.r .ADC_STAT_REF c != fld b 2 1
      let s := (s.recSet .adc c b).updConv c (fun x => { x with scanPos := 0, count := 0 })
      let s := ((s.w .ADC_STAT_REF c (fld b 2 1)).w .ADC_STAT_INTERLEAVED c (fld b 3 1)).w .ADC_STAT_START c (fld b 1 1)
      let s := s.w .ADC_RATE_RATE c (convRate b)
      let s := if newRef then (s.wb .ADC_STAT_SETTLED c false).updConv c (fun x => { x with refSince := s.now0 }) else s
      let s := (List.range 32).foldl (fun u r => if (u.acq r).configured then u.updAcq r (fun x => { x with rate := acqRate cfg (u.cfg .acq r) }) else u) s
      (s.w .ACQ_BW_USED 0 (s.acqSum cfg none), []))

/-- ADC_CAL_SET (R272). -/
def execAdcCalSet (p : Pkt) (s : State) : Host.Outcome State Fault Refusal :=
  let i := p.u 0 1 * 16 + p.u 1 1
  let g := p.u 8 4
  .next (hostCmd 0x0411 p s
    { plen := p.len == 12, need := .lease, fwd := true,
      checks := [(decide (p.u 0 1 < 2) && decide (p.u 1 1 ≤ 11) && decide (p.u 2 1 < 2) && zeroBytes p.params 3 1 &&
        decide (0x8000 ≤ g) && decide (g ≤ 0x20000), .badParam)] }
    fun s => ((s.recSet .adcCal i (slice p.params 4 8)).recFlash .adcCal i (slice p.params 4 8) (bit (p.u 2 1) 0), []))

/-- ADC_STATUS_GET: RC fields clear. -/
def execAdcStatusGet (p : Pkt) (s : State) : Host.Outcome State Fault Refusal :=
  let c := p.u 0 1
  .next (hostCmd 0x0412 p s { plen := p.len == 1, checks := [(decide (c < 2), .badParam)] }
    fun s => ((s.rc .ADC_CNT_START_LOST c).rc .ADC_CNT_CLIP c,
      le 4 (s.r .ADC_STAT_SETTLED c + 2 * s.r .ADC_STAT_REF c + 8 * s.r .ADC_STAT_INTERLEAVED c + 16 * s.r .ADC_STAT_START c) ++
      le 2 (s.r .ADC_CNT_START_LOST c) ++ le 2 (s.r .ADC_CNT_CLIP c) ++ le 4 (s.r .ADC_RATE_RATE c)))

/-- A read of word `w` of REC_TLAST (R275): a read of REC_TLAST0 latches the other two for the next reads. -/
def State.tlastRead (s : State) (r w : Nat) : Nat × State :=
  let l := Tbl.get (0, 0) s.tlastLatch r
  match w with
  | 0 => (s.r .REC_TLAST0_T r, { s with tlastLatch := Tbl.set (0, 0) s.tlastLatch r (s.r .REC_TLAST1_T r, s.r .REC_TLAST2_T r) })
  | 1 => (l.1, s)
  | _ => (l.2, s)

/-- REC_TLAST_READ (R275). -/
def execRecTlastRead (record : Fin 32) (word : Fin 3) (s : State) : Host.Outcome State Fault Refusal :=
  let (v, s) := s.tlastRead record.val word.val
  .next (s.readBack v)

end Sys2Proof.Machine
end

