-- ==== Sys2Proof/Machine/Cordic.lean ====
section
/-! DEFINITION. Sys2Proof/Machine/Cordic.lean: the CORDIC unit (R127): cosine, sine, rotation, magnitude and angle. The exact values are
approximated here far below one LSB, and the result is free within the error that R127 allows (log 4). -/

namespace Sys2Proof.Machine

/-- 2 pi in 2^-60. -/
def twoPi : Int := 7244019458077122842

/-- A Taylor sum in 2^-48: `t` is the present term, divided by its next two factors at each of `n` steps. -/
def taylor (sq : Int) : Nat → Int → Int → Int
  | 0, _, t => t
  | n + 1, k, t => t + taylor sq n (k + 2) (-(t * sq / 2 ^ 48) / (k * (k + 1)))

/-- Cosine and sine, in 2^-48, of an angle of at most an eighth of a turn, in 2^-32 turns. -/
def smallCos (r : Int) : Int := let th := r * twoPi / 2 ^ 44; taylor (th * th / 2 ^ 48) 10 1 (2 ^ 48)
def smallSin (r : Int) : Int := let th := r * twoPi / 2 ^ 44; taylor (th * th / 2 ^ 48) 10 2 th

/-- Cosine and sine of an angle in 2^-32 turns, in 2^-48. -/
def cosSin (a : Nat) : Int × Int :=
  let q : Nat := (a + 2 ^ 29) / 2 ^ 30
  let r : Int := (a : Int) - (q : Int) * 2 ^ 30
  let c := smallCos r
  let n := smallSin r
  match q % 4 with
  | 0 => (c, n)
  | 1 => (-n, c)
  | 2 => (-c, -n)
  | _ => (n, -c)

/-- The integer square root, bit by bit: `r` holds the bits above. -/
def isqrtStep (v : Nat) : Nat → Nat → Nat
  | 0, r => r
  | n + 1, r => let c := r + 2 ^ n; isqrtStep v n (if c * c ≤ v then c else r)

/-- The integer square root of a number below 2^128. -/
def isqrt (v : Nat) : Nat := isqrtStep v 64 0

/-- The angle in 2^-32 turns, bit by bit, of a vector in the first quadrant. -/
def atanStep (x y : Int) : Nat → Nat → Nat
  | 0, r => r
  | n + 1, r =>
    let c := r + 2 ^ n
    let cs := cosSin c
    atanStep x y n (if cs.2 * x ≤ cs.1 * y then c else r)

/-- atan2 as an unsigned fraction of a turn, counted from +x toward +y. -/
def atan2Turn (x y : Int) : Nat :=
  let t := if y = 0 then 0 else if x = 0 then 2 ^ 30 else atanStep x.natAbs y.natAbs 30 0
  (if 0 ≤ x then (if 0 ≤ y then t else 2 ^ 32 - t) else (if 0 ≤ y then 2 ^ 31 - t else 2 ^ 31 + t)) % 2 ^ 32

/-- The deviation of a result, within the bound that R127 states. -/
def cordicDev (bound : Nat) (op : Nat) (x y z : W32) : Int :=
  clampInt (-(bound : Int)) bound (Config.cordicDeviation op x y z)

/-- CSC: cosine and sine in Q1.31 before saturation. -/
def cordicCsc (a : W32) : Int × Int :=
  let cs := cosSin a.toNat
  (divRound cs.1 (2 ^ 17) + cordicDev 4 0 a 0 0, divRound cs.2 (2 ^ 17) + cordicDev 4 1 a 0 0)

/-- CROT: the rotated vector in Q1.31 before saturation. -/
def cordicRot (x y a : W32) : Int × Int :=
  let cs := cosSin a.toNat
  (divRound (x.toInt * cs.1 - y.toInt * cs.2) (2 ^ 48) + cordicDev 4 2 x y a,
    divRound (x.toInt * cs.2 + y.toInt * cs.1) (2 ^ 48) + cordicDev 4 3 x y a)

/-- CVEC: magnitude in Q2.30 and angle; a zero vector gives 0 and 0. -/
def cordicVec (x y : W32) : W32 × W32 :=
  if x = 0 ∧ y = 0 then (0, 0)
  else
    let m := isqrt (4 * (x.toInt * x.toInt + y.toInt * y.toInt).toNat)
    (BitVec.ofInt 32 (clampInt 0 (2 ^ 31 - 1) (divRound (m : Int) 4 + cordicDev 4 4 x y 0)),
      BitVec.ofInt 32 ((atan2Turn x.toInt y.toInt : Int) + cordicDev 16 5 x y 0))

end Sys2Proof.Machine
end

