-- ==== Sys2Proof/Machine/FieldOps.lean ====
section
/-! DEFINITION. Sys2Proof/Machine/FieldOps.lean: the field outputs: demand (R310), what keeps an output off (R311 to R313), test pulses
(R316), and the brake outputs that a fault class turns off. -/

namespace Sys2Proof.Machine

def State.axis (s : State) (a : Nat) : Axis := Tbl.get {} s.axes a
def State.updAxis (s : State) (a : Nat) (f : Axis → Axis) : State := { s with axes := Tbl.modify {} s.axes a f }

/-- The fault class of an axis. -/
def State.fc (s : State) (a : Nat) : Nat := (s.axis a).fc

def State.chan (s : State) (c : Nat) : Chan := Tbl.get {} s.chans c
def State.updChan (s : State) (c : Nat) (f : Chan → Chan) : State := { s with chans := Tbl.modify {} s.chans c f }

/-! The channel record (Table 11.4). -/

def State.chMode (s : State) (c : Nat) : Nat := s.r .FIO_CH_STAT_MODE c
def State.chFlag (s : State) (c i : Nat) : Bool := bit (s.ru .field c 1 1) i
def State.chIsInput (s : State) (c : Nat) : Bool := s.chMode c == 1 || s.chMode c == 2
def State.chBrake (s : State) (c a : Nat) : Bool := s.chMode c == 3 && s.ru .field c 11 1 == 2 && s.ru .field c 12 2 == a

/-- A bit of a register of one bit per channel. -/
def State.fioBit (s : State) (f : Fld) (c : Nat) : Bool := bit (s.r f) c
def State.setFio (s : State) (f : Fld) (c : Nat) (b : Bool) : State := s.w f 0 (setBit (s.r f) c b)

/-- Milliseconds and microseconds in 2^-16 ns. -/
def usT (n : Nat) : Nat := n * 1000 * 65536

/-- The under-voltage bit of a channel's group (R313). -/
def State.chUv (s : State) (c : Nat) : Bool := if c < 12 then s.rb .FIO_SUPPLY_UV0 else s.rb .FIO_SUPPLY_UV1

/-- The demand of an output (R310): SAF's for a SAF-owned one; the host's value, and for a brake only while its axis is in
neither FC3 nor FC4. -/
def State.chDemand (s : State) (c : Nat) : Bool :=
  if s.rb .FIO_CH_STAT_OWNER c then (s.chan c).saf
  else (s.chan c).host && !(s.ru .field c 11 1 == 2 && decide (3 ≤ s.fc (s.ru .field c 12 2)))

/-- The output may be on: MODE 3 in force, no latched fault, no retry pause, no under-voltage. -/
def State.chAllowed (s : State) (c : Nat) : Bool :=
  s.chMode c == 3 && !s.rb .FIO_CH_STAT_LATCHED c && (s.chan c).retry.isNone && !s.chUv c

/-- Switch an output. -/
def State.setOut (s : State) (c : Nat) (on : Bool) : State :=
  if s.fioBit .FIO_OUT_ON c = on then s
  else (s.setFio .FIO_OUT_ON c on).updChan c (fun x => { x with switched := s.now0, readback := 0 })

/-- Bring an output to its demand, through a test pulse in progress as Table 11.3 states. -/
def State.drive (s : State) (c : Nat) : State :=
  let want := s.chDemand c && s.chAllowed c
  match (s.chan c).pulse with
  | none => s.setOut c want
  | some p =>
    if !s.chAllowed c then (s.updChan c (fun x => { x with pulse := some { p with aborted := true } })).setOut c false
    else if p.off then
      -- an off-test: an off-demand aborts it, and the output stays off until its scheduled end
      if want then s.setOut c false
      else (s.updChan c (fun x => { x with pulse := some { p with aborted := true } })).setOut c false
    else if want then (s.updChan c (fun x => { x with pulse := none })).setOut c true
    else if p.aborted then s.setOut c false
    else s

/-- An off-demand during a test pulse (Table 11.3): an on-test ends at once and is not checked. -/
def State.driveOff (s : State) (c : Nat) : State :=
  match (s.chan c).pulse with
  | some p => if p.off then s.drive c else (s.updChan c (fun x => { x with pulse := none })).setOut c false
  | none => s.drive c

/-- When an axis enters FC3 or FC4 its brake outputs turn off and their host values become 0 (R310). -/
def State.brakesOff (s : State) (a : Nat) : State :=
  (List.range 24).foldl (fun u c =>
    if u.chBrake c a then (u.updChan c (fun x => { x with host := false })).driveOff c else u) s

end Sys2Proof.Machine
end

