-- ==== Sys2Proof/Machine/Faults.lean ====
section
/-! DEFINITION. Sys2Proof/Machine/Faults.lean: fault classes of axes (R8, R471, R475) and what an axis's motion does on entering one
(R213, R216, R241, R310). -/

namespace Sys2Proof.Machine

def State.motion (s : State) (a : Nat) : Motion := Tbl.get {} s.motions a
def State.updMotion (s : State) (a : Nat) (f : Motion → Motion) : State := { s with motions := Tbl.modify {} s.motions a f }
def State.servo (s : State) (a : Nat) : Servo := Tbl.get {} s.servos a
def State.updServo (s : State) (a : Nat) (f : Servo → Servo) : State := { s with servos := Tbl.modify {} s.servos a f }
def State.fb (s : State) (a : Nat) : Fb := Tbl.get {} s.fbs a
def State.updFb (s : State) (a : Nat) (f : Fb → Fb) : State := { s with fbs := Tbl.modify {} s.fbs a f }
def State.group (s : State) (g : Nat) : Group := Tbl.get {} s.groups g
def State.updGroup (s : State) (g : Nat) (f : Group → Group) : State := { s with groups := Tbl.modify {} s.groups g f }

/-- The group an axis belongs to (R239: at most one). -/
def State.groupOf (s : State) (a : Nat) : Option Nat := (List.range 32).find? (fun g => (s.group g).members.contains a)

/-- Leave the mode in force and come to standstill under the profile or the quick-stop limits; MODE shows the speed profile
that brakes, and HOLD at standstill (R216; log 21). -/
def Motion.brake (quick : Bool) (m : Motion) : Motion :=
  { m with mode := (if m.v = 0 then 0 else 2), goal := (if m.v = 0 then .hold else .stop quick), homing := none, cmds := []
           follow := { m.follow with camNext := none } }

/-- A member leaves or stops with its group (R241): FC1 and FC2 stop the whole group along the line; FC3 and FC4 break it, and
the other members leave the line under their quick-stop limits. -/
def State.groupFault (s : State) (a cls : Nat) : State :=
  match s.groupOf a with
  | none => s
  | some g =>
    if !s.rb .GRP_STAT_MOVING g then s
    else if cls ≤ 2 then s.updGroup g (fun x => { x with stopping := true, quick := x.quick || cls == 2 })
    else
      let s := ((s.group g).members.filter (· ≠ a)).foldl (fun u b =>
        if (u.motion b).mode = 6 then u.updMotion b (Motion.brake true) else u) s
      let s := (s.wb .GRP_STAT_BROKEN g true).wb .GRP_STAT_MOVING g false
      s.raise .groupBroken

/-- What an axis does as it enters a class above its present one. -/
def State.enterClass (s : State) (a cls : Nat) : State :=
  let s := s.groupFault a cls
  if cls ≤ 2 then
    if (s.motion a).mode = 6 then s.updMotion a (fun m => { m with cmds := [] })
    else (s.updMotion a (Motion.brake (cls == 2))).w .MO_STAT_HSTEP a 0
  else
    let s := s.updMotion a (fun m => { m with mode := 0, goal := .hold, homing := none, cmds := [], follow := { m.follow with camNext := none } })
    let s := if a < 640 then s.w .MO_STAT_HSTEP a 0 else s
    let s := if a < 128 then (s.updServo a (fun x => { x with integ := 0, align := none })).wb .SV_STAT_ALIGNING a false
      else s.wb .MO_STAT_HOMED a false
    s.brakesOff a

/-- A servo axis in FC3 or FC4: its set-point follows its position (R213). -/
def State.followPosition (s : State) (a : Nat) : State :=
  let x := s.fb a
  s.updMotion a (fun m => { m with p := x.pos, v := if s.rb .FB_STAT_SPEED_VALID a then x.speed else 0, a := 0, mode := 0, goal := .hold, homing := none })

/-- An axis that has left FC3 or FC4: a servo axis brakes from its measured position and speed, and a stepper stands (R213). -/
def State.leaveInhibit (s : State) (a : Nat) : State :=
  if 3 ≤ s.fc a then s else (if a < 128 then s.followPosition a else s).updMotion a (Motion.brake (s.fc a == 2))

/-- Set a fault class with its cause (R8): the highest class governs; a cause of lower class is kept and softens nothing. FC3
with cause ENC_FAULT ends commutation (R165). -/
def State.setClass (s : State) (a cls : Nat) (e : Ev) : State :=
  let x := s.axis a
  let s := s.updAxis a (fun x =>
    { x with fc := max x.fc cls, causes := if x.causes.contains (e, cls) then x.causes else x.causes ++ [(e, cls)] })
  let s := if e = .encFault then s.w .FB_STAT_COMM_STATE a 0 else s
  if x.fc < cls then s.enterClass a cls else s

/-- Set a fault class and raise its event, which names the axis (R475). -/
def State.setFault (s : State) (a cls : Nat) (e : Ev) (body : List Byte := []) (data : Nat := 0) : State :=
  (s.setClass a cls e).raise e cls 1 a body data

/-- Set a class where a cause is already standing in it without raising its event again. -/
def State.setFaultOnce (s : State) (a cls : Nat) (e : Ev) (body : List Byte := []) (data : Nat := 0) : State :=
  if (s.axis a).causes.contains (e, cls) then s else s.setFault a cls e body data

/-- An FC0 warning of an axis: reported only (R8). -/
def State.warn (s : State) (a : Nat) (e : Ev) : State :=
  (s.updAxis a (fun x => { x with causes := if x.causes.contains (e, 0) then x.causes else x.causes ++ [(e, 0)] })).raise e 0 1 a

end Sys2Proof.Machine
end

