-- ==== Sys2Proof/Machine/TwinOps.lean ====
section
/-! DEFINITION. Sys2Proof/Machine/TwinOps.lean: what twin operation adds to the work of a cycle: roles (R359), input digests (R363),
the gates of dispatch (R362), and the measured load of the Flue (R367). -/

namespace Sys2Proof.Machine

def State.updTwin (s : State) (f : Twin → Twin) : State := { s with twin := f s.twin }
def State.isActive (s : State) : Bool := s.r .TWIN_STAT_ROLE == 1
def State.isStandby (s : State) : Bool := s.r .TWIN_STAT_ROLE == 2

/-- A twin pair whose standby computes with its active: SYNC is SYNCED and the Flue is live. -/
def State.synced (s : State) : Bool := s.r .TWIN_STAT_ROLE != 0 && s.r .TWIN_STAT_SYNC == 2 && !s.twin.silent

/-- The standby computes: it is SYNCED or SOLO (Table 13.2, R373). -/
def State.standbyRuns (s : State) : Bool := s.r .TWIN_STAT_SYNC == 2 || s.r .TWIN_STAT_SYNC == 4

/-- Count the bytes of a message sent over the Flue in this cycle (R367). -/
def State.flueSend (s : State) (n : Nat) : State :=
  if s.r .TWIN_STAT_ROLE = 0 ∨ s.twin.silent then s else s.updTwin (fun t => { t with bytes := t.bytes + n })

/-- A cycle has begun. -/
def State.begun (s : State) (c : Nat) : Bool := decide (cycDiff s.cycle c < 2 ^ 31)

/-- The mode of a frame: the present one, or one before it that is on its way or still in use. -/
def State.modeOf (s : State) (n : Nat) : Nat := if n = s.cycle then s.mode else s.head.prevMode

/-- The period of a cycle in 10 ns: of the present one, one before it, or the one after it (R82). -/
def State.periodOf (s : State) (c : Nat) : Nat :=
  if c = s.cycle then s.r .CYC_PERIOD_PERIOD
  else if s.begun c then (s.sched s.head.prevMode).period
  else if s.rb .SW_STAT_ARMED && s.r .SW_CYCLE_CYCLE == c then (s.sched (s.r .SW_STAT_NEXT_SM)).period
  else s.r .CYC_PERIOD_PERIOD

/-- Clocks from the tick of a cycle to now (R99, TNOW): the present cycle's tick, or that of an earlier one; 0 before it. -/
def State.sinceTick (s : State) (c : Nat) : Nat :=
  if s.begun c then s.clk - s.head.tickClk + cycDiff s.cycle c * s.periodOf c * 8 else 0

/-- The axes of a task at its end: those of the frame it commits into. -/
def State.taskAxes (s : State) (b : List Byte) (cycle : Nat) : List Nat :=
  let frame := cycAdd cycle 1
  let m := if s.rb .SW_STAT_ARMED && s.r .SW_CYCLE_CYCLE == frame then s.r .SW_STAT_NEXT_SM else s.mode
  s.slotAxes (s.sched m) b frame

/-- The input area of a task: the segments whose arrival map names its counter, in map order (Table 5.3). -/
def State.inputArea (s : State) (g ctr inst : Nat) : List Byte :=
  if ctr = 0xFFFF then []
  else ((s.arrMap.filter (fun e => e.1 / 2048 == s.modeOf inst && e.2.contains (g, ctr))).flatMap (fun e =>
    match (s.sched (s.modeOf inst)).seg (e.1 / 8 % 256) (e.1 % 8) with
    | none => []
    | some seg =>
      match (Tbl.get {} s.segIn (e.1 % 2048)).of inst with
      | some u => inputOf seg u.1 true u.2
      | none => inputOf seg 0 false [])).take 3840

/-! Digests (R363). -/

/-- The input digest of a task: TW_INST, TW_FLAGS without bits [2] and [31:4], and its input area. -/
def taskDigest (inst flags : Nat) (input : List Byte) : Nat :=
  crc32c (le 4 inst ++ le 4 (setBit (flags % 16) 2 false) ++ input)

/-- Two digests of a task are held and differ: it counts, for its axes too, and the first in 1,024 cycles warns. -/
def State.digestCheck (s : State) (cycle g desc own other : Nat) : State :=
  if own = other ∨ !(s.isStandby && s.r .TWIN_STAT_SYNC == 2) then s
  else
    let s := s.inc .TWIN_CNT_DIGEST_DIFF
    let s := ((s.taskAxes (s.desc g desc) cycle).filter (· < 640)).foldl (fun u a => u.inc .TWIN_AX_DIFF a) s
    let warn : Bool := match s.twin.digestAt with | none => true | some c => decide (1024 ≤ cycDiff s.cycle c)
    if warn then (s.updTwin (fun t => { t with digestAt := some s.cycle })).raise .twinDigest 0 else s

/-- The digest held for a task. -/
def digestOf (l : List (Nat × Nat × Nat × Nat)) (cycle g desc : Nat) : Option Nat :=
  (l.find? (fun d => d.1 == cycle && d.2.1 == g && d.2.2.1 == desc)).map (·.2.2.2)

/-- A task's counter instance reaches zero: its digest is formed, sent and compared. -/
def State.ownDigest (s : State) (g desc cycle inst flags ctr : Nat) : State :=
  if s.r .TWIN_STAT_ROLE = 0 then s
  else
    let d := taskDigest inst flags (s.inputArea g ctr inst)
    let s := (s.updTwin (fun t => { t with mine := t.mine ++ [(cycle, g, desc, d)] })).flueSend 8
    match digestOf s.twin.theirs cycle g desc with
    | some o => s.digestCheck cycle g desc d o
    | none => s

/-! Gates (R362). -/

/-- The standby has applied the active's RECORD of a descriptor for the cycle before, where it took part in that. -/
def State.recordedBefore (s : State) (g desc cycle : Nat) : Bool :=
  let prev := cycAdd cycle (Config.cycleModulus - 1)
  !partakes (s.desc g desc) s.mode prev || s.twin.recs.contains (prev, g, desc)

/-- The valid blocks of the partner's SENT message for a segment of a frame, if it has come. -/
def State.partnerSent (s : State) (frame addr ty : Nat) : Option (List (Nat × List Byte)) :=
  (s.twin.sentIn.find? (fun m => m.frame == frame && m.addr == addr && m.ty == ty)).map (·.blocks)

/-- A task of a cycle may be dispatched: at once outside a twin pair; in one, not before 1.00 us after the tick, not before the
partner's SENT message for its slot while the Flue is live, and in the standby not before the RECORD of the cycle before. -/
def State.twinGate (s : State) (g desc cycle : Nat) : Bool :=
  s.r .TWIN_STAT_ROLE == 0 ||
    (decide (800 ≤ s.sinceTick cycle) &&
      (s.twin.silent || !descSlot (s.desc g desc) || s.r .TWIN_STAT_SYNC == 0 ||
        (s.partnerSent cycle (descAddr (s.desc g desc)) (descType (s.desc g desc))).isSome) &&
      (!s.isStandby || (s.standbyRuns && (s.twin.silent || s.recordedBefore g desc cycle))))

/-- A shared-SRAM load of a standby's task waits for every RECORD of the cycle before of its die. -/
def State.recordsIn (s : State) (g cycle : Nat) : Bool :=
  !s.isStandby || s.twin.silent ||
    (s.dieDescs g).all (fun d => (descCtr d.2 == 0xFFFF && !descDelayed d.2) || s.recordedBefore g d.1 cycle)

end Sys2Proof.Machine
end

