-- ==== Sys2Proof/Machine/GrateOps.lean ====
section
/-! DEFINITION. Sys2Proof/Machine/GrateOps.lean: the operations of a Grate: the trace (R147), counter instances and ready lists (R131,
R132, R137), posting (R143), the end of a task by commit, abort or trap (R121, R123, R134, R145, R146), and late counts
(R28 to R31). -/

namespace Sys2Proof.Machine

def State.core (s : State) (n : Nat) : Core := Tbl.get {} s.cores n
def State.updCore (s : State) (n : Nat) (f : Core → Core) : State := { s with cores := Tbl.modify {} s.cores n f }
def State.grate (s : State) (g : Nat) : Grate := Tbl.get {} s.grates g
def State.updGrate (s : State) (g : Nat) (f : Grate → Grate) : State := { s with grates := Tbl.modify {} s.grates g f }
def State.inst (s : State) (g ctr c : Nat) : CtrInst := Tbl.get {} s.insts ((g * 1024 + ctr) * 4 + c % 4)
def State.updInst (s : State) (g ctr c : Nat) (f : CtrInst → CtrInst) : State :=
  { s with insts := Tbl.modify {} s.insts ((g * 1024 + ctr) * 4 + c % 4) f }

/-! The trace (R147, Tables 5.5 and 5.6). -/

inductive TraceEv where
  | ready | dispatch | commit | abortRun | abortReady | inputMiss | trap | flowWait | delayDue | refused | noSlot
  deriving DecidableEq, Repr

/-- The value of a trace event (Table 5.6). -/
def TraceEv.code (e : TraceEv) : Nat := e.ctorIdx + 1

/-- Write a trace record where its event is enabled; a full buffer keeps what it holds and counts. -/
def State.trace (s : State) (g : Nat) (e : TraceEv) (cycle desc aux data : Nat) : State :=
  if s.rb .GR_TRACE_CFG_ENABLE g && bit (s.r .GR_TRACE_CFG_EVMASK g) (e.code - 1) then
    if (s.grate g).trace.length < 8192 then
      let b := s.desc g desc
      let r := le 4 (s.sinceTick cycle) ++ le 2 cycle ++ le 1 e.code ++ le 1 (descCore b + 16 * descPrio b) ++ le 2 desc ++ le 2 aux ++ le 4 data
      let s := s.updGrate g (fun x => { x with trace := x.trace ++ [r] })
      (s.w .GR_TRACE_FILL_FILL g (s.grate g).trace.length).wb .GR_STAT_TRACE_FULL g ((s.grate g).trace.length == 8192)
    else s.inc .GR_TRACE_LOST_COUNT g
  else s

/-! Ready lists and counters. -/

/-- Entries of one priority. -/
def Grate.listed (x : Grate) (prio : Nat) : Nat := (x.ready.filter (fun e => e.prio == prio)).length

/-- A descriptor enters the ready list of its priority (R132, R137). -/
def State.makeReady (s : State) (g desc cycle inst flags arr : Nat) : State :=
  let b := s.desc g desc
  let e : ReadyEntry :=
    { desc := desc, cycle := cycle, prio := descPrio b, core := descCore b, since := s.clk, flags := flags, arr := arr, inst := inst,
      bytes := b }
  let s := s.updGrate g (fun x => { x with ready := x.ready ++ [e] })
  let n := (s.grate g).listed (descPrio b)
  let s := if s.r .GR_RDYMAX_MAX g < n then s.w .GR_RDYMAX_MAX g n else s
  s.trace g .ready cycle desc (if descCtr b = 0xFFFF then 0 else descCtr b) 0

/-- TW_FLAGS of a task from its instance (Table 5.3). -/
def State.taskFlags (s : State) (cycle : Nat) (x : CtrInst) (single : Bool) : Nat :=
  b2n (s.rb .RING_STAT_LAG) + 2 * b2n x.late + 4 * b2n single + 8 * b2n (s.r .SW_CYCLE_CYCLE == cycAdd cycle 1 && s.rb .SW_STAT_ARMED) +
    256 * (x.predFail % 4)

/-- The mapped segments of a counter in the mode of an input frame that have come in one copy only. -/
def State.singleCopy (s : State) (g ctr inst : Nat) : Bool :=
  s.arrMap.any (fun e => e.1 / 2048 == s.modeOf inst && e.2.contains (g, ctr) && (Tbl.get {} s.segIn (e.1 % 2048)).copies == 1)

/-- An armed instance that has reached zero makes its descriptor ready. -/
def State.zeroInst (s : State) (g ctr c : Nat) : State :=
  let x := s.inst g ctr c
  if x.armed && x.value == 0 then
    let inst := if s.rb .RING_STAT_LAG then cycAdd x.cycle (Config.cycleModulus - 1) else x.cycle
    let s := s.updInst g ctr c (fun y => { y with armed := false })
    let flags := s.taskFlags x.cycle x (s.singleCopy g ctr inst)
    (s.ownDigest g x.desc x.cycle inst flags ctr).makeReady g x.desc x.cycle inst flags x.arr
  else s

/-- Decrement an armed instance; at zero a decrement is ignored and sets CTR_EXTRA; an instance that is not armed ignores it
(R131, R132). -/
def State.decrement (s : State) (g ctr c : Nat) (f : CtrInst → CtrInst) : State :=
  let x := s.inst g ctr c
  if !x.armed then (if x.cycle == c && x.value == 0 && x.preds != 0 then s.wb .GR_STAT_CTR_EXTRA g true else s)
  else if x.value = 0 then s.wb .GR_STAT_CTR_EXTRA g true
  else (s.updInst g ctr c (fun y => f { y with value := y.value - 1 })).zeroInst g ctr c

/-- A successor field names a counter of any die, as die times 1,024 plus counter (Table 5.4 lets it cross dies; log 15). -/
def State.succ (s : State) (ctr c : Nat) (failed : Bool) : State :=
  if ctr = 0xFFFF then s
  else s.decrement (ctr / 1024 % 4) (ctr % 1024) c (fun x =>
    { x with predFail := x.predFail + (if failed then 2 ^ x.preds else 0), preds := x.preds + 1 })

/-- Decrement both successors of a task (R132, R134). -/
def State.succs (s : State) (b : List Byte) (c : Nat) (failed : Bool) : State :=
  (s.succ (descSucc0 b) c failed).succ (descSucc1 b) c failed

/-- The tick arms a counter's instance (R131). -/
def State.armInst (s : State) (g desc cycle : Nat) : State :=
  let ctr := descCtr (s.desc g desc)
  if ctr = 0xFFFF then s
  else
    let s := s.updInst g ctr cycle (fun _ => { armed := true, value := Tbl.get 0 s.reload (g * 1024 + ctr), cycle := cycle, desc := desc })
    s.zeroInst g ctr cycle

/-- The tick's part of a Grate: descriptors and counters change, instances are armed, and the delayed descriptors are listed by
DUE and index (R130, R131, R135). While the input lag holds, the instance of the next cycle is armed for the arrivals of this
frame (R132). -/
def State.grateTick (s : State) (cycle : Nat) : State :=
  let s := { s with
    descs := s.descsNext.foldl (fun t e => Tbl.set [] t e.1 e.2) s.descs, descsNext := []
    reload := s.reloadNext.foldl (fun t e => Tbl.set 0 t e.1 e.2) s.reload, reloadNext := [] }
  [0, 1, 2, 3].foldl (fun u g =>
    let ds := u.dieDescs g
    let now := ds.filter (fun d => partakes d.2 u.mode cycle)
    let arm := if u.rb .RING_STAT_LAG then cycAdd cycle 1 else cycle
    let u := (ds.filter (fun d => partakes d.2 u.mode arm)).foldl (fun v d => v.armInst g d.1 arm) u
    u.updGrate g (fun x => { x with
      delay := x.delay ++ orderBy (fun a b => a.due < b.due || (a.due == b.due && a.desc ≤ b.desc))
        ((now.filter (fun d => descDelayed d.2)).map (fun d => ({ due := descDue d.2, desc := d.1, cycle := cycle } : DelayEntry))) })) s

/-! Posting (R143). -/

/-- A core of a die runs a descriptor. -/
def State.running (s : State) (g desc : Nat) : Bool :=
  (List.range 16).any (fun k => match (s.core (g * 16 + k)).task with | some t => t.desc == desc | none => false)

/-- A post is refused (R143); a descriptor with a slot or a counter, or beyond the die's 4,096, cannot be posted (log 23). -/
def State.postRefused (s : State) (g desc : Nat) : Bool :=
  decide (4096 ≤ desc) || descSlot (s.desc g desc) || descCtr (s.desc g desc) != 0xFFFF ||
  decide (256 ≤ (s.grate g).listed (descPrio (s.desc g desc))) || (s.grate g).ready.any (fun e => e.desc == desc) || s.running g desc ||
    !descEnabled (s.desc g desc)

/-- A post: the descriptor becomes ready in the poster's cycle, or the refusal is flagged and counted. -/
def State.post (s : State) (g desc cycle : Nat) : State × Bool :=
  if s.postRefused g desc then
    (((s.wb .GR_STAT_REFUSED g true).inc .GR_REFUSED_COUNT g).trace g .refused cycle desc 0 0, false)
  else (s.makeReady g desc cycle cycle 0 0, true)

/-! The end of a task. -/

/-- Clear a core: registers, levels, loads and results go, and the core is idle (R121). The committed state view and the
program memory stay. -/
def Core.idle (x : Core) (now : Nat) : Core := { view := x.view, prog := x.prog, pc := x.pc, idleAt := now }

/-- The task leaves its core: busy time counts and the core is idle. -/
def State.leaveCore (s : State) (n : Nat) : State :=
  let s := match (s.core n).task with
    | some t => s.inc .LC_BUSY_CLOCKS n (s.clk - t.since)
    | none => s
  (s.updCore n (fun x => x.idle s.clk)).w .LC_STAT_STATE n 0

/-- The slot of an axis leaves empty in a frame, whatever the fault class (R31, R123). -/
def State.leaveEmpty (s : State) (a frame : Nat) : State := s.updAxis a (fun x => { x with noInhibit := some frame })

/-- One more consecutive late cycle of an axis (R31): at the limit it enters FC3, and inhibit is written from the frame after the
late one on. -/
def State.countLate (s : State) (a frame cause : Nat) : State :=
  let n := min 255 (s.r .AX_LATE_CONSEC a + 1)
  let s := s.w .AX_LATE_CONSEC a n
  if n = s.r .AX_LATE_LIMIT a then (s.leaveEmpty a frame).setFault a 3 .lateLimit (le 1 cause ++ [0, 0, 0]) cause else s

/-- One axis of a late task (R28, R31): its counts rise, and at the limit it enters FC3. In a synchronised twin pair the active
counts the cycle once the partner's SENT message has shown that neither head sent a valid command, and the standby takes its
classes from TICK (R365). -/
def State.lateAxis (s : State) (a frame cause : Nat) : State :=
  let s := s.inc (if cause = 0 then .AX_LATE_CNT_OVERRUN else .AX_LATE_CNT_MISSING) a
  let s := s.updAxis a (fun x => { x with lastLate := cause, sinceCommit := x.sinceCommit + 1 })
  if s.synced then
    (if s.isStandby then s else s.updTwin (fun t => { t with lateOwed := t.lateOwed ++ [(a, frame, cause)] }))
  else s.countLate a frame cause

/-- A late task (R28, R30): its slot stays empty, its axes count it, and SUCC_ON_FAIL acts (R134). Causes: 0 overrun, 1 input
miss. -/
def State.late (s : State) (b : List Byte) (cycle cause : Nat) : State :=
  let s := s.inc .CYC_LATE_TOTAL_COUNT
  let s := (s.taskAxes b cycle).foldl (fun u a => u.lateAxis a (cycAdd cycle 1) cause) s
  if descOnFail b then s.succs b cycle true else s

/-- The causes of Table 4.10. -/
inductive Trap where
  | illegal | slot | repDepth | repNest | repCount | addrRange | align | eccData | eccProg | cqFull | brk | vtIndex
  deriving DecidableEq, Repr

/-- The CAUSE value of a trap (Table 4.10). -/
def Trap.code (t : Trap) : Nat := t.ctorIdx + 1

/-- Take a trap (R123): the task ends at once and commits nothing, LC_TRAP names the cause and the PC, every axis of the task
enters FC3, the flow is free, successors act under R134, and the event names the core. -/
def State.trap (s : State) (n pc : Nat) (t : Trap) : State :=
  let g := n / 16
  let s := ((s.w .LC_TRAP_CAUSE n t.code).w .LC_TRAP_PC n pc).inc .LC_COUNT_TRAPS n
  match (s.core n).task with
  | none => s.leaveCore n
  | some k =>
    let axes := (s.taskAxes k.bytes k.cycle).take 4
    let s := s.trace g .trap k.cycle k.desc t.code (s.clk - k.since)
    let s := s.leaveCore n
    let s := axes.foldl (fun u a => (u.leaveEmpty a (cycAdd k.cycle 1)).setClass a 3 .loopTrap) s
    let s := s.raise .loopTrap (if axes = [] then 0xFF else 3) 9 n
      (le 1 t.code ++ [0] ++ le 2 pc ++ le 2 k.desc ++ le 1 g ++ le 1 axes.length ++ axes.flatMap (le 2)) (t.code + 256 * pc)
    if descOnFail k.bytes then s.succs k.bytes k.cycle true else s

end Sys2Proof.Machine
end

