-- ==== Sys2Proof/Machine/FeedbackOps.lean ====
section
/-! DEFINITION. Sys2Proof/Machine/FeedbackOps.lean: the feedback stage of the standard servo program (R150 to R171): interpolation, count
fusion, bridging, the index, Hall signals, speed, and the learnt corrections. -/

namespace Sys2Proof.Machine

/-! The feedback record (Table 6.3). -/

def State.fbu (s : State) (a off n : Nat) : Nat := s.ru .fb a off n
def State.fbInvert (s : State) (a : Nat) : Bool := bit (s.fbu a 0 1) 5
def State.fbIndexEn (s : State) (a : Nat) : Bool := bit (s.fbu a 0 1) 2
def State.fbHallEn (s : State) (a : Nat) : Bool := bit (s.fbu a 0 1) 3
def State.fbLines (s : State) (a : Nat) : Nat := s.fbu a 2 2

/-- A linear axis: a servo axis by its record, a virtual master by its own; steppers are rotary (R243). -/
def State.linear (s : State) (a : Nat) : Bool :=
  if a < 128 then bit (s.fbu a 0 1) 4 else if a < 640 then false else bit (s.ru .vm (a - 640) 0 1) 2

/-- Position LSB per unit U: 2^32 per turn, and 2^16 times 10^9 per metre (R3, the text after R212). -/
def State.lsbPerU (s : State) (a : Nat) : Nat := if s.linear a then 65536 * 1000000000 else 4294967296

/-- The axis has encoder feedback (R156). -/
def State.hasFeedback (s : State) (a : Nat) : Bool :=
  s.fbu a 0 1 % 4 == 1 && s.fbLines a != 0 && !(s.linear a && s.fbu a 4 4 == 0)

/-- Electrical periods per count, as a fraction (R165): none for an axis without an electrical angle. -/
def State.elRatio (s : State) (a : Nat) : Option (Nat × Nat) :=
  if s.linear a then (if s.fbu a 60 2 = 0 then none else some (1, s.fbu a 60 2))
  else if s.fbu a 1 1 = 0 then none else some (s.fbu a 1 1, s.fbLines a)

/-! Interpolation and fusion (R152 to R156). -/

/-- Angle and radius of raw codes under a calibration set. -/
def interpolate (cal : List Byte) (sn cs : Int) : Nat × Nat :=
  let os := fldI cal 0 4
  let oc := fldI cal 4 4
  let as := max 1 (fld cal 8 4)
  let ac := max 1 (fld cal 12 4)
  let psi := cosSin (ofSigned 32 (fldI cal 16 4))
  let s1 := sat (divRound ((sn * 256 - os) * 256 * 2 ^ 31) as)
  let c1 := sat (divRound ((cs * 256 - oc) * 256 * 2 ^ 31) ac)
  let c2 := sat (divRound (c1 * 2 ^ 48 + s1 * psi.2) psi.1.toNat)
  let v := cordicVec (BitVec.ofInt 32 c2) (BitVec.ofInt 32 s1)
  (v.2.toNat, v.1.toNat)
where
  /-- The Q1.31 range. -/
  sat (v : Int) : Int := clampInt (-(2 ^ 31)) (2 ^ 31 - 1) v

/-- The fused count, with 30 fraction bits, of an extended count and an angle, and whether fusion passes (R155). -/
def fuseCount (c : Int) (theta tol : Nat) : Int × Bool :=
  let u : Int := (theta : Int)
  let q : Int := (c % 4) * 2 ^ 30
  let d := wrapHalf (u - q) (2 ^ 32)
  (c * 2 ^ 30 + d, decide (-((tol : Int) * 2 ^ 22) ≤ d) && decide (d < 2 ^ 30 + (tol : Int) * 2 ^ 22))

/-- The raw position of a fused count (R156). -/
def State.rawPos (s : State) (a : Nat) (pc : Int) : Int :=
  let v := if s.linear a then divRound (pc * s.fbu a 4 4) (2 ^ 32) else divRound pc (s.fbLines a)
  if s.fbInvert a then -v else v

/-- A difference of fused counts over a time in 10 ns, as a speed in position LSB per second, rounded half up (R167). -/
def State.countSpeed (s : State) (a : Nat) (d : Int) (t10 : Nat) : Int :=
  let v := if s.linear a then divRound (d * s.fbu a 4 4 * 100000000) (2 ^ 32 * t10)
    else divRound (d * 100000000) (s.fbLines a * t10)
  if s.fbInvert a then -v else v

/-! Speed (R167 to R169). -/

/-- SPD_RES and SPD_WMAX. -/
def State.spdRes (s : State) (a : Nat) : Nat := s.fbu a 38 2 * 2 ^ 22
def State.spdWmax (s : State) (a : Nat) : Nat := s.fbu a 35 1

/-- Standstill: changes from the anchor are counted, and the second in one direction starts the speed (R168). -/
def Fb.standstill (x : Fb) (res n : Nat) (p : Int) : Fb :=
  let d := p - x.anchor
  if d.natAbs < res then x
  else
    let dir : Int := if d < 0 then -1 else 1
    if dir = x.changeDir then
      { x with anchor := p, still := false, winStart := x.changeCycle, travel := dir, extreme := p, extremeCycle := n }
    else { x with anchor := p, changeDir := dir, changeCycle := n }

/-- Travel: the extreme in the present direction, and a reversal once the position has come back from it (R169). -/
def Fb.track (x : Fb) (res n : Nat) (p : Int) : Fb :=
  let back := (x.extreme - p) * x.travel
  if back ≤ 0 then { x with extreme := p, extremeCycle := n }
  else if (res : Int) ≤ back then
    { x with winStart := x.extremeCycle, travel := -x.travel, extreme := p, extremeCycle := n }
  else x

/-- The history entry that the speed is taken from, and whether it is far enough away (R167). -/
def Fb.window (x : Fb) (res wmax n : Nat) (p : Int) : Option ((Nat × Int) × Bool) :=
  let age := min wmax (cycDiff n x.winStart)
  let inside := x.hist.filter (fun e => decide (cycDiff n e.1 ≤ age) && decide (0 < cycDiff n e.1))
  match inside.find? (fun e => decide (res ≤ (p - e.2).natAbs)) with
  | some e => some (e, true)
  | none => inside.getLast?.map (fun e => (e, false))

/-- The speed of an axis after a sample that is neither bridged nor late (R167, R168). -/
def State.speedStage (s : State) (a n : Nat) (p : Int) : State :=
  let res := s.spdRes a
  let wmax := s.spdWmax a
  let x0 := if (s.fb a).hist.isEmpty then { s.fb a with anchor := p } else s.fb a
  let x := if x0.still then x0.standstill res n p else x0.track res n p
  let full := decide (wmax ≤ cycDiff n x.winStart)
  let push (y : Fb) : Fb := { y with hist := ((n, p) :: y.hist).take 64 }
  if x.still then
    ((s.updFb a (fun _ => push { x with speed := 0 })).wb .FB_STAT_SPEED_VALID a false).w .FB_STAT_W a 0
  else
    match x.window res wmax n p with
    | some (e, far) =>
      if !far && full then
        ((s.updFb a (fun _ => push { x with still := true, anchor := p, changeDir := 0, speed := 0 })).wb .FB_STAT_SPEED_VALID a false).w
          .FB_STAT_W a (cycDiff n e.1)
      else
        let v := s.countSpeed a (p - e.2) (cycDiff n e.1 * s.r .CYC_PERIOD_PERIOD)
        ((s.updFb a (fun _ => push { x with speed := v })).wb .FB_STAT_SPEED_VALID a true).w .FB_STAT_W a (cycDiff n e.1)
    | none => s.updFb a (fun _ => push x)

/-! Commutation (R164 to R166). -/

/-- The sector of a Hall code in HALL_MAP. -/
def hallSector (rec : List Byte) (code : Nat) : Option Nat := (List.range 6).find? (fun k => fld rec (28 + k) 1 % 8 == code)

/-- An angle advanced from an anchor by the motion since. -/
def State.elAngle (s : State) (a : Nat) (base : Nat) (from_ p : Int) : Nat :=
  match s.elRatio a with
  | some (num, den) => ofSigned 32 ((base : Int) + divRound ((p - from_) * num) den)
  | none => 0

/-- IDX_REF as a fused count. -/
def State.idxRef (s : State) (a : Nat) : Int := (s.fbu a 16 4 : Int) * 2 ^ 22

/-- The electrical angle of a state of Table 6.1. -/
def State.thetaOf (s : State) (a : Nat) (p : Int) : Nat :=
  let x := s.fb a
  match s.r .FB_STAT_COMM_STATE a with
  | 0 => 0
  | 3 =>
    match x.alignAt, s.rb .FB_STAT_REFERENCED a with
    | some at_, false => s.elAngle a 0 at_ p
    | _, _ => s.elAngle a (s.fbu a 24 4) (s.idxRef a) p
  | _ => s.elAngle a x.commAngle x.commAt p

/-- REFERENCED is cleared, and with it the commutation state (R165). -/
def State.clearReferenced (s : State) (a : Nat) : State := (s.wb .FB_STAT_REFERENCED a false).w .FB_STAT_COMM_STATE a 0

/-- REFERENCED is set: an alignment anchor turns into COMM_OFS so that the angle does not step (R165, R189). -/
def State.setReferenced (s : State) (a : Nat) : State :=
  let s := match (s.fb a).alignAt, s.elRatio a with
    | some at_, some (num, den) =>
      (s.recSet .fb a (patch (s.cfg .fb a) 24 (le 4 (ofSigned 32 (divRound ((s.idxRef a - at_) * num) den))))).updFb a
        (fun x => { x with alignAt := none })
    | _, _ => s
  let s := s.wb .FB_STAT_REFERENCED a true
  if (s.elRatio a).isSome then s.w .FB_STAT_COMM_STATE a 3 else s

/-- The boundary between two neighbouring sectors, as an angle. -/
def sectorBoundary (old new : Nat) : Nat := (if new = (old + 1) % 6 then new else old) * 2 ^ 32 / 6

/-- Two sectors are neighbours. -/
def neighbours (i j : Nat) : Bool := j == (i + 1) % 6 || i == (j + 1) % 6

/-- An invalid Hall sample (R166). -/
def State.hallBad (s : State) (a : Nat) (e : Ev) : State :=
  let n := (s.fb a).hallBad + 1
  let s := ((s.updFb a (fun x => { x with hallBad := n })).inc .FB_CNT2_HALL_ERR a).raise e
  if s.fbu a 34 1 ≤ n ∧ !(s.axis a).causes.contains (.commFault, 3) then s.setFault a 3 .commFault else s

/-- The distance of two angles. -/
def angleGap (x y : Nat) : Nat := (wrapHalf ((x : Int) - y) (2 ^ 32)).natAbs

/-- The Hall stage of a sample (R164 to R166). -/
def State.hallStage (s : State) (a code : Nat) (p : Int) : State :=
  if !s.fbHallEn a then s
  else
    let rec_ := s.cfg .fb a
    match hallSector rec_ code with
    | none => s.hallBad a .hallInvalid
    | some k =>
      let x := s.fb a
      let good (t : State) : State := t.updFb a (fun y => { y with hallBad := 0, lastHall := k, hallSeen := true })
      let centre := (2 * k + 1) * 2 ^ 32 / 12
      if (s.elRatio a).isNone then good s
      else match s.r .FB_STAT_COMM_STATE a with
      | 0 => good ((s.w .FB_STAT_COMM_STATE a 1).updFb a (fun y => { y with commAngle := centre, commAt := p }))
      | 3 =>
        let th := s.thetaOf a p
        let cur := th * 6 / 2 ^ 32
        if k = cur then good s
        else
          let near := neighbours cur k && decide (angleGap th (sectorBoundary cur k) ≤ s.fbu a 36 2 * 65536)
          if near then good s else s.hallBad a .commMismatch
      | _ =>
        if !x.hallSeen || x.lastHall == k then good s
        else if neighbours x.lastHall k then
          good ((s.w .FB_STAT_COMM_STATE a 2).updFb a (fun y =>
            { y with commAngle := sectorBoundary x.lastHall k, commAt := p }))
        else s.hallBad a .commMismatch

/-! The index (R162, R163). -/

/-! Encoder emulators (R172, R173): record SRC 0, FLAGS 2, LINES 4, PERIOD_NM 6, MINSEP 8, LAGMAX 10, Z_POS 12. -/

def State.emu (s : State) (e : Nat) : Emu := Tbl.get {} s.emus e
def State.updEmu (s : State) (e : Nat) (f : Emu → Emu) : State := { s with emus := Tbl.modify {} s.emus e f }

/-- The scale of an emulator: counts per position LSB, as a fraction. -/
def State.emuScale (s : State) (e : Nat) : Int × Nat :=
  let b := s.cfg .emu e
  let g : Int := if bit (fld b 2 1) 0 then -1 else 1
  if s.linear (fld b 0 2) then (g * 4, max 1 (fld b 6 2) * 65536) else (g * 4 * fld b 4 2, 4294967296)

/-- The count at a numerator. -/
def State.emuAt (s : State) (e : Nat) (num : Int) : Int := num / ((s.emuScale e).2 : Int)

/-- Shift an emulator with its source's position, without emitting edges (R173). -/
def State.shiftEmus (s : State) (src : Nat) (d : Int) : State :=
  (List.range 4).foldl (fun u e =>
    if u.ru .emu e 0 2 = src ∧ u.ru .emu e 4 2 ≠ 0 then
      let k := d * (u.emuScale e).1
      let c := (u.emu e).count + (u.emuAt e ((u.emu e).target + k) - u.emuAt e (u.emu e).target)
      ((u.updEmu e (fun x => { x with start := x.start + k, target := x.target + k, next := x.next + k, count := c })).wb
        .EMU_STAT_SHIFTED e true).w .EMU_COUNT_COUNT e (ofSigned 32 c)
    else u) s

/-- Subtract a deviation from the count and the speed history. -/
def State.subtractCount (s : State) (a : Nat) (d : Int) : State :=
  s.updFb a (fun x => { x with
    trim := x.trim + d, fused := x.fused - d, hist := x.hist.map (fun e => (e.1, e.2 - d)), anchor := x.anchor - d
    extreme := x.extreme - d, commAt := x.commAt - d, alignAt := x.alignAt.map (· - d) })

/-- What an index at a fused count does (R163). -/
def State.indexAt (s : State) (a : Nat) (pi : Int) : State :=
  let lines := s.fbLines a
  if s.fbu a 16 4 = 0xFFFFFFFF then
    let ref := (divRound pi (2 ^ 22) % (1024 * lines : Nat)).toNat
    (s.recSet .fb a (patch (s.cfg .fb a) 16 (le 4 ref))).setReferenced a
  else
    let d := wrapHalf (pi - s.idxRef a) (4 * lines * 2 ^ 30)
    let s :=
      if d.natAbs ≤ s.fbu a 14 2 * 2 ^ 22 then
        let raw0 := s.rawPos a 0
        ((s.subtractCount a d).inc .FB_CNT2_IDX_TRIM a).shiftEmus a (raw0 - s.rawPos a d)
      else
        let s := s.inc .FB_CNT_IDX_MISMATCH a
        match s.fbu a 20 1 with
        | 1 =>
          let raw0 := s.rawPos a 0
          let s := ((s.warn a .encIndexMismatch).subtractCount a d).warn a .idxReref
          s.shiftEmus a (raw0 - s.rawPos a d)
        | 2 => s.setFault a 2 .encIndexMismatch
        | _ => s.warn a .encIndexMismatch
    if s.rb .FB_STAT_REFERENCED a then s else s.setReferenced a

/-- The index stage of a sample: its latch is recorded as processed, and checked where it is new, enabled and fused. -/
def State.indexStage (s : State) (a : Nat) (u : List Byte) (miss : Bool) : State :=
  let x := s.fb a
  let latch := (fld u 14 2, fld u 16 2, fld u 18 2)
  let isNew := bit (fld u 20 1) 3 || latch != x.index
  let s := s.updFb a (fun y => { y with index := latch, idxAt := none })
  if !isNew || miss || !s.fbIndexEn a then s
  else
    let ci := x.count + toSigned 16 (fld u 14 2 + 65536 - fld u 12 2)
    let (pi, ok) := fuseCount ci (interpolate (s.cfg .calTracked a) (fldI u 16 2) (fldI u 18 2)).1 (s.fbu a 12 1)
    if ok then (s.indexAt a (pi - x.trim)).updFb a (fun y => { y with idxAt := some (s.rawPos a (pi - y.trim) - y.offset) }) else s

/-! Envelopes (R159, R160, R187). -/

/-- Where an operating point lies: 0 within the envelope, 1 within the margins, 2 beyond either. -/
def envelope (load temp : Int) (useTemp : Bool) (lmin lmax tmin tmax lmargin tmargin : Int) : Nat :=
  let out (v lo hi m : Int) : Nat := if lo ≤ v ∧ v ≤ hi then 0 else if lo - m ≤ v ∧ v ≤ hi + m then 1 else 2
  max (out load lmin lmax lmargin) (if useTemp then out temp tmin tmax tmargin else 0)

/-- Load in 1/256 of rated torque, and the temperature in degrees. -/
def State.axisLoad (s : State) (a : Nat) : Int := (((s.servo a).tdem.natAbs / 65536 : Nat) : Int)
def State.tempC (s : State) (a : Nat) : Int := (s.fb a).temp / 16
def State.usesTemp (s : State) (a : Nat) : Bool := s.fbu a 40 1 != 0

/-- Write the load and temperature envelope of a set at its offsets. -/
def putEnvelope (b : List Byte) (off : Nat) (lmin lmax tmin tmax : Int) : List Byte :=
  patch b off (leInt 2 lmin ++ leInt 2 lmax ++ leInt 1 tmin ++ leInt 1 tmax)

/-- A signed step, free within a limit: a gradient whose arithmetic the manual bounds and does not state (log 5). -/
def freeStep (kind : Nat) (limit : Nat) (inputs : List Int) : Int := clampInt (-(limit : Int)) limit (Config.estimator kind inputs)

/-- One encoder-tracking update of a calibration set: steps of at most 1/256 code, 2^-20 of the value and 2^-24 turn
(R158). -/
def trackCal (b : List Byte) (g : Nat) (sn cs : Int) (r : Nat) : List Byte :=
  let i := [sn, cs, (r : Int), (g : Int)] ++ [fldI b 0 4, fldI b 4 4, (fld b 8 4 : Int), (fld b 12 4 : Int), fldI b 16 4]
  let put (c : List Byte) (off : Nat) (v : Int) : List Byte := patch c off (leInt 4 v)
  let b := put b 0 (fldI b 0 4 + freeStep 0 1 i)
  let b := put b 4 (fldI b 4 4 + freeStep 1 1 i)
  let b := put b 8 ((fld b 8 4 : Int) + freeStep 2 (fld b 8 4 / 2 ^ 20) i)
  let b := put b 12 ((fld b 12 4 : Int) + freeStep 3 (fld b 12 4 / 2 ^ 20) i)
  put b 16 (clampInt (-(2 ^ 28)) (2 ^ 28) (fldI b 16 4 + freeStep 4 256 i))

/-- The operating point of a sample against both parts of the tracked set's tag, with the policy of R160: a part beyond its
margins sets CAL_STALE, freezes the set (policy 0), or after CAL_SETTLE consecutive cycles widens (policy 1). -/
def State.calJudge (s : State) (a : Nat) : State :=
  let b := s.cfg .calTracked a
  let load := s.axisLoad a
  let temp := s.tempC a
  let lmin := (fld b 32 2 : Int); let lmax := (fld b 34 2 : Int)
  let tmin := fldI b 36 1; let tmax := fldI b 37 1; let cmin := fldI b 38 1; let cmax := fldI b 39 1
  let m := (s.fbu a 46 1 : Int)
  let enc := bit (fld b 40 1) 0 && envelope load temp (s.usesTemp a) lmin lmax tmin tmax (s.fbu a 44 2) m == 2
  let cur := bit (fld b 40 1) 1 && s.usesTemp a && envelope temp 0 false cmin cmax 0 0 m 0 == 2
  if !(enc || cur) then
    ((s.wb .FB_STAT_CAL_STALE a false).wb .FB_STAT_LEARN_HOLD a false).updFb a (fun x => { x with beyond := 0 })
  else
    let s := if s.rb .FB_STAT_CAL_STALE a then s else (s.wb .FB_STAT_CAL_STALE a true).warn a .calStale
    let s := s.wb .FB_STAT_LEARN_HOLD a (s.fbu a 21 1 == 0)
    let n := (s.fb a).beyond + 1
    if s.fbu a 21 1 = 0 then s.updFb a (fun x => { x with beyond := 0 })
    else if n < s.fbu a 56 4 then s.updFb a (fun x => { x with beyond := n })
    else
      let t (v w : Int) : Int := if s.usesTemp a then v else w
      let b := if enc then putEnvelope b 32 (min load lmin) (max load lmax) (t (min temp tmin) tmin) (t (max temp tmax) tmax) else b
      let b := if cur then patch b 38 (leInt 1 (min temp cmin) ++ leInt 1 (max temp cmax)) else b
      ((s.recSet .calTracked a b).updFb a (fun x => { x with beyond := 0 })).wb .FB_STAT_CAL_STALE a false

/-- The envelope of a set whose tag is not valid is the operating point of its first tracking update (R159): the encoder part. -/
def State.tagEncoder (s : State) (a : Nat) : State :=
  let b := s.cfg .calTracked a
  let load := s.axisLoad a
  let temp := s.tempC a
  if bit (fld b 40 1) 0 then s
  else s.recSet .calTracked a (patch (putEnvelope b 32 load load temp temp) 40 (le 1 (setBit (fld b 40 1) 0 true)))

/-- The same for the current-offset part, which is an envelope of temperature only. -/
def State.tagCurrent (s : State) (a : Nat) : State :=
  let b := s.cfg .calTracked a
  let temp := s.tempC a
  if bit (fld b 40 1) 1 then s
  else s.recSet .calTracked a (patch (patch b 38 (leInt 1 temp ++ leInt 1 temp)) 40 (le 1 (setBit (fld b 40 1) 1 true)))

/-- The speed lies between 1/256 and 1/8 of a signal period per cycle (R158). -/
def State.learnSpeed (s : State) (a : Nat) : Bool :=
  let v := (s.fb a).speed.natAbs * s.r .CYC_PERIOD_PERIOD
  let (per, k) := if s.linear a then (s.fbu a 4 4, 1) else (2 ^ 32, s.fbLines a)
  s.rb .FB_STAT_SPEED_VALID a && decide (per * 100000000 ≤ 256 * v * k) && decide (8 * v * k ≤ per * 100000000)

/-- Encoder tracking of a sample (R158 to R160). -/
def State.trackStage (s : State) (a : Nat) (sn cs : Int) (r : Nat) : State :=
  let g := s.fbu a 22 1
  if g = 0 ∨ !s.learnSpeed a ∨ s.rb .FB_STAT_LEARN_HOLD a then s
  else
    let s := s.tagEncoder a
    s.recSet .calTracked a (trackCal (s.cfg .calTracked a) g sn cs r)

/-! Current offsets (R170, R171). -/

/-- Hold an offset within 2,048 codes. -/
def clampOffset (v : Int) : Int := clampInt (-524288) 524288 v

/-- Write the three offsets, and warn where one was held at the limit. -/
def State.putOffsets (s : State) (a : Nat) (u v w : Int) : State :=
  let b := patch (s.cfg .calTracked a) 20 (leInt 4 (clampOffset u) ++ leInt 4 (clampOffset v) ++ leInt 4 (clampOffset w))
  let s := s.recSet .calTracked a b
  if clampOffset u = u ∧ clampOffset v = v ∧ clampOffset w = w then s else s.warn a .curOffsetRange

/-- The current-offset stage of a sample. -/
def State.offsetStage (s : State) (a : Nat) (u : List Byte) : State :=
  let g := s.fbu a 23 1
  let inh := bit (fld u 21 1) 7
  let s := s.updFb a (fun x => { x with inhibited := if inh then x.inhibited + 1 else 0 })
  if g = 0 ∨ s.rb .FB_STAT_LEARN_HOLD a then s
  else
    let b := s.cfg .calTracked a
    let three := bit (s.fbu a 47 1) 0
    let iu := fldI u 0 2 * 256
    let iv := fldI u 2 2 * 256
    let iw := fldI u 4 2 * 256
    let ou := fldI b 20 4; let ov := fldI b 24 4; let ow := fldI b 28 4
    let vmax := (s.fbu a 52 2 : Int) * (s.lsbPerU a / 256 : Nat)
    if inh then
      if s.fbu a 54 2 ≤ (s.fb a).inhibited ∧ ((s.fb a).still ∨ (s.rb .FB_STAT_SPEED_VALID a ∧ ((s.fb a).speed.natAbs : Int) ≤ vmax)) then
        (s.tagCurrent a).putOffsets a (ou + divRound (iu - ou) (2 ^ g)) (ov + divRound (iv - ov) (2 ^ g))
          (if three then ow + divRound (iw - ow) (2 ^ g) else ow)
      else s
    else if three then
      let d := divRound ((iu - ou) + (iv - ov) + (iw - ow)) (3 * 2 ^ (g + 4))
      (s.tagCurrent a).putOffsets a (ou + d) (ov + d) (ow + d)
    else s

/-- Phase currents in 2^-16 A (R170). -/
def State.currents (s : State) (a : Nat) (u : List Byte) : Int × Int × Int :=
  let b := s.cfg .calTracked a
  let k := (s.fbu a 48 4 : Int)
  let i (off o : Nat) : Int := divRound ((fldI u off 2 * 256 - fldI b o 4) * k) 256
  let iu := i 0 20
  let iv := i 2 24
  (iu, iv, if bit (s.fbu a 47 1) 0 then i 4 28 else -(iu + iv))

/-! The stage. -/

/-- The temperature of the envelopes (R159, R174): the thermal model, or an I/O segment; where that was not accepted the last
value stays. -/
def State.tempStage (s : State) (a : Nat) : State :=
  match s.fbu a 40 1 with
  | 1 => (s.updFb a (fun x => { x with temp := match (s.servo a).heat with | some h => h / 4096 | none => x.temp })).wb .FB_STAT_TEMP_OLD a false
  | 2 =>
    let g := Tbl.get {} s.segIn (s.fbu a 41 1 * 8 + 3)
    match g.of s.inputFrame with
    | some u => (s.updFb a (fun x => { x with temp := fldI u.2 (s.fbu a 42 2) 2 })).wb .FB_STAT_TEMP_OLD a false
    | none => s.wb .FB_STAT_TEMP_OLD a true
  | _ => s.wb .FB_STAT_TEMP_OLD a false

/-- A missed sample is bridged (R157): the position advances by the last valid speed times P, and the fused count from which
the angle is taken with it; the extended count stays. -/
def State.bridge (s : State) (a : Nat) : State :=
  let x := s.fb a
  let d := if s.rb .FB_STAT_SPEED_VALID a then divRound (x.speed * (s.r .CYC_PERIOD_PERIOD : Nat)) 100000000 else 0
  let k := if s.linear a then divRound (d * 2 ^ 32) (s.fbu a 4 4) else d * s.fbLines a
  let n := x.misses + 1
  let s := (s.updFb a (fun y => { y with pos := y.pos + d, fused := y.fused + (if s.fbInvert a then -k else k), misses := n })).wb
    .FB_STAT_BRIDGED a true
  let s := if s.fbu a 13 1 ≤ n ∧ !(s.axis a).causes.contains (.encFault, 3) then s.setFault a 3 .encFault else s
  s.updFb a (fun y => { y with theta := s.thetaOf a y.fused })

/-- The count of a sample (R154): extended by the difference from the last processed QCNT. -/
def State.countStage (s : State) (a q : Nat) : State :=
  let x := s.fb a
  if !x.seen then s.updFb a (fun y => { y with seen := true, lastQ := q, count := (q : Int), stepOk := true })
  else
    let d := toSigned 16 (q + 65536 - x.lastQ)
    let s := s.updFb a (fun y => { y with lastQ := q, count := y.count + d, stepOk := decide (d.natAbs ≤ 16383) })
    if d.natAbs ≤ 16383 then s
    else (((s.inc .FB_CNT3_OVERSPEED a).raise .encOverspeed 3 1 a).clearReferenced a).setClass a 3 .encFault

/-- The angle, the position and the commutation angle after a sample that passed. -/
def State.passStage (s : State) (a n : Nat) (u : List Byte) (late : Bool) (p : Int) (r : Nat) : State :=
  let s := (s.updFb a (fun x => { x with misses := 0, fused := p })).wb .FB_STAT_BRIDGED a false
  let s := s.indexStage a u false
  let p := (s.fb a).fused
  let s := s.hallStage a (fld u 20 1 % 8) p
  let s := if late then s else s.speedStage a n p
  let s := s.trackStage a (fldI u 8 2) (fldI u 10 2) r
  s.updFb a (fun x => { x with pos := s.rawPos a p - x.offset, theta := s.thetaOf a p })

/-- The feedback stage of an axis in a task of cycle `n` (R150): `u` is the block's uplink where a copy was accepted, `late`
its LATE_INSTANT flag. -/
def State.feedback (s : State) (a n : Nat) (u : Option (List Byte)) (late : Bool) : State :=
  let s := if (s.fb a).calFresh then (s.recSet .calTracked a (s.cfg .cal a)).updFb a (fun x => { x with calFresh := false }) else s
  let s := s.tempStage a
  if !s.hasFeedback a then s
  else
    match u with
    | none => s.bridge a
    | some u =>
      let s := (s.calJudge a).offsetStage a u
      if bit (fld u 20 1) 4 then (s.inc .FB_CNT_FUSION a).indexStage a u true |>.bridge a
      else
        let (th, r) := interpolate (s.cfg .calTracked a) (fldI u 8 2) (fldI u 10 2)
        if r * 128 < s.fbu a 10 1 * 2 ^ 30 ∨ s.fbu a 11 1 * 2 ^ 30 < r * 128 then
          (s.inc .FB_CNT3_AMP_ERR a).indexStage a u true |>.bridge a
        else
          let x := s.fb a
          let q := fld u 12 2
          let c := if x.seen then x.count + toSigned 16 (q + 65536 - x.lastQ) else (q : Int)
          let (pc, ok) := fuseCount c th (s.fbu a 12 1)
          if !ok then (s.inc .FB_CNT_FUSION a).indexStage a u true |>.bridge a
          else
            let s := s.countStage a q
            s.passStage a n u late (pc - (s.fb a).trim) r

end Sys2Proof.Machine
end

