-- ==== Sys2Proof/Machine/Feedback.lean ====
section
/-! DEFINITION. Sys2Proof/Machine/Feedback.lean: encoder emulation (R172, R173) and the feedback opcodes of Table 6.6. -/

namespace Sys2Proof.Machine

/-! Emulators. -/

/-- The position an emulator follows: a servo axis's committed position, otherwise the commanded position. -/
def State.srcPos (s : State) (a : Nat) : Int := if a < 128 then (s.fb a).pos else (s.motion a).p

/-- An emulator drives: LINES is not 0 and nothing holds it. -/
def State.emuRuns (s : State) (e : Nat) : Bool :=
  s.ru .emu e 4 2 != 0 && !s.rb .EMU_STAT_FAULT e && !s.rb .EMU_STAT_SRC_INVALID e

/-- Where the ramp from tick n+1 to tick n+2 stands now, as a count. -/
def State.emuIdeal (s : State) (e : Nat) : Int :=
  let x := s.emu e
  let p := max 1 (s.r .CYC_PERIOD_PERIOD * 8)
  s.emuAt e (x.start + (x.target - x.start) * (min p (s.clk - s.head.tickClk) : Nat) / (p : Int))

/-- Show the lag, and hold an emulator whose lag exceeds LAGMAX (R172). -/
def State.emuCheck (s : State) (e : Nat) : State :=
  let lag := (s.emuIdeal e - (s.emu e).count).natAbs
  let s := (s.wb .EMU_STAT_LAG e (decide (1 < lag))).w .EMU_STAT_LAG_CNT e (min 65535 lag)
  let s := if s.emuRuns e && decide (s.ru .emu e 10 2 < lag) then (s.wb .EMU_STAT_FAULT e true).raise .emuFault else s
  s.wb .EMU_STAT_RUN e (s.emuRuns e)

/-- Take the source's position without emitting edges, and clear FAULT (R173). -/
def State.emuRestart (s : State) (e : Nat) : State :=
  let num := s.srcPos (s.ru .emu e 0 2) * (s.emuScale e).1
  let c := s.emuAt e num
  let s := s.updEmu e (fun x => { x with start := num, target := num, next := num, count := c })
  ((s.wb .EMU_STAT_FAULT e false).w .EMU_COUNT_COUNT e (ofSigned 32 c)).emuCheck e

/-- A source has committed: it is the target from the next tick; a source that is bridged or in ENC_FAULT holds it. -/
def State.emuTarget (s : State) (src : Nat) : State :=
  let bad := decide (src < 128) && (s.rb .FB_STAT_BRIDGED src || (s.axis src).causes.contains (.encFault, 3))
  (List.range 4).foldl (fun u e =>
    if u.ru .emu e 0 2 = src ∧ u.ru .emu e 4 2 ≠ 0 then
      if bad then (u.wb .EMU_STAT_SRC_INVALID e true).wb .EMU_STAT_RUN e false
      else
        let num := u.srcPos src * (u.emuScale e).1
        (u.updEmu e (fun x => { x with next := num })).wb .EMU_STAT_SRC_INVALID e false
    else u) s

/-- A configuration of an emulator changes source or scale. -/
def emuRescales (old new : List Byte) : Bool := fld old 0 2 != fld new 0 2 || fld old 2 1 != fld new 2 1 || fld old 4 4 != fld new 4 4

/-- At a tick the ramps begin anew, and changed configurations take effect (R172, Table 6.6). -/
def State.emuTick (s : State) : State :=
  (List.range 4).foldl (fun u e =>
    let u := u.updEmu e (fun x => { x with start := x.target, target := x.next })
    let old := u.cfg .emu e
    let new := u.recLatest .emu e
    let u := u.recSet .emu e new
    if emuRescales old new then u.emuRestart e else u.emuCheck e) s

/-- EMU_EDGE (R172): an edge falls where the ramp has crossed a count and MINSEP has passed; with none due, nothing is
emitted and the lag is looked at. -/
def execEmuEdge (emu : Fin 4) (s : State) : Host.Outcome State Fault Refusal :=
  let e := emu.val
  let x := s.emu e
  let ideal := s.emuIdeal e
  if !s.emuRuns e || ideal == x.count || decide (s.clk < x.lastEdge + s.ru .emu e 8 2) then .next (s.emuCheck e)
  else
    let up := decide (x.count < ideal)
    let c := if up then x.count + 1 else x.count - 1
    let s := s.updEmu e (fun y => { y with count := c, phase := (if up then y.phase + 1 else y.phase + 3) % 4, lastEdge := s.clk })
    .next ((s.w .EMU_COUNT_COUNT e (ofSigned 32 c)).emuCheck e)

/-- The level of Z (R173): high in the one state of a rotary source in which the count stands at Z_POS. -/
def State.emuZ (s : State) (e : Nat) : Bool :=
  let b := s.cfg .emu e
  !s.linear (fld b 0 2) && fld b 4 2 != 0 && (s.emu e).count % (4 * fld b 4 2 : Nat) == (fld b 12 4 : Int)

/-- EMU_CONFIG_SET: the record takes effect at the next tick. -/
def execEmuConfigSet (p : Pkt) (s : State) : Host.Outcome State Fault Refusal :=
  let e := p.u 0 1
  let b := le 2 (p.u 2 2) ++ le 1 (p.u 1 1) ++ [0] ++ slice p.params 4 12
  .next (hostCmd 0x0210 p s
    { plen := p.len == 16, need := .lease, fwd := true,
      checks := [(decide (e < 4) && decide (p.u 1 1 < 2) && decide (p.u 2 2 < 648) && decide (1 ≤ p.u 6 2) && decide (8 ≤ p.u 8 2) &&
        decide (p.u 8 2 ≤ 8000) && decide (1 ≤ p.u 10 2) && (p.u 4 2 == 0 || decide (p.u 12 4 < 4 * p.u 4 2)), .badParam)] }
    fun s => (s.recNext .emu e b, []))

/-- EMU_RESTART. -/
def execEmuRestart (p : Pkt) (s : State) : Host.Outcome State Fault Refusal :=
  let e := p.u 0 1
  .next (hostCmd 0x0212 p s { plen := p.len == 1, need := .lease, checks := [(decide (e < 4), .badParam)] }
    fun s => (s.emuRestart e, []))

/-! Feedback opcodes. -/

/-- The node of an axis reports PS.INHIBIT. -/
def State.psInhibit (s : State) (a : Nat) : Bool := bit (s.r .SV_STAT_LAST_PS a) 7

/-- The axis is in FC3 or FC4, or its node reports PS.INHIBIT (R208). -/
def State.quiet (s : State) (a : Nat) : Bool := decide (3 ≤ s.fc a) || s.psInhibit a

/-- HALL_MAP holds six distinct codes, and neighbours, sector 5 beside sector 0 included, differ in exactly one bit (R164). -/
def hallMapOk (b : List Byte) : Bool :=
  let h (k : Nat) : Nat := fld b (28 + k % 6) 1
  (List.range 6).all (fun k => [1, 2, 4].contains (h k ^^^ h (k + 1))) &&
    (List.range 6).all (fun i => (List.range 6).all (fun j => i == j || h i != h j))

/-- A feedback record is within Table 6.3; zeros that keep the present value have been filled in. -/
def fbOk (b : List Byte) : Bool :=
  let u (o n : Nat) : Nat := fld b o n
  decide (u 0 1 % 4 < 2) && decide (u 0 1 < 64) && decide (u 1 1 ≤ 64) && decide (256 ≤ u 8 2) && decide (u 8 2 ≤ 32767) &&
    decide (u 10 1 < u 11 1) && decide (u 12 1 ≤ 128) && decide (1 ≤ u 13 1) && decide (1 ≤ u 14 2) &&
    (u 16 4 == 0xFFFFFFFF || decide (u 16 4 < 1024 * u 2 2)) && decide (u 20 1 ≤ 2) && decide (u 21 1 ≤ 1) &&
    (u 22 1 == 0 || (decide (8 ≤ u 22 1) && decide (u 22 1 ≤ 24))) && (u 23 1 == 0 || (decide (6 ≤ u 23 1) && decide (u 23 1 ≤ 16))) &&
    (List.range 6).all (fun k => decide (u (28 + k) 1 < 8)) && (!bit (u 0 1) 3 || hallMapOk b) && decide (1 ≤ u 34 1) && decide (1 ≤ u 35 1) && decide (u 35 1 ≤ 64) &&
    decide (u 36 2 ≤ 5461) && decide (1 ≤ u 38 2) && decide (u 40 1 ≤ 2) && decide (u 41 1 ≤ 254) &&
    (u 40 1 != 2 || decide (1 ≤ u 41 1)) && u 42 2 % 2 == 0 && decide (u 47 1 ≤ 1) && decide (1 ≤ u 48 4) && decide (1 ≤ u 54 2) &&
    decide (1 ≤ u 56 4) && zeroBytes b 62 2

/-- The fields of R175 that change only on a quiet axis: offset and length. -/
def fbGuarded : List (Nat × Nat) := [(0, 1), (1, 1), (2, 2), (4, 4), (8, 2), (24, 4), (28, 6), (60, 2), (47, 1), (48, 4)]

/-- SRC stands in bits [1:0] of its byte; the other flags of that byte are free to change. -/
def fbGuardedSame (old new : List Byte) : Bool :=
  fld old 0 1 % 4 == fld new 0 1 % 4 && (fbGuarded.drop 1).all (fun f => slice old f.1 f.2 == slice new f.1 f.2)

/-- FB_CONFIG_SET (R175). -/
def execFbConfigSet (p : Pkt) (s : State) : Host.Outcome State Fault Refusal :=
  let a := p.u 0 1
  let old := s.recLatest .fb a
  let b := [(13, 1), (34, 1), (35, 1), (54, 2), (56, 4)].foldl (fun r f => keepZero old r f.1 f.2) (slice p.params 4 64)
  .next (hostCmd 0x0201 p s
    { plen := p.len == 68, need := .owns (decide (a < 128)) [a], fwd := true,
      checks := [(zeroBytes p.params 1 3 && fbOk b, .badParam),
        (fbGuardedSame old b || s.fc a == 3 || s.psInhibit a, .badState)] }
    fun s => (s.recNext .fb a b, []))

/-- FB_CONFIG_GET. -/
def execFbConfigGet (p : Pkt) (s : State) : Host.Outcome State Fault Refusal :=
  let a := p.u 0 1
  .next (hostCmd 0x0202 p s { plen := p.len == 1, checks := [(decide (a < 128), .badParam)] } fun s => (s, s.cfg .fb a))

/-- The tracked calibration set, which is the stored one until the axis's first task (R159). -/
def State.trackedCal (s : State) (a : Nat) : List Byte := if (s.fb a).calFresh then s.cfg .cal a else s.cfg .calTracked a

/-- FB_CAL_GET. -/
def execFbCalGet (p : Pkt) (s : State) : Host.Outcome State Fault Refusal :=
  let a := p.u 0 1
  .next (hostCmd 0x0203 p s { plen := p.len == 2, checks := [(decide (a < 128) && decide (p.u 1 1 < 2), .badParam)] }
    fun s => (s, if p.u 1 1 = 0 then s.trackedCal a else s.cfg .cal a))

/-- A calibration set is within Table 6.4. -/
def calOk (b : List Byte) : Bool :=
  fld b 8 4 != 0 && fld b 12 4 != 0 && decide ((fldI b 16 4).natAbs ≤ 2 ^ 28) && decide (fld b 40 1 < 4) && zeroBytes b 41 7

/-- FB_CAL_SET: the stored set from the next tick, and the tracked set with it. -/
def execFbCalSet (p : Pkt) (s : State) : Host.Outcome State Fault Refusal :=
  let a := p.u 0 1
  let b := slice p.params 4 48
  .next (hostCmd 0x0204 p s
    { plen := p.len == 52, need := .owns (decide (a < 128)) [a], fwd := true,
      checks := [(decide (p.u 1 1 < 2) && zeroBytes p.params 2 2 && calOk b, .badParam), (s.fc a == 3 || s.psInhibit a, .badState)] }
    fun s => ((((s.recNext .cal a b).recNext .calTracked a b).recFlash .cal a b (bit (p.u 1 1) 0)).updFb a (fun x => { x with calFresh := false }), []))

/-- FB_CAL_SAVE (R161). -/
def execFbCalSave (p : Pkt) (s : State) : Host.Outcome State Fault Refusal :=
  let a := p.u 0 1
  .next (hostCmd 0x0205 p s
    { plen := p.len == 2, need := .owns (decide (a < 128)) [a], fwd := true, checks := [(decide (p.u 1 1 < 2), .badParam)] }
    fun s => ((s.recSet .cal a (s.trackedCal a)).recFlash .cal a (s.trackedCal a) (bit (p.u 1 1) 0), []))

/-- FB_INDEX_REF_SET: IDX_REF from the next tick, and REFERENCED is clear until the next index. -/
def execFbIndexRefSet (p : Pkt) (s : State) : Host.Outcome State Fault Refusal :=
  let a := p.u 0 1
  let ref := p.u 4 4
  .next (hostCmd 0x0207 p s
    { plen := p.len == 8, need := .owns (decide (a < 128)) [a], fwd := true,
      checks := [(zeroBytes p.params 1 3 && (ref == 0xFFFFFFFF || decide (ref < 1024 * s.fbLines a)), .badParam)] }
    fun s => ((s.recNext .fb a (patch (s.recLatest .fb a) 16 (le 4 ref))).clearReferenced a, []))

end Sys2Proof.Machine
end

