-- ==== Sys2Proof/Machine/Flags.lean ====
section
/-! DEFINITION. Sys2Proof/Machine/Flags.lean: the status of a loop core: SR and TS (R99, R100), saturation of 32-bit results and of
exponents, and the saturation and lock of an accumulator (R108). -/

namespace Sys2Proof.Machine

/-- SR with RDEPTH (Table 4.3). -/
def Core.srFull (x : Core) : Nat := setBits x.sr 12 11 x.reps.length

/-- Set bits of a word. -/
def orBits (v m : Nat) : Nat := v ||| m

/-- A 32-bit result has saturated: SR.SAT and TS.SAT. -/
def Core.setSat (y : Core) : Core := { y with sr := orBits y.sr 0x100, ts := orBits y.ts 2 }

/-- An exponent has saturated or been clamped: SR.EOV and TS.EOV. -/
def Core.setEov (y : Core) : Core := { y with sr := orBits y.sr 0x200, ts := orBits y.ts 4 }

/-- An accumulator has saturated at its 80-bit limit: its OVG and SATL bits and TS.OVG, and the lock is set under the levels now
open. -/
def Core.setOvg (y : Core) (a : Nat) : Core :=
  { y with sr := orBits y.sr (2 ^ a + 2 ^ (4 + a)), ts := orBits y.ts 1, locks := Tbl.set 0 y.locks a y.reps.length }

/-- SATL of an accumulator, as the present instruction sees it: a MOVTC to SR reaches the one after the next (Table 4.8). -/
def Core.locked (x : Core) (a : Nat) : Bool :=
  bit (match x.movtc, x.oldSr with
    | true, some v => v
    | _, _ => x.sr) (4 + a)

/-- Clear the lock of an accumulator (R108). -/
def Core.unlock (y : Core) (a : Nat) : Core := { y with sr := setBit y.sr (4 + a) false, locks := Tbl.set 0 y.locks a 0 }

/-- Clear every lock that was set under a level that is no longer open (R108). -/
def Core.unlockClosed (y : Core) : Core :=
  [0, 1, 2, 3].foldl (fun z a => if y.reps.length < Tbl.get 0 z.locks a then z.unlock a else z) y

/-- Saturate to the 32-bit signed range. -/
def sat32 (v : Int) : Int := clampInt (-(2 ^ 31)) (2 ^ 31 - 1) v

/-- The 80-bit limits. -/
def sat80 (v : Int) : Int := clampInt (-(2 ^ 79)) (2 ^ 79 - 1) v

/-- Write a data register: the next instruction sees the new value. -/
def Core.setD (y : Core) (i : Nat) (v : W32) : Core := { y with d := Tbl.set 0 y.d i v }

/-- Write a data register that the next instruction still sees old (Table 4.8). -/
def Core.setDLate (y : Core) (i : Nat) (v : W32) : Core :=
  { y.setD i v with oldD := (i, Tbl.get 0 y.d i) :: y.oldD }

/-- Write a saturated result. -/
def Core.setDSat (y : Core) (i : Nat) (v : Int) : Core :=
  let y := y.setD i (BitVec.ofInt 32 (sat32 v))
  if sat32 v = v then y else y.setSat

/-- Write an accumulator with saturation at the 80-bit limits (R108); moves out of it see the old value next (Table 4.8). -/
def Core.setAc (y : Core) (a : Nat) (v : Int) : Core :=
  let z := { y with ac := Tbl.set 0 y.ac a (BitVec.ofInt 80 (sat80 v)), oldAc := (a, Tbl.get 0 y.ac a) :: y.oldAc }
  if sat80 v = v then z else z.setOvg a

/-- An accumulating instruction leaves a locked accumulator as it is (R108). -/
def Core.accumulate (x y : Core) (a : Nat) (v : Int) : Core := if x.locked a then y else y.setAc a v

/-- CLRAC, MPY, MPY2 and MVDA clear the lock as they write (R108). -/
def Core.overwrite (y : Core) (a : Nat) (v : Int) : Core := (y.unlock a).setAc a v

/-- Write an exponent register, X saturating at -128 and +127 (R113). -/
def Core.setE (y : Core) (k : Nat) (x : Int) (h : Nat) : Core :=
  let c := clampInt (-128) 127 x
  let z := { y with e := Tbl.set {} y.e k { x := c, h := h } }
  if c = x then z else z.setEov

end Sys2Proof.Machine
end

