-- ==== Sys2Proof/Machine/Operands.lean ====
section
/-! DEFINITION. Sys2Proof/Machine/Operands.lean: the operand forms of a loop core: register reads through the old-value windows of
Table 4.8, the fields of an instruction word (Table 4.6), the two addressing modifiers (R106), and the walk over
instruction lengths in program memory. -/

namespace Sys2Proof.Machine

/-- The entry of a list by its key. -/
def lookupOld {α : Type} (l : List (Nat × α)) (i : Nat) (now : α) : α :=
  match l.find? (fun e => e.1 == i) with
  | some e => e.2
  | none => now

/-- A data register, as the present instruction reads it. -/
def Core.rd (x : Core) (i : Nat) : W32 := lookupOld x.oldD i (Tbl.get 0 x.d i)

/-- A data register as a signed number. -/
def Core.rdI (x : Core) (i : Nat) : Int := (x.rd i).toInt

/-- An address register used as an address. -/
def Core.addrReg (x : Core) (i : Nat) : W32 := lookupOld x.oldA i (Tbl.get 0 x.a i)

/-- A modifier register. -/
def Core.modReg (x : Core) (i : Nat) : W32 := lookupOld x.oldM i (Tbl.get 0 x.m i)

/-- An accumulator read or written by an accumulator instruction. -/
def Core.acc (x : Core) (a : Nat) : Int := (Tbl.get 0 x.ac a).toInt

/-- An accumulator as the source of a move. -/
def Core.accOut (x : Core) (a : Nat) : Acc := lookupOld x.oldAc a (Tbl.get 0 x.ac a)

/-- An exponent register. -/
def Core.expo (x : Core) (k : Nat) : ExpReg := Tbl.get {} x.e k

/-- Write an address register that addressing in the next instruction still sees old. -/
def Core.setALate (y : Core) (i : Nat) (v : W32) : Core :=
  { y with a := Tbl.set 0 y.a i v, oldA := (i, Tbl.get 0 y.a i) :: y.oldA }

/-- Post-modify and pre-modify: the next instruction sees the new address. -/
def Core.setA (y : Core) (i : Nat) (v : W32) : Core := { y with a := Tbl.set 0 y.a i v }

/-- Write a modifier register that the next instruction still sees old. -/
def Core.setMLate (y : Core) (i : Nat) (v : W32) : Core :=
  { y with m := Tbl.set 0 y.m i v, oldM := (i, Tbl.get 0 y.m i) :: y.oldM }

/-- A field [hi:lo] of an instruction word. -/
def field {n : Nat} (w : BitVec n) (hi lo : Nat) : Nat := bits w.toNat hi lo

/-- A signed field. -/
def fieldI {n : Nat} (w : BitVec n) (hi lo : Nat) : Int := toSigned (hi + 1 - lo) (field w hi lo)

/-- Every field that the instruction does not use is zero (R115). -/
def zeroFields {n : Nat} (w : BitVec n) (l : List (Nat × Nat)) : Bool := l.all (fun e => field w e.1 e.2 == 0)

/-- The smallest power of two that is at least a number. -/
def pow2At (n : Nat) : Nat → Nat → Nat
  | 0, p => p
  | k + 1, p => if n ≤ p then p else pow2At n k (2 * p)

/-- mod(A, M) of R106: linear with LEN 0, else circular in a buffer that starts at a multiple of a power of two. -/
def modAddr (a m : W32) : W32 :=
  let inc := toSigned 16 (bits m.toNat 15 0)
  let len := bits m.toNat 31 16
  if len = 0 then BitVec.ofInt 32 (a.toInt + inc)
  else
    let len4 := len / 4 * 4
    if len4 = 0 then Config.oddCircular a m
    else
      let p := pow2At len4 16 1
      let off := a.toNat % p
      BitVec.ofInt 32 ((a.toNat - off : Nat) + ((off : Int) + inc) % (len4 : Int))

/-! Instruction lengths. -/

/-- A word of program memory, through the bank bit (R419). -/
def Core.word (x : Core) (pc : Nat) : W32 := Tbl.get 0 x.prog (pc ^^^ (x.bank * 8192))

/-- The number of words of the instruction whose first word stands at an address (R115): two for format 0xA. -/
def Core.wordsAt (x : Core) (pc : Nat) : Nat := if bits (x.word pc).toNat 31 28 = 0xA then 2 else 1

/-- The last word of the second of two instructions from an address on: the delay slots of R118. -/
def Core.slotsLast (x : Core) (pc : Nat) : Nat :=
  let p := pc + x.wordsAt pc
  p + x.wordsAt p - 1

/-- Whether, walking instructions from an address, one of two words begins at `last`; and how many instructions the body to
`last` holds. -/
def Core.walkBody (x : Core) (last : Nat) : Nat → Nat → Nat → Bool × Nat
  | 0, _, n => (false, n)
  | fuel + 1, pc, n =>
    if last < pc then (false, n)
    else if pc = last then (x.wordsAt pc == 2, n + 1)
    else x.walkBody last fuel (pc + x.wordsAt pc) (n + 1)

/-- A repeat body holds fewer than three instructions (R122). -/
def RepLevel.short (l : RepLevel) (x : Core) : Bool := (x.walkBody l.last (l.last + 1 - l.start) l.start 0).2 < 3

end Sys2Proof.Machine
end

