-- ==== Sys2Proof/Machine/Params.lean ====
section
/-! DEFINITION. Sys2Proof/Machine/Params.lean: the parameter view of a task window (Table 7.1 and the text after R248). -/

namespace Sys2Proof.Machine

/-- A mark in 1.25 ns from the tick of the input frame (Table 8.9); its rounding is not stated (log 12). -/
def State.markClk (s : State) (t : Nat) : Int :=
  let d : Int := (t : Int) - s.head.tickTb + (if s.inputFrame = s.cycle then 0 else t10 (s.sched s.head.prevMode).period)
  d / 81920 + (if d % 81920 = 0 then 0 else Config.profile [11, d] % 2)

/-- The mark area (Table 8.9). -/
def State.markArea (s : State) (a : Nat) : List Byte :=
  let l := (Tbl.get [] s.marksIn a).take 4
  le 1 l.length ++ [0, 0, 0] ++ slice (l.flatMap (fun t => leInt 4 (s.markClk t))) 0 16 ++ [0, 0, 0, 0]

/-- A byte of the parameter view of a servo axis (Table 7.1): the view's parts with their offsets. -/
def State.servoParam (s : State) (a addr blk off : Nat) : Byte :=
  let part (base : Nat) (b : List Byte) : Option Byte := if base ≤ off then b[off - base]? else none
  ((part 0 (s.cfg .fb a)).orElse fun _ => (part 0x40 (s.cfg .servo a)).orElse fun _ => (part 0x80 (s.cfg .motor a)).orElse fun _ =>
    (part 0xC0 (s.cfg .ps a)).orElse fun _ => (part 0x100 (slice (Tbl.get [] s.sentHist (blockKey addr 1 blk)) 0 64)).orElse fun _ =>
    (part 0x180 (s.cfg .vt a)).orElse fun _ => (part 0x200 (s.cfg .selMap a)).orElse fun _ => (part 0x260 (s.cfg .vtb0 a)).orElse fun _ =>
    (part 0x400 (s.cfg .motion a)).orElse fun _ => (part 0x480 (s.cfg .follower a)).orElse fun _ => part 0x4C0 (s.markArea a)).getD 0

/-- A byte of the parameter view of a stepper task: its local axes in block order and then by round. -/
def State.stepParam (s : State) (b : List Byte) (off : Nat) : Byte :=
  let k := (off - 0x400) / 0x100
  let o := off % 0x100
  match (s.sched s.mode).seg (descAddr b) 2 with
  | none => 0
  | some g =>
    if off < 0x400 ∨ descNblk b * g.pc ≤ k then 0
    else
      match s.stepAxis (descAddr b) (k / max 1 (descNblk b) * g.pa + descBlk b + k % max 1 (descNblk b)) with
      | none => 0
      | some a =>
        if o < 0x80 then (s.cfg .motion a).getD o 0
        else if o < 0xC0 then (s.cfg .follower a).getD (o - 0x80) 0
        else (s.cfg .stepper (a - 128)).getD (o - 0xC0) 0

/-- A byte of the parameter view of a task; a task without an axis reads zero. -/
def State.paramByte (s : State) (b : List Byte) (off : Nat) : Byte :=
  if !descSlot b then 0
  else if descType b = 1 then
    match s.servoAxis (descAddr b) (descBlk b) with
    | some a => s.servoParam a (descAddr b) (descBlk b) off
    | none => 0
  else if descType b = 2 then s.stepParam b off
  else 0

end Sys2Proof.Machine
end

