-- ==== Sys2Proof/Machine/CoreOps.lean ====
section
/-! DEFINITION. Sys2Proof/Machine/CoreOps.lean: how a loop core issues an instruction: what holds it, the checks of its memories
(R105), interlocked unit results (R117), the program counter with delay slots and repeats (R118, R119), the slot cutoff of
a task (R144), and the data address map (R101 to R104). -/

namespace Sys2Proof.Machine

/-! The cutoff of a task (R144). -/

/-- The mode whose layout the task's frame has: the new mode's where the cycle is the last before an armed switch. -/
def State.frameMode (s : State) (cycle : Nat) : Nat :=
  if s.rb .SW_STAT_ARMED && s.r .SW_CYCLE_CYCLE == cycAdd cycle 1 then s.r .SW_STAT_NEXT_SM else s.mode

/-- The slot of a task in the frame it commits into. -/
def State.slotSeg (s : State) (b : List Byte) (cycle : Nat) : Option Seg := (s.sched (s.frameMode cycle)).slot b

/-- The cutoff of a task in clocks from its tick. -/
def State.cutoffOf (s : State) (b : List Byte) (cycle : Nat) : Int :=
  (s.periodOf cycle * 8 : Int) + match s.slotSeg b cycle with
    | some g => s.cutoffClk g
    | none => -160

/-! Issue. -/

/-- The core after a cleared old-value window: what the next instruction will start from. -/
def Core.fresh (x : Core) : Core :=
  { x with oldD := [], oldA := [], oldM := [], oldAc := [], oldSr := none, oldLr := none, oldVtb := [], oldTctl := none,
           movtc := false }

/-- An old-value window is open (R122). -/
def Core.window (x : Core) : Bool :=
  !(x.oldD.isEmpty && x.oldA.isEmpty && x.oldM.isEmpty && x.oldAc.isEmpty && x.oldSr.isNone && x.oldLr.isNone &&
    x.oldVtb.isEmpty && x.oldTctl.isNone)

/-- A HALT request is not held off (R122). -/
def Core.canHalt (x : Core) : Bool :=
  x.slots == 0 && !x.window && x.load.isNone && x.units.isEmpty && !x.reps.any (fun l => l.short x)

/-- The core issues instructions: it runs a task, does not wait for shared SRAM, its TEND has not issued, and no HALT request
is due. -/
def State.issues (s : State) (n : Nat) : Bool :=
  let x := s.core n
  s.r .LC_STAT_STATE n == 1 && x.task.isSome && x.load.isNone && !x.ended && !(x.haltReq && x.canHalt)

/-- Write a unit result to its destinations, with the SR and TS bits it sets. -/
def Core.settle (x : Core) (u : UnitResult) : Core :=
  let y := u.dst.foldl (fun z e => z.setD e.1 e.2) x
  { y with sr := orBits (if u.cvec then setBit y.sr 10 false else y.sr) u.setSr, ts := orBits y.ts u.setTs }

/-- The core stalls until the unit results that an instruction's registers wait for are written (R117). -/
def Core.interlock (x : Core) (touch : List Nat) : Core :=
  let hit (u : UnitResult) : Bool := u.dst.any (fun e => touch.contains e.1)
  let y := x.units.foldl (fun z u => if hit u then z.settle u else z) x
  { y with units := y.units.filter (fun u => !hit u) }

/-- Close repeat levels until `keep` are left, with the locks set under them (R119, R108). -/
def Core.closeTo (y : Core) (keep : Nat) : Core := ({ y with reps := y.reps.take keep }).unlockClosed

/-- How many of the open levels, outermost first, hold an address in their body. -/
def levelsAround (pc : Nat) : List RepLevel → Nat
  | [] => 0
  | l :: ls => if l.start ≤ pc ∧ pc ≤ l.last then levelsAround pc ls + 1 else 0

/-- A taken branch reaches its target: levels whose body does not hold it close (Table 4.9). -/
def Core.jump (y : Core) (t : Nat) : Core := { y.closeTo (levelsAround t y.reps) with pc := t }

/-- Continue after a word: at the end of the innermost body the level loops back or closes, and then the enclosing one is
looked at (R119). -/
def Core.after (last : Nat) : Nat → Core → Core
  | 0, y => { y with pc := (last + 1) % 16384 }
  | fuel + 1, y =>
    match y.reps.getLast? with
    | some l =>
      if l.last = last then
        if 1 < l.count then { y with reps := y.reps.dropLast ++ [{ l with count := l.count - 1 }], pc := l.start }
        else Core.after last fuel (y.closeTo (y.reps.length - 1))
      else { y with pc := (last + 1) % 16384 }
    | none => { y with pc := (last + 1) % 16384 }

/-- Advance past an instruction of `len` words at `pc`, which was in a delay slot where `slots` of the core before it were left. A
repeat with count 0 leaves the last word of its body as the target without a delay slot, and execution continues after it. -/
def Core.advance (y : Core) (pc slots len : Nat) : Core :=
  if slots = 0 then
    match y.slots, y.target with
    | 0, some last => ({ y with target := none }).after last 3
    | _, _ => y.after (pc + len - 1) 3
  else
    match slots, y.target with
    | 1, some t => ({ y with slots := 0, target := none }).jump t
    | _, _ => ({ y with slots := slots - 1 }).after (pc + len - 1) 3

/-- The flags as the next instruction's BFS and BFC see them (Table 4.8). -/
def Core.closeIssue (x y : Core) : Core := if y.srFull = x.srFull then y else { y with oldSr := some x.srFull }

/-- What an instruction does: from the block and the core before it, and the core with its old-value windows cleared. -/
abbrev Body := State → Core → Core → Except Trap (State × Core)

/-- Program memory holds these words from the program counter on. -/
def Core.holds (x : Core) : Nat → List W32 → Bool
  | _, [] => true
  | pc, w :: ws => x.word pc == w && x.holds (pc + 1) ws

/-- Issue an instruction of these words (R98 to R123). `mem` tells that it reads a data memory, `slotOk` that a delay slot may
hold it, `touch` names the data registers it reads or writes. Where the core issues nothing, or program memory holds another instruction
at its program counter, nothing happens (log 17); where it holds no instruction there, that is the trap ILLEGAL (R115). -/
def State.issue (s : State) (k : Issue) (words : List W32) (touch : List Nat) (mem slotOk legal : Bool) (body : Body) : State :=
  let n := k.core.val
  if !s.issues n then s
  else
    let x0 := s.core n
    let named := (LoopOp.ofWord (x0.word x0.pc)).isSome
    if k.ecc ≠ .progError && named && !x0.holds x0.pc words then s
    else
    let s := s.w .LC_STAT_PC n x0.pc
    if k.ecc = .progError then (s.inc .LC_ECC_UNCORR n).trap n x0.pc .eccProg
    else
      let s := if k.ecc = .corrected then s.inc .LC_ECC_CORR n else s
      if !(named && legal) then s.trap n x0.pc .illegal
      else if !slotOk && x0.slots != 0 then s.trap n x0.pc .slot
      else if k.ecc = .dataError ∧ mem then (s.inc .LC_ECC_UNCORR n).trap n x0.pc .eccData
      else
      let x1 := if k.ecc = .corrected then { x0 with ts := orBits x0.ts 8 } else x0
      let x := x1.interlock touch
      match body s x x.fresh with
      | .error t => s.trap n x0.pc t
      | .ok (t, y) => t.updCore n (fun _ => (x.closeIssue y).advance x.pc x.slots words.length)

/-- An instruction on registers alone. -/
def regBody (f : Core → Core → Core) : Body := fun s x y => .ok (s, f x y)

/-- Issue a one-word instruction on registers alone. -/
def State.issueReg {n : Nat} (s : State) (k : Issue) (o : LoopOp) (w : BitVec n) (touch : List Nat) (legal : Bool)
    (f : Core → Core → Core) (imm : Bool := false) : State :=
  s.issue k [o.word imm w] touch false true legal (regBody f)

/-! Data memory. -/

/-- The regions of Table 4.4. -/
inductive Region where
  | scratch | view | shared | window
  deriving DecidableEq, Repr

/-- The region of an address, and the offset in it. -/
def regionOf (a : Nat) : Option (Region × Nat) :=
  if a < 0x10000 then some (.scratch, a)
  else if a < 0x18000 then some (.view, a - 0x10000)
  else if 0x400000 ≤ a ∧ a < 0x800000 then some (.shared, a - 0x400000)
  else if 0x800000 ≤ a ∧ a < 0x810000 then some (.window, a - 0x800000)
  else none

/-- A byte of the state view as the task reads it: the working copy of a line it has written, else the committed copy (R103). -/
def Core.viewByte (x : Core) (o : Nat) : Byte := if x.lines.contains (o / 32) then x.work.read o else x.view.read o

/-- The head of the task window: cycle, descriptor, instant, flags, post, post status and arrival (Table 5.3). -/
def Core.windowHead (x : Core) (t : Task) : List Byte :=
  le 4 t.cycle ++ le 2 t.desc ++ le 2 t.inst ++ le 4 t.flags ++ le 4 0 ++ le 4 (b2n x.postRefused) ++ le 4 t.arr

/-- A byte of the task window (Table 5.3). The bytes that the table does not name between its areas read zero (log 18). -/
def State.windowByte (s : State) (x : Core) (o : Nat) : Byte :=
  match x.task with
  | none => 0
  | some t =>
    if o < 0x100 then (x.windowHead t).getD o 0
    else if o < 0x1000 then t.input.getD (o - 0x100) 0
    else if o < 0x1400 then x.staging.read (o - 0x1000)
    else if 0x4000 ≤ o then s.paramByte t.bytes (o - 0x4000)
    else 0

/-- A load of some bytes of the window traps: it touches TW_POST or the reserved area. -/
def windowLoadTraps (o n : Nat) : Bool := (decide (o < 0x10) && decide (0xC < o + n)) || (decide (0x1400 ≤ o) && decide (o < 0x4000))

/-- The bytes of a load outside shared SRAM. -/
def State.localBytes (s : State) (x : Core) (r : Region) (o n : Nat) : List Byte :=
  (List.range n).map (fun i =>
    match r with
    | .scratch => x.scratch.read (o + i)
    | .view => x.viewByte (o + i)
    | .window => s.windowByte x (o + i)
    | .shared => 0)

/-- An access: aligned (R106, ALIGN before ADDR_RANGE, log 19), and its region. -/
def access (a size : Nat) : Except Trap (Region × Nat) :=
  if a % size ≠ 0 then .error .align
  else match regionOf a with
    | some ro => .ok ro
    | none => .error .addrRange

/-- A load: its bytes, or the shared-SRAM offset it waits for. -/
def State.loadBytes (s : State) (x : Core) (a size : Nat) : Except Trap (List Byte ⊕ Nat) :=
  match access a size with
  | .error t => .error t
  | .ok (.shared, o) => .ok (.inr o)
  | .ok (.window, o) => if windowLoadTraps o size then .error .addrRange else .ok (.inl (s.localBytes x .window o size))
  | .ok (r, o) => .ok (.inl (s.localBytes x r o size))

/-- Store bytes to the state view: the first store to a line in the task copies it (R103). -/
def Core.storeView (y : Core) (o : Nat) (b : List Byte) : Core :=
  let l := o / 32
  let y := if y.lines.contains l then y
    else { y with work := y.work.writeN (32 * l) (y.view.readN (32 * l) 32), lines := y.lines ++ [l] }
  { y with work := y.work.writeN o b }

/-- A store: scratch and state view take it, shared SRAM queues it for the commit, the window takes staging and TW_POST
(R101 to R104, R143, R222). -/
def State.storeBytes (s : State) (n : Nat) (y : Core) (a : Nat) (b : List Byte) : Except Trap (State × Core) :=
  match access a b.length with
  | .error t => .error t
  | .ok (.scratch, o) => .ok (s, { y with scratch := y.scratch.writeN o b })
  | .ok (.view, o) => .ok (s, y.storeView o b)
  | .ok (.shared, o) =>
    if 0x6F0000 ≤ a then .error .addrRange
    else if y.queue.length < 256 then .ok (s, { y with queue := y.queue ++ [(o, b.length, leNat b)] })
    else .error .cqFull
  | .ok (.window, o) =>
    if 0x1000 ≤ o ∧ o < 0x1400 then .ok (s, { y with staging := y.staging.writeN (o - 0x1000) b })
    else if o = 0xC then
      match y.task with
      | some t =>
        let (s, ok) := s.post (n / 16) (leNat b) t.cycle
        .ok (s, { y with postRefused := !ok })
      | none => .ok (s, y)
    else .error .addrRange

end Sys2Proof.Machine
end

