-- ==== Sys2Proof/Machine/LoopAlu.lean ====
section
/-! DEFINITION. Sys2Proof/Machine/LoopAlu.lean: the integer instructions of a loop core, formats 0x0 and 0x1 (Table 4.7, R107, R112). -/

namespace Sys2Proof.Machine

/-- The fields of format 0x0: Dd, Ds, Dt. -/
def dD (w : BitVec 22) : Nat := field w 21 17
def dS (w : BitVec 22) : Nat := field w 16 12
def dT (w : BitVec 22) : Nat := field w 11 7

/-- The second operand of an instruction with an immediate form: Dt, or the signed immediate. -/
def secondOp (imm : Bool) (w : BitVec 22) (x : Core) : W32 := if imm then BitVec.ofInt 32 (fieldI w 11 0) else x.rd (dT w)

/-- Issue an ALU instruction with an immediate form. -/
def State.alu2 (s : State) (k : Issue) (o : LoopOp) (imm : Bool) (w : BitVec 22) (f : W32 → W32 → Core → Core) : State :=
  s.issueReg k o w (if imm then [dD w, dS w] else [dD w, dS w, dT w]) (imm || zeroFields w [(6, 0)])
    (fun x y => f (x.rd (dS w)) (secondOp imm w x) y) imm

/-- Issue a shift: by Dt[4:0], or by imm[4:0] with the rest of the immediate zero. -/
def State.aluShift (s : State) (k : Issue) (o : LoopOp) (imm : Bool) (w : BitVec 22) (f : W32 → Nat → Core → Core) : State :=
  s.issueReg k o w (if imm then [dD w, dS w] else [dD w, dS w, dT w]) (if imm then zeroFields w [(11, 5)] else zeroFields w [(6, 0)])
    (fun x y => f (x.rd (dS w)) (if imm then field w 4 0 else (x.rd (dT w)).toNat % 32) y) imm

/-- Issue an ALU instruction of two registers. -/
def State.alu (s : State) (k : Issue) (o : LoopOp) (w : BitVec 22) (f : W32 → W32 → Core → Core) : State := s.alu2 k o false w f

/-- Issue an ALU instruction of one register, Dt zero. -/
def State.alu1 (s : State) (k : Issue) (o : LoopOp) (w : BitVec 22) (f : W32 → Core → Core) : State :=
  s.issueReg k o w [dD w, dS w] (zeroFields w [(11, 0)]) (fun x y => f (x.rd (dS w)) y)

/-- Redundant sign bits, 0 to 31; zero and -1 have 31. -/
def redundant (v : W32) : Nat :=
  let m := if v.toInt < 0 then (~~~v).toNat else v.toNat
  31 - (if m = 0 then 0 else m.log2 + 1)

/-- A product of two Q1.31 values rounded half up to Q1.31 (R112), before saturation. -/
def mulFrac (a b : W32) : Int := divRound (a.toInt * b.toInt) (2 ^ 31)

/-- ADD, ADDI: Dd = Ds + Dt or imm, wrapping. -/
def execAdd (k : Issue) (imm : Bool) (w : BitVec 22) (s : State) : Host.Outcome State Fault Refusal :=
  .next (s.alu2 k .add imm w fun a b y => y.setD (dD w) (a + b))

/-- ADDS, ADDSI: saturating add. -/
def execAdds (k : Issue) (imm : Bool) (w : BitVec 22) (s : State) : Host.Outcome State Fault Refusal :=
  .next (s.alu2 k .adds imm w fun a b y => y.setDSat (dD w) (a.toInt + b.toInt))

/-- AND, ANDI. -/
def execAnd (k : Issue) (imm : Bool) (w : BitVec 22) (s : State) : Host.Outcome State Fault Refusal :=
  .next (s.alu2 k .and imm w fun a b y => y.setD (dD w) (a &&& b))

/-- OR, ORI. -/
def execOr (k : Issue) (imm : Bool) (w : BitVec 22) (s : State) : Host.Outcome State Fault Refusal :=
  .next (s.alu2 k .or imm w fun a b y => y.setD (dD w) (a ||| b))

/-- XOR, XORI. -/
def execXor (k : Issue) (imm : Bool) (w : BitVec 22) (s : State) : Host.Outcome State Fault Refusal :=
  .next (s.alu2 k .xor imm w fun a b y => y.setD (dD w) (a ^^^ b))

/-- SHL, SHLI. -/
def execShl (k : Issue) (imm : Bool) (w : BitVec 22) (s : State) : Host.Outcome State Fault Refusal :=
  .next (s.aluShift k .shl imm w fun a n y => y.setD (dD w) (a <<< n))

/-- SHR, SHRI: logical. -/
def execShr (k : Issue) (imm : Bool) (w : BitVec 22) (s : State) : Host.Outcome State Fault Refusal :=
  .next (s.aluShift k .shr imm w fun a n y => y.setD (dD w) (a >>> n))

/-- SHRA, SHRAI: arithmetic. -/
def execShra (k : Issue) (imm : Bool) (w : BitVec 22) (s : State) : Host.Outcome State Fault Refusal :=
  .next (s.aluShift k .shra imm w fun a n y => y.setD (dD w) (a.sshiftRight n))

/-- SHLS, SHLSI: left, saturating (R112). -/
def execShls (k : Issue) (imm : Bool) (w : BitVec 22) (s : State) : Host.Outcome State Fault Refusal :=
  .next (s.aluShift k .shls imm w fun a n y => y.setDSat (dD w) (a.toInt * 2 ^ n))

/-- SLT, SLTI: 1 if Ds is less, signed. -/
def execSlt (k : Issue) (imm : Bool) (w : BitVec 22) (s : State) : Host.Outcome State Fault Refusal :=
  .next (s.alu2 k .slt imm w fun a b y => y.setD (dD w) (if a.toInt < b.toInt then 1 else 0))

/-- SLTU, SLTUI: 1 if Ds is less, unsigned. -/
def execSltu (k : Issue) (imm : Bool) (w : BitVec 22) (s : State) : Host.Outcome State Fault Refusal :=
  .next (s.alu2 k .sltu imm w fun a b y => y.setD (dD w) (if a.toNat < b.toNat then 1 else 0))

/-- SUB. -/
def execSub (k : Issue) (w : BitVec 22) (s : State) : Host.Outcome State Fault Refusal :=
  .next (s.alu k .sub w fun a b y => y.setD (dD w) (a - b))

/-- SUBS: saturating. -/
def execSubs (k : Issue) (w : BitVec 22) (s : State) : Host.Outcome State Fault Refusal :=
  .next (s.alu k .subs w fun a b y => y.setDSat (dD w) (a.toInt - b.toInt))

/-- MIN: signed. -/
def execMin (k : Issue) (w : BitVec 22) (s : State) : Host.Outcome State Fault Refusal :=
  .next (s.alu k .min w fun a b y => y.setD (dD w) (if a.toInt ≤ b.toInt then a else b))

/-- MAX: signed. -/
def execMax (k : Issue) (w : BitVec 22) (s : State) : Host.Outcome State Fault Refusal :=
  .next (s.alu k .max w fun a b y => y.setD (dD w) (if a.toInt ≤ b.toInt then b else a))

/-- ABS: saturating. -/
def execAbs (k : Issue) (w : BitVec 22) (s : State) : Host.Outcome State Fault Refusal :=
  .next (s.alu1 k .abs w fun a y => y.setDSat (dD w) a.toInt.natAbs)

/-- NEG: saturating. -/
def execNeg (k : Issue) (w : BitVec 22) (s : State) : Host.Outcome State Fault Refusal :=
  .next (s.alu1 k .neg w fun a y => y.setDSat (dD w) (-a.toInt))

/-- CLS: redundant sign bits. -/
def execCls (k : Issue) (w : BitVec 22) (s : State) : Host.Outcome State Fault Refusal :=
  .next (s.alu1 k .cls w fun a y => y.setD (dD w) (BitVec.ofNat 32 (redundant a)))

/-- MUL: low 32 bits of the signed product; the next instruction sees the old value. -/
def execMul (k : Issue) (w : BitVec 22) (s : State) : Host.Outcome State Fault Refusal :=
  .next (s.alu k .mul w fun a b y => y.setDLate (dD w) (a * b))

/-- MULF (R112). -/
def execMulf (k : Issue) (w : BitVec 22) (s : State) : Host.Outcome State Fault Refusal :=
  .next (s.alu k .mulf w fun a b y =>
    let v := mulFrac a b
    let y := y.setDLate (dD w) (BitVec.ofInt 32 (sat32 v))
    if sat32 v = v then y else y.setSat)

/-- MULHU: high 32 bits of the unsigned product. -/
def execMulhu (k : Issue) (w : BitVec 22) (s : State) : Host.Outcome State Fault Refusal :=
  .next (s.alu k .mulhu w fun a b y => y.setDLate (dD w) (BitVec.ofNat 32 (a.toNat * b.toNat / 2 ^ 32)))

end Sys2Proof.Machine
end

