-- ==== Sys2Proof/Machine/LoopAcc.lean ====
section
/-! DEFINITION. Sys2Proof/Machine/LoopAcc.lean: the accumulator instructions of a loop core, formats 0x3 and 0x4, and the exponent
instructions of format 0x9 (R107 to R114). -/

namespace Sys2Proof.Machine

/-! Format 0x4: a [21:20], b [19:18], Dr [17:13], Dt [12:8], s [7:2], RND [1]. -/

def acA (w : BitVec 22) : Nat := field w 21 20
def acB (w : BitVec 22) : Nat := field w 19 18
def acDr (w : BitVec 22) : Nat := field w 17 13
def acDt (w : BitVec 22) : Nat := field w 12 8
def acS (w : BitVec 22) : Int := fieldI w 7 2
def acRnd (w : BitVec 22) : Bool := field w 1 1 == 1

/-- A product of two Q1.31 values in the Q17.63 format of an accumulator (R107). -/
def macProduct (a b : W32) : Int := a.toInt * b.toInt * 2

/-- A value times 2^s, truncated toward minus infinity. -/
def scale (v : Int) (s : Int) : Int := if 0 ≤ s then v * 2 ^ s.toNat else v / 2 ^ (-s).toNat

/-- MVAC's value (R110): ACa times 2^s exactly, the 32 bits below bit 32 dropped with or without rounding, before
saturation. -/
def moveOut (v : Int) (s : Int) (rnd : Bool) : Int :=
  let k := 32 - s
  if k ≤ 0 then v * 2 ^ (-k).toNat
  else if rnd then divRound v (2 ^ k.toNat) else v / 2 ^ k.toNat

/-- Issue an accumulator instruction of two data registers. -/
def State.accMul (s : State) (k : Issue) (o : LoopOp) (w : BitVec 22) (f : Core → Core → Int → Core) : State :=
  s.issueReg k o w [acDr w, acDt w] (zeroFields w [(19, 18), (7, 0)])
    (fun x y => f x y (macProduct (x.rd (acDr w)) (x.rd (acDt w))))

/-- MAC: ACa += Dr times Dt. -/
def execMac (k : Issue) (w : BitVec 22) (s : State) : Host.Outcome State Fault Refusal :=
  .next (s.accMul k .mac w fun x y p => x.accumulate y (acA w) (x.acc (acA w) + p))

/-- MSU: ACa -= Dr times Dt. -/
def execMsu (k : Issue) (w : BitVec 22) (s : State) : Host.Outcome State Fault Refusal :=
  .next (s.accMul k .msu w fun x y p => x.accumulate y (acA w) (x.acc (acA w) - p))

/-- MPY: ACa = Dr times Dt. -/
def execMpy (k : Issue) (w : BitVec 22) (s : State) : Host.Outcome State Fault Refusal :=
  .next (s.accMul k .mpy w fun _ y p => y.overwrite (acA w) p)

/-- ADDAC: ACa += ACb. -/
def execAddac (k : Issue) (w : BitVec 22) (s : State) : Host.Outcome State Fault Refusal :=
  .next (s.issueReg k .addac w [] (zeroFields w [(17, 0)]) fun x y => x.accumulate y (acA w) (x.acc (acA w) + x.acc (acB w)))

/-- SUBAC: ACa -= ACb. -/
def execSubac (k : Issue) (w : BitVec 22) (s : State) : Host.Outcome State Fault Refusal :=
  .next (s.issueReg k .subac w [] (zeroFields w [(17, 0)]) fun x y => x.accumulate y (acA w) (x.acc (acA w) - x.acc (acB w)))

/-- CLRAC: ACa = 0, and its lock clears. -/
def execClrac (k : Issue) (w : BitVec 22) (s : State) : Host.Outcome State Fault Refusal :=
  .next (s.issueReg k .clrac w [] (zeroFields w [(19, 0)]) fun _ y => y.overwrite (acA w) 0)

/-- NEGAC: acts on the saturated value and leaves SATL. -/
def execNegac (k : Issue) (w : BitVec 22) (s : State) : Host.Outcome State Fault Refusal :=
  .next (s.issueReg k .negac w [] (zeroFields w [(19, 0)]) fun x y => y.setAc (acA w) (-x.acc (acA w)))

/-- ABSAC: acts on the saturated value and leaves SATL. -/
def execAbsac (k : Issue) (w : BitVec 22) (s : State) : Host.Outcome State Fault Refusal :=
  .next (s.issueReg k .absac w [] (zeroFields w [(19, 0)]) fun x y => y.setAc (acA w) (x.acc (acA w)).natAbs)

/-- SHAC: arithmetic shift by s (R111). -/
def execShac (k : Issue) (w : BitVec 22) (s : State) : Host.Outcome State Fault Refusal :=
  .next (s.issueReg k .shac w [] (zeroFields w [(19, 8), (1, 0)]) fun x y => y.setAc (acA w) (scale (x.acc (acA w)) (acS w)))

/-- MVAC (R110). -/
def execMvac (k : Issue) (w : BitVec 22) (s : State) : Host.Outcome State Fault Refusal :=
  .next (s.issueReg k .mvac w [acDr w] (zeroFields w [(19, 18), (12, 8), (0, 0)]) fun x y =>
    y.setDSat (acDr w) (moveOut (x.accOut (acA w)).toInt (acS w) (acRnd w)))

/-- MVDA: ACa = Ds times 2^32 times 2^s, sign-extended; its lock clears (R111, R108). -/
def execMvda (k : Issue) (w : BitVec 22) (s : State) : Host.Outcome State Fault Refusal :=
  .next (s.issueReg k .mvda w [acDr w] (zeroFields w [(19, 18), (12, 8), (1, 0)]) fun x y =>
    y.overwrite (acA w) (scale (x.rdI (acDr w) * 2 ^ 32) (acS w)))

/-- Issue a raw move out of an accumulator (R111). -/
def State.accRaw (s : State) (k : Issue) (o : LoopOp) (w : BitVec 22) (f : Acc → W32) : State :=
  s.issueReg k o w [acDr w] (zeroFields w [(19, 18), (12, 0)]) fun x y => y.setD (acDr w) (f (x.accOut (acA w)))

/-- MVACL: bits [31:0]. -/
def execMvacl (k : Issue) (w : BitVec 22) (s : State) : Host.Outcome State Fault Refusal :=
  .next (s.accRaw k .mvacl w fun v => v.extractLsb' 0 32)

/-- MVACM: bits [63:32]. -/
def execMvacm (k : Issue) (w : BitVec 22) (s : State) : Host.Outcome State Fault Refusal :=
  .next (s.accRaw k .mvacm w fun v => v.extractLsb' 32 32)

/-- MVACH: bits [79:64], sign-extended. -/
def execMvach (k : Issue) (w : BitVec 22) (s : State) : Host.Outcome State Fault Refusal :=
  .next (s.accRaw k .mvach w fun v => (v.extractLsb' 64 16).signExtend 32)

/-! Format 0x3: p [24], x [23:20], y [19:16], load 1 en [15], dp [14:11], a [10:9], load 2 en [8], dp [7:4], a [3:2]. -/

/-- An enabled load of format 0x3: address register and first data register. -/
def dualLoad (w : BitVec 25) (second : Bool) : Option (Nat × Nat) :=
  if second then (if field w 8 8 = 1 then some (4 + field w 3 2, 2 * field w 7 4) else none)
  else if field w 15 15 = 1 then some (field w 10 9, 2 * field w 14 11) else none

/-- The fields of a disabled load are zero, and two enabled loads differ in their pair (R115). -/
def dualLegal (w : BitVec 25) : Bool :=
  zeroFields w [(1, 0)] && (field w 15 15 == 1 || zeroFields w [(14, 9)]) && (field w 8 8 == 1 || zeroFields w [(7, 2)]) &&
  !(field w 15 15 == 1 && field w 8 8 == 1 && field w 14 11 == field w 7 4)

/-- A parallel load: local memory or the task window, then post-modify by the modifier of the same number. -/
def State.parallelLoad (s : State) (x : Core) (l : Option (Nat × Nat)) (y : Core) : Except Trap Core :=
  match l with
  | none => .ok y
  | some (a, d) =>
    match s.loadBytes x (x.addrReg a).toNat 8 with
    | .error t => .error t
    | .ok (.inr _) => .error .addrRange
    | .ok (.inl b) =>
      .ok (((y.setDLate d (BitVec.ofNat 32 (fld b 0 4))).setDLate (d + 1) (BitVec.ofNat 32 (fld b 4 4))).setA a
        (modAddr (x.addrReg a) (x.modReg a)))

/-- The data registers that a word of format 0x3 touches. -/
def dualTouch (w : BitVec 25) (mac : Bool) : List Nat :=
  let pair (o : Option (Nat × Nat)) : List Nat := match o with | some (_, d) => [d, d + 1] | none => []
  pair (dualLoad w false) ++ pair (dualLoad w true) ++
    (if mac then [2 * field w 23 20, 2 * field w 23 20 + 1, 2 * field w 19 16, 2 * field w 19 16 + 1] else [])

/-- Issue a dual MAC with its parallel loads: `f` gives the two accumulators their values from the core and the products. -/
def State.dual (s : State) (k : Issue) (o : LoopOp) (w : BitVec 25) (mac legal : Bool) (f : Core → Core → Core) : State :=
  s.issue k [o.word false w] (dualTouch w mac) (field w 15 15 == 1 || field w 8 8 == 1) true (dualLegal w && legal) fun s x y =>
    match s.parallelLoad x (dualLoad w false) (f x y) with
    | .error t => .error t
    | .ok y =>
      match s.parallelLoad x (dualLoad w true) y with
      | .error t => .error t
      | .ok y => .ok (s, y)

/-- The two products of a dual MAC: D(2x) D(2y) and D(2x+1) D(2y+1), or D(2y) in both for MACX2. -/
def dualProducts (w : BitVec 25) (cross : Bool) (x : Core) : Int × Int :=
  let a := 2 * field w 23 20
  let b := 2 * field w 19 16
  (macProduct (x.rd a) (x.rd b), macProduct (x.rd (a + 1)) (x.rd (if cross then b else b + 1)))

/-- The first of the two accumulators. -/
def dualAcc (w : BitVec 25) : Nat := 2 * field w 24 24

/-- MAC2. -/
def execMac2 (k : Issue) (w : BitVec 25) (s : State) : Host.Outcome State Fault Refusal :=
  .next (s.dual k .mac2 w true true fun x y =>
    let p := dualProducts w false x
    let a := dualAcc w
    x.accumulate (x.accumulate y a (x.acc a + p.1)) (a + 1) (x.acc (a + 1) + p.2))

/-- MSU2. -/
def execMsu2 (k : Issue) (w : BitVec 25) (s : State) : Host.Outcome State Fault Refusal :=
  .next (s.dual k .msu2 w true true fun x y =>
    let p := dualProducts w false x
    let a := dualAcc w
    x.accumulate (x.accumulate y a (x.acc a - p.1)) (a + 1) (x.acc (a + 1) - p.2))

/-- MPY2. -/
def execMpy2 (k : Issue) (w : BitVec 25) (s : State) : Host.Outcome State Fault Refusal :=
  .next (s.dual k .mpy2 w true true fun x y =>
    let p := dualProducts w false x
    let a := dualAcc w
    (y.overwrite a p.1).overwrite (a + 1) p.2)

/-- MACX2. -/
def execMacx2 (k : Issue) (w : BitVec 25) (s : State) : Host.Outcome State Fault Refusal :=
  .next (s.dual k .macx2 w true true fun x y =>
    let p := dualProducts w true x
    let a := dualAcc w
    x.accumulate (x.accumulate y a (x.acc a + p.1)) (a + 1) (x.acc (a + 1) + p.2))

/-- LDP2: parallel loads only. -/
def execLdp2 (k : Issue) (w : BitVec 25) (s : State) : Host.Outcome State Fault Refusal :=
  .next (s.dual k .ldp2 w false (zeroFields w [(24, 16)]) fun _ y => y)

/-! Format 0x9: k [21:19], i [18:16], j [15:13], Dr [12:8], imm [7:0]. -/

def exK (w : BitVec 22) : Nat := field w 21 19
def exI (w : BitVec 22) : Nat := field w 18 16
def exJ (w : BitVec 22) : Nat := field w 15 13
def exDr (w : BitVec 22) : Nat := field w 12 8

/-- ESET: X = x, H = 31. -/
def execEset (k : Issue) (w : BitVec 22) (s : State) : Host.Outcome State Fault Refusal :=
  .next (s.issueReg k .eset w [] (zeroFields w [(18, 8)]) fun _ y => y.setE (exK w) (fieldI w 7 0) 31)

/-- ERH: H = 31. -/
def execErh (k : Issue) (w : BitVec 22) (s : State) : Host.Outcome State Fault Refusal :=
  .next (s.issueReg k .erh w [] (zeroFields w [(18, 0)]) fun x y => y.setE (exK w) (x.expo (exK w)).x 31)

/-- EHEAD: H is the smaller of H and the redundant sign bits of Dr. -/
def execEhead (k : Issue) (w : BitVec 22) (s : State) : Host.Outcome State Fault Refusal :=
  .next (s.issueReg k .ehead w [exDr w] (zeroFields w [(18, 13), (7, 0)]) fun x y =>
    y.setE (exK w) (x.expo (exK w)).x (min (x.expo (exK w)).h (redundant (x.rd (exDr w)))))

/-- EFIX: n is the larger of H - g and 0, X drops by n and H becomes n. -/
def execEfix (k : Issue) (w : BitVec 22) (s : State) : Host.Outcome State Fault Refusal :=
  .next (s.issueReg k .efix w [] (zeroFields w [(18, 8), (7, 3)]) fun x y =>
    let e := x.expo (exK w)
    let n := e.h - field w 2 0
    y.setE (exK w) (e.x - n) n)

/-- EADD: the sum of two exponents, H = 31. -/
def execEadd (k : Issue) (w : BitVec 22) (s : State) : Host.Outcome State Fault Refusal :=
  .next (s.issueReg k .eadd w [] (zeroFields w [(12, 0)]) fun x y => y.setE (exK w) ((x.expo (exI w)).x + (x.expo (exJ w)).x) 31)

/-- ESUB: the difference of two exponents, H = 31. -/
def execEsub (k : Issue) (w : BitVec 22) (s : State) : Host.Outcome State Fault Refusal :=
  .next (s.issueReg k .esub w [] (zeroFields w [(12, 0)]) fun x y => y.setE (exK w) ((x.expo (exI w)).x - (x.expo (exJ w)).x) 31)

/-- SHLE: Dr shifted left by Ek.H, saturating. -/
def execShle (k : Issue) (w : BitVec 22) (s : State) : Host.Outcome State Fault Refusal :=
  .next (s.issueReg k .shle w [exDr w] (zeroFields w [(18, 13), (7, 0)]) fun x y =>
    y.setDSat (exDr w) (x.rdI (exDr w) * 2 ^ (x.expo (exK w)).h))

/-- MVACE (R114): MVAC with s = Ek.X, clamped to its range with EOV. -/
def execMvace (k : Issue) (w : BitVec 22) (s : State) : Host.Outcome State Fault Refusal :=
  .next (s.issueReg k .mvace w [exDr w] (zeroFields w [(18, 13), (7, 3)]) fun x y =>
    let e := (x.expo (exK w)).x
    let c := clampInt (-32) 31 e
    let y := y.setDSat (exDr w) (moveOut (x.accOut (field w 1 0)).toInt c (field w 2 2 == 1))
    if c = e then y else y.setEov)

end Sys2Proof.Machine
end

