-- ==== Sys2Proof/Machine/LoopMem.lean ====
section
/-! DEFINITION. Sys2Proof/Machine/LoopMem.lean: loads and stores of a loop core (format 0x2, R101 to R106), moves (format 0x8) and long
immediates (format 0xA). -/

namespace Sys2Proof.Machine

/-! Format 0x2: Dd [23:19], An [18:15], mode [14:13], Mm [12:10], off [9:0]. -/

def lsD (w : BitVec 24) : Nat := field w 23 19
def lsA (w : BitVec 24) : Nat := field w 18 15

/-- The unused fields of a mode are zero and mode 3 is illegal (Table 4.6). -/
def lsLegal (w : BitVec 24) : Bool :=
  match field w 14 13 with
  | 0 => zeroFields w [(12, 10)]
  | 1 | 2 => zeroFields w [(9, 0)]
  | _ => false

/-- The address of an access of some size, and the core after its An is modified (R106). -/
def lsAddress (w : BitVec 24) (size : Nat) (x y : Core) : Nat × Core :=
  let a := x.addrReg (lsA w)
  let m := modAddr a (x.modReg (field w 12 10))
  match field w 14 13 with
  | 0 => ((BitVec.ofInt 32 (a.toInt + fieldI w 9 0 * size) : W32).toNat, y)
  | 1 => (a.toNat, y.setA (lsA w) m)
  | _ => (m.toNat, y.setA (lsA w) m)

/-- A loaded value of 1, 2 or 4 bytes, with sign or zero extension. -/
def loadValue (size : Nat) (signed : Bool) (b : List Byte) : W32 :=
  if signed then BitVec.ofInt 32 (fldI b 0 size) else BitVec.ofNat 32 (fld b 0 size)

/-- Put loaded bytes into Dd, or a pair for 8 bytes. -/
def Core.putLoad (y : Core) (late : Bool) (d size : Nat) (signed : Bool) (b : List Byte) : Core :=
  let put (z : Core) (i : Nat) (v : W32) : Core := if late then z.setDLate i v else z.setD i v
  if size = 8 then put (put y d (BitVec.ofNat 32 (fld b 0 4))) (d + 1) (BitVec.ofNat 32 (fld b 4 4))
  else put y d (loadValue size signed b)

/-- The registers of an access. -/
def lsTouch (w : BitVec 24) (size : Nat) : List Nat := if size = 8 then [lsD w, lsD w + 1] else [lsD w]

/-- Issue a load: local memory and the window answer late by one slot; shared SRAM stalls the core (Table 4.8, R104). -/
def State.load (s : State) (k : Issue) (o : LoopOp) (w : BitVec 24) (size : Nat) (signed : Bool) : State :=
  s.issue k [o.word false w] (lsTouch w size) true true (lsLegal w && (size != 8 || lsD w % 2 == 0)) fun s x y =>
    let (a, y) := lsAddress w size x y
    match s.loadBytes x a size with
    | .error t => .error t
    | .ok (.inl b) => .ok (s, y.putLoad true (lsD w) size signed b)
    | .ok (.inr o) => .ok (s, { y with load := some { addr := o, size := size, signed := signed, dst := lsD w } })

/-- Issue a store. -/
def State.store (s : State) (k : Issue) (o : LoopOp) (w : BitVec 24) (size : Nat) : State :=
  s.issue k [o.word false w] (lsTouch w size) true true (lsLegal w && (size != 8 || lsD w % 2 == 0)) fun s x y =>
    let (a, y) := lsAddress w size x y
    let v := le 4 (x.rd (lsD w)).toNat ++ (if size = 8 then le 4 (x.rd (lsD w + 1)).toNat else [])
    s.storeBytes k.core.val y a (v.take size)

/-- LDW. -/
def execLdw (k : Issue) (w : BitVec 24) (s : State) : Host.Outcome State Fault Refusal := .next (s.load k .ldw w 4 false)
/-- LDH: sign extension. -/
def execLdh (k : Issue) (w : BitVec 24) (s : State) : Host.Outcome State Fault Refusal := .next (s.load k .ldh w 2 true)
/-- LDHU: zero extension. -/
def execLdhu (k : Issue) (w : BitVec 24) (s : State) : Host.Outcome State Fault Refusal := .next (s.load k .ldhu w 2 false)
/-- LDB: sign extension. -/
def execLdb (k : Issue) (w : BitVec 24) (s : State) : Host.Outcome State Fault Refusal := .next (s.load k .ldb w 1 true)
/-- LDBU: zero extension. -/
def execLdbu (k : Issue) (w : BitVec 24) (s : State) : Host.Outcome State Fault Refusal := .next (s.load k .ldbu w 1 false)
/-- STW. -/
def execStw (k : Issue) (w : BitVec 24) (s : State) : Host.Outcome State Fault Refusal := .next (s.store k .stw w 4)
/-- STH. -/
def execSth (k : Issue) (w : BitVec 24) (s : State) : Host.Outcome State Fault Refusal := .next (s.store k .sth w 2)
/-- STB. -/
def execStb (k : Issue) (w : BitVec 24) (s : State) : Host.Outcome State Fault Refusal := .next (s.store k .stb w 1)
/-- LD2: a pair, 8 bytes. -/
def execLd2 (k : Issue) (w : BitVec 24) (s : State) : Host.Outcome State Fault Refusal := .next (s.load k .ld2 w 8 false)
/-- ST2: a pair, 8 bytes. -/
def execSt2 (k : Issue) (w : BitVec 24) (s : State) : Host.Outcome State Fault Refusal := .next (s.store k .st2 w 8)

/-! Shared SRAM (R104). -/

def State.sramOf (s : State) (g : Nat) : SharedSram := Tbl.get {} s.sram g
def State.updSram (s : State) (g : Nat) (f : SharedSram → SharedSram) : State := { s with sram := Tbl.modify {} s.sram g f }

/-- The last byte written at an address by a list of stores in their order. -/
def lastWrite (l : List (Nat × Byte)) (a : Nat) : Option Byte := (l.reverse.find? (fun e => e.1 == a)).map (·.2)

/-- A byte of shared SRAM as a task of cycle `n` reads it: what tasks of cycles up to n - 1 have committed. -/
def SharedSram.readAt (m : SharedSram) (n a : Nat) : Byte :=
  m.recent.foldl (fun v r => if 0 < cycDiff n r.1 ∧ cycDiff n r.1 < 2 ^ 31 then (lastWrite r.2 a).getD v else v) (m.base.read a)

/-- Release stores of a cycle to a die's shared SRAM (R104, R145). -/
def SharedSram.commit (m : SharedSram) (n : Nat) (l : List (Nat × Byte)) : SharedSram :=
  if l = [] then m
  else if m.recent.any (fun r => r.1 == n) then
    { m with recent := m.recent.map (fun r => if r.1 = n then (n, r.2 ++ l) else r) }
  else { m with recent := m.recent ++ [(n, l)] }

/-- At tick n the stores of cycles up to n - 2 become readable by every task. -/
def SharedSram.age (m : SharedSram) (n : Nat) : SharedSram :=
  let old (c : Nat) : Bool := decide (2 ≤ cycDiff n c) && decide (cycDiff n c < 2 ^ 31)
  { base := (m.recent.filter (fun r => old r.1)).foldl (fun b r => r.2.foldl (fun b e => b.write e.1 e.2) b) m.base
    recent := m.recent.filter (fun r => !old r.1) }

/-- A task of a cycle on a die has neither committed nor been aborted: it runs, is ready, or its instance is armed (R104). -/
def State.cyclePending (s : State) (g c : Nat) : Bool :=
  (List.range 16).any (fun k => match (s.core (g * 16 + k)).task with | some t => t.cycle == c | none => false) ||
  (s.grate g).ready.any (fun e => e.cycle == c) || (s.grate g).delay.any (fun e => e.cycle == c) ||
  s.insts.any (fun e => e.1 / 4096 == g && e.2.armed && e.2.cycle == c)

/-- SHARED_LOAD_COMPLETE (R104, R362): the stalled load returns once every task of the cycle before has ended on the die, and in a
standby every RECORD of that cycle has been applied; until then nothing happens. -/
def execSharedLoadComplete (core : Fin 64) (s : State) : Host.Outcome State Fault Refusal :=
  let n := core.val
  let x := s.core n
  match x.load, x.task with
  | some l, some t =>
    if s.cyclePending (n / 16) (cycAdd t.cycle (Config.cycleModulus - 1)) || !s.recordsIn (n / 16) t.cycle then .next s
    else
      let b := (List.range l.size).map (fun i => (s.sramOf (n / 16)).readAt t.cycle (l.addr + i))
      .next (s.updCore n (fun y => { y with load := none }.putLoad false l.dst l.size l.signed b))
  | _, _ => .next s

/-! Format 0x8: dst [21:17], src [16:12], field [11:0]. -/

def mvDst (w : BitVec 22) : Nat := field w 21 17
def mvSrc (w : BitVec 22) : Nat := field w 16 12

/-- MOVA: An = Ds; addressing in the next instruction sees the old value. -/
def execMova (k : Issue) (w : BitVec 22) (s : State) : Host.Outcome State Fault Refusal :=
  .next (s.issueReg k .mova w [mvSrc w] (zeroFields w [(21, 21), (11, 0)]) fun x y => y.setALate (mvDst w) (x.rd (mvSrc w)))

/-- MOVDA: Dd = An. -/
def execMovda (k : Issue) (w : BitVec 22) (s : State) : Host.Outcome State Fault Refusal :=
  .next (s.issueReg k .movda w [mvDst w] (zeroFields w [(16, 16), (11, 0)]) fun x y => y.setD (mvDst w) (Tbl.get 0 x.a (mvSrc w)))

/-- MOVM: Mm = Ds; the next instruction sees the old value. -/
def execMovm (k : Issue) (w : BitVec 22) (s : State) : Host.Outcome State Fault Refusal :=
  .next (s.issueReg k .movm w [mvSrc w] (zeroFields w [(21, 20), (11, 0)]) fun x y => y.setMLate (mvDst w) (x.rd (mvSrc w)))

/-- MOVDM: Dd = Mm. -/
def execMovdm (k : Issue) (w : BitVec 22) (s : State) : Host.Outcome State Fault Refusal :=
  .next (s.issueReg k .movdm w [mvDst w] (zeroFields w [(16, 15), (11, 0)]) fun x y => y.setD (mvDst w) (x.modReg (mvSrc w)))

/-- ADDA: An += field. -/
def execAdda (k : Issue) (w : BitVec 22) (s : State) : Host.Outcome State Fault Refusal :=
  .next (s.issueReg k .adda w [] (zeroFields w [(21, 21), (16, 12)]) fun x y =>
    y.setALate (mvDst w) (Tbl.get 0 x.a (mvDst w) + BitVec.ofInt 32 (fieldI w 11 0)))

/-- A level's register: its value where the level is open, else 0 (Table 4.2). -/
def Core.levelReg (x : Core) (i : Nat) (f : RepLevel → Nat) : Nat := match x.reps[i]? with | some l => f l | none => 0

/-- The value of a control register, none where the number is not in Table 4.2. -/
def State.control (s : State) (x : Core) (c : Nat) : Option Nat :=
  match c with
  | 0x000 => some x.pc
  | 0x001 => some (x.oldLr.getD x.lr)
  | 0x002 => some (match x.movtc, x.oldSr with | true, some v => v | _, _ => x.srFull)
  | 0x003 => some (x.oldTctl.getD x.tctl)
  | 0x004 => some x.ts
  | 0x005 => x.task.map (fun t => s.sinceTick t.cycle)
  | 0x006 => x.task.map (fun t => (s.cutoffOf t.bytes t.cycle).toNat)
  | 0x007 => x.task.map (fun t => s.clk - t.since)
  | 0x010 => some (x.levelReg 0 RepLevel.start)
  | 0x011 => some (x.levelReg 1 RepLevel.start)
  | 0x012 => some (x.levelReg 2 RepLevel.start)
  | 0x014 => some (x.levelReg 0 RepLevel.last)
  | 0x015 => some (x.levelReg 1 RepLevel.last)
  | 0x016 => some (x.levelReg 2 RepLevel.last)
  | 0x018 => some (x.levelReg 0 RepLevel.count)
  | 0x019 => some (x.levelReg 1 RepLevel.count)
  | 0x01A => some (x.levelReg 2 RepLevel.count)
  | 0x020 | 0x021 | 0x022 | 0x023 => some (lookupOld x.oldVtb (c - 0x20) (Tbl.get 0 x.vtb (c - 0x20))).toNat
  | _ => none

/-- MOVC: Dd = control register `field` (R99). -/
def execMovc (k : Issue) (w : BitVec 22) (s : State) : Host.Outcome State Fault Refusal :=
  .next (s.issue k [LoopOp.word .movc false w] [mvDst w] false true (zeroFields w [(16, 12)]) fun s x y =>
    match s.control x (field w 11 0) with
    | some v => .ok (s, y.setD (mvDst w) (BitVec.ofNat 32 v))
    | none => .error .illegal)

/-- What VTBt keeps of a written word: LEN of 33 to 63 sets 32, unnamed bits read zero (Table 4.2). -/
def vtbWord (v : Nat) : W32 := BitVec.ofNat 32 (bits v 23 2 * 4 + min 32 (bits v 29 24) * 2 ^ 24)

/-- Write SR: every field except RDEPTH; a lock that a write sets counts from the levels now open (R100, R108). -/
def Core.writeSr (y : Core) (v : Nat) : Core :=
  { y with
    sr := v % 0x800
    locks := [0, 1, 2, 3].foldl (fun t a => Tbl.set 0 t a
      (if bit v (4 + a) then (if bit y.sr (4 + a) then Tbl.get 0 t a else y.reps.length) else 0)) y.locks }

/-- MOVTC: control register `field` = Ds; its effect reaches the instruction after the next (R99, R100, Table 4.8). -/
def execMovtc (k : Issue) (w : BitVec 22) (s : State) : Host.Outcome State Fault Refusal :=
  .next (s.issue k [LoopOp.word .movtc false w] [mvSrc w] false true (zeroFields w [(21, 17)]) fun s x y =>
    let v := (x.rd (mvSrc w)).toNat
    let y := { y with movtc := true }
    match field w 11 0 with
    | 0x001 => .ok (s, { y with lr := v % 16384, oldLr := some y.lr })
    | 0x002 => .ok (s, y.writeSr v)
    | 0x003 => .ok (s, { y with tctl := v % 2, oldTctl := some y.tctl })
    | 0x020 | 0x021 | 0x022 | 0x023 =>
      let t := field w 11 0 - 0x20
      .ok (s, { y with vtb := Tbl.set 0 y.vtb t (vtbWord v), oldVtb := [(t, Tbl.get 0 y.vtb t)] })
    | _ => .error .illegal)

/-- An exponent register as a word (Table 4.1). -/
def ExpReg.word (e : ExpReg) : W32 := BitVec.ofNat 32 (ofSigned 8 e.x + 256 * e.h)

/-- MOVDE: Dd = Ek. -/
def execMovde (k : Issue) (w : BitVec 22) (s : State) : Host.Outcome State Fault Refusal :=
  .next (s.issueReg k .movde w [mvDst w] (zeroFields w [(16, 15), (11, 0)]) fun x y => y.setD (mvDst w) (x.expo (mvSrc w)).word)

/-- MOVED: Ek = Ds. -/
def execMoved (k : Issue) (w : BitVec 22) (s : State) : Host.Outcome State Fault Refusal :=
  .next (s.issueReg k .moved w [mvSrc w] (zeroFields w [(21, 20), (11, 0)]) fun x y =>
    let v := (x.rd (mvSrc w)).toNat
    y.setE (mvDst w) (toSigned 8 v) (bits v 12 8))

/-! Format 0xA: dst [21:17] and a second word. -/

/-- LDI: Dd = imm32. -/
def execLdi (k : Issue) (w : BitVec 22) (imm32 : W32) (s : State) : Host.Outcome State Fault Refusal :=
  .next (s.issue k [LoopOp.word .ldi false w, imm32] [mvDst w] false true (zeroFields w [(16, 0)]) (regBody fun _ y => y.setD (mvDst w) imm32))

/-- LDIA: An = imm32; addressing in the next instruction sees the old value. -/
def execLdia (k : Issue) (w : BitVec 22) (imm32 : W32) (s : State) : Host.Outcome State Fault Refusal :=
  .next (s.issue k [LoopOp.word .ldia false w, imm32] [] false true (zeroFields w [(21, 21), (16, 0)]) (regBody fun _ y => y.setALate (mvDst w) imm32))

/-- LDIM: Mm = imm32; the next instruction sees the old value. -/
def execLdim (k : Issue) (w : BitVec 22) (imm32 : W32) (s : State) : Host.Outcome State Fault Refusal :=
  .next (s.issue k [LoopOp.word .ldim false w, imm32] [] false true (zeroFields w [(21, 20), (16, 0)]) (regBody fun _ y => y.setMLate (mvDst w) imm32))

end Sys2Proof.Machine
end

