-- ==== Sys2Proof/Machine/LoopFlow.lean ====
section
/-! DEFINITION. Sys2Proof/Machine/LoopFlow.lean: branches (format 0x5, R118), block repeats (format 0x6, R119), the hysteresis and CORDIC
units (format 0x7, R124 to R127), task and system instructions (format 0xB), and the debug events of a core (R122). -/

namespace Sys2Proof.Machine

/-! Format 0x5: Ds or flag [23:19], [18:16] zero, disp [15:0]. -/

def brD (w : BitVec 24) : Nat := field w 23 19

/-- A branch at `pc` may not be the last instruction of an open body, nor have a body's last word in its delay slots
(Table 4.9). -/
def Core.branchBarred (x : Core) : Bool := x.reps.any (fun l => x.pc ≤ l.last && l.last ≤ x.slotsLast (x.pc + x.wordsAt x.pc))

/-- Issue a branch: `taken` decides, `target` is the word it goes to; `link` writes LR. Every branch has two delay slots
(R118). -/
def State.branch (s : State) (k : Issue) (o : LoopOp) (w : BitVec 24) (touch : List Nat) (legal link : Bool) (taken : Core → Bool)
    (target : Core → Int) : State :=
  s.issue k [o.word false w] touch false false legal fun s x y =>
    if x.branchBarred then .error .slot
    else
      let y := if link then { y with lr := (x.slotsLast (x.pc + 1) + 1) % 16384 } else y
      if taken x then
        if 0 ≤ target x ∧ target x < 16384 then .ok (s, { y with slots := 2, target := some (target x).toNat })
        else .error .addrRange
      else .ok (s, { y with slots := 2, target := none })

/-- A branch to pc + disp on Ds against zero. -/
def State.branchOn (s : State) (k : Issue) (o : LoopOp) (w : BitVec 24) (c : Int → Bool) : State :=
  s.branch k o w [brD w] (zeroFields w [(18, 16)]) false (fun x => c (x.rdI (brD w))) (fun x => x.pc + fieldI w 15 0)

/-- BR. -/
def execBr (k : Issue) (w : BitVec 24) (s : State) : Host.Outcome State Fault Refusal :=
  .next (s.branch k .br w [] (zeroFields w [(23, 16)]) false (fun _ => true) (fun x => x.pc + fieldI w 15 0))

/-- CALL: LR is the first word after the second delay slot. -/
def execCall (k : Issue) (w : BitVec 24) (s : State) : Host.Outcome State Fault Refusal :=
  .next (s.branch k .call w [] (zeroFields w [(23, 16)]) true (fun _ => true) (fun x => x.pc + fieldI w 15 0))

/-- BEQZ. -/
def execBeqz (k : Issue) (w : BitVec 24) (s : State) : Host.Outcome State Fault Refusal := .next (s.branchOn k .beqz w (fun v => v == 0))
/-- BNEZ. -/
def execBnez (k : Issue) (w : BitVec 24) (s : State) : Host.Outcome State Fault Refusal := .next (s.branchOn k .bnez w (fun v => v != 0))
/-- BLTZ. -/
def execBltz (k : Issue) (w : BitVec 24) (s : State) : Host.Outcome State Fault Refusal := .next (s.branchOn k .bltz w (fun v => v < 0))
/-- BGEZ. -/
def execBgez (k : Issue) (w : BitVec 24) (s : State) : Host.Outcome State Fault Refusal := .next (s.branchOn k .bgez w (fun v => 0 ≤ v))
/-- BGTZ. -/
def execBgtz (k : Issue) (w : BitVec 24) (s : State) : Host.Outcome State Fault Refusal := .next (s.branchOn k .bgtz w (fun v => 0 < v))
/-- BLEZ. -/
def execBlez (k : Issue) (w : BitVec 24) (s : State) : Host.Outcome State Fault Refusal := .next (s.branchOn k .blez w (fun v => v ≤ 0))

/-- SR as BFS and BFC see it: the next instruction after one that sets a bit sees the old flag (Table 4.8). -/
def Core.flagSr (x : Core) : Nat := x.oldSr.getD x.srFull

/-- BFS: branch if the SR bit is set. -/
def execBfs (k : Issue) (w : BitVec 24) (s : State) : Host.Outcome State Fault Refusal :=
  .next (s.branch k .bfs w [] (zeroFields w [(18, 16)]) false (fun x => bit x.flagSr (brD w)) (fun x => x.pc + fieldI w 15 0))

/-- BFC: branch if the SR bit is clear. -/
def execBfc (k : Issue) (w : BitVec 24) (s : State) : Host.Outcome State Fault Refusal :=
  .next (s.branch k .bfc w [] (zeroFields w [(18, 16)]) false (fun x => !bit x.flagSr (brD w)) (fun x => x.pc + fieldI w 15 0))

/-- JR: to Ds[13:0]; more bits trap ADDR_RANGE. -/
def execJr (k : Issue) (w : BitVec 24) (s : State) : Host.Outcome State Fault Refusal :=
  .next (s.branch k .jr w [brD w] (zeroFields w [(18, 0)]) false (fun _ => true) (fun x => ((x.rd (brD w)).toNat : Int)))

/-- RET: to LR. -/
def execRet (k : Issue) (w : BitVec 24) (s : State) : Host.Outcome State Fault Refusal :=
  .next (s.branch k .ret w [] (zeroFields w [(23, 0)]) false (fun _ => true) (fun x => (x.oldLr.getD x.lr : Nat)))

/-! Format 0x6: END [25:14] and a count. -/

/-- Issue a repeat of `count` iterations (R119, Table 4.9). -/
def State.repeat (s : State) (k : Issue) (o : LoopOp) (w : BitVec 26) (touch : List Nat) (legal : Bool) (count : Core → Nat) : State :=
  s.issue k [o.word false w] touch false false legal fun s x y =>
    let start := x.pc + 1
    let last := start + field w 25 14
    if x.reps.any (fun l => l.last == x.pc) then .error .slot
    else if 65535 < count x then .error .repCount
    else if 16383 < last then .error .addrRange
    else if (x.walkBody last (last + 1 - start) start 0).1 then .error .illegal
    else if x.reps.any (fun l => l.last < last) then .error .repNest
    else if count x = 0 then .ok (s, { y with target := some last })
    else if 3 ≤ x.reps.length then .error .repDepth
    else .ok (s, { y with reps := y.reps ++ [{ start := start, last := last, count := count x }] })

/-- REPI: a count of 0 to 16,383. -/
def execRepi (k : Issue) (w : BitVec 26) (s : State) : Host.Outcome State Fault Refusal :=
  .next (s.repeat k .repi w [] true (fun _ => field w 13 0))

/-- REPR: the count is Ds; more than 16 bits trap REP_COUNT. -/
def execRepr (k : Issue) (w : BitVec 26) (s : State) : Host.Outcome State Fault Refusal :=
  .next (s.repeat k .repr w [field w 4 0] (zeroFields w [(13, 5)]) (fun x => (x.rd (field w 4 0)).toNat))

/-! Format 0x7: Dd [21:17], Dx [16:12], Dy [11:7], [6:2] zero, t [1:0]. A pair that would begin with D31 names no register
and is illegal (log 20). -/

/-- The torque decision of R124. -/
def torqueDecision (e b : Int) (prev : Nat) : Nat :=
  let p := if prev = 2 then 0 else prev
  if b < e then 1 else if e < -b then 3 else if p = 1 ∧ e ≤ 0 then 0 else if p = 3 ∧ 0 ≤ e then 0 else p

/-- The flux decision of R124. -/
def fluxDecision (e b : Int) (prev : Nat) : Nat := if b < e then 1 else if e < -b then 0 else prev

/-- HYSB's code from the errors, the bands and the previous code (R124). -/
def hysteresis (eT eF bT bF : Int) (prev : Nat) : Nat :=
  torqueDecision eT (max 0 bT) (bits prev 1 0) + 4 * fluxDecision eF (max 0 bF) (bits prev 2 2)

/-- HYSB. -/
def execHysb (k : Issue) (w : BitVec 22) (s : State) : Host.Outcome State Fault Refusal :=
  .next (s.issueReg k .hysb w [dD w, dS w, dS w + 1, dT w, dT w + 1] (zeroFields w [(6, 0)] && decide (dS w < 31) && decide (dT w < 31))
    fun x y => y.setD (dD w) (BitVec.ofNat 32
      (hysteresis (x.rdI (dS w)) (x.rdI (dS w + 1)) (x.rdI (dT w)) (x.rdI (dT w + 1)) (x.rd (dD w)).toNat)))

/-- HYSV: entry Dx[4:0] of vector table t (R125). -/
def execHysv (k : Issue) (w : BitVec 22) (s : State) : Host.Outcome State Fault Refusal :=
  .next (s.issue k [LoopOp.word .hysv false w] [dD w, dS w] true true (zeroFields w [(11, 2)]) fun s x y =>
    let t := field w 1 0
    let v := (lookupOld x.oldVtb t (Tbl.get 0 x.vtb t)).toNat
    let i := (x.rd (dS w)).toNat
    if bits v 29 24 ≤ i ∨ 32 ≤ i then .error .vtIndex
    else
      match s.loadBytes x (bits v 23 2 * 4 + 4 * i) 4 with
      | .error e => .error e
      | .ok (.inr _) => .error .addrRange
      | .ok (.inl b) => .ok (s, y.setDLate (dD w) (BitVec.ofNat 32 (leNat b))))

/-- HYST's prediction (R126): floor(N (edge - e) / s), 0 where it is negative, and all ones where the edge is not reached. -/
def predict (e sl b : Int) (n : Nat) : W32 :=
  let n := min n 65536
  let b := max 0 b
  let edge := if 0 < sl then b else -b
  if sl = 0 ∨ n = 0 then 0xFFFFFFFF
  else
    let q := (n : Int) * (edge - e)
    let t := if 0 < sl then q / sl else (-q) / (-sl)
    if t < 0 then 0 else if t < n then BitVec.ofInt 32 t else 0xFFFFFFFF

/-- A unit operation leaves its result outstanding until the unit delivers it (R117). -/
def Core.outstanding (y : Core) (u : UnitResult) : Core := { y with units := y.units ++ [u] }

/-- HYST. -/
def execHyst (k : Issue) (w : BitVec 22) (s : State) : Host.Outcome State Fault Refusal :=
  .next (s.issueReg k .hyst w [dD w, dS w, dS w + 1, dT w, dT w + 1] (zeroFields w [(6, 0)] && decide (dS w < 31) && decide (dT w < 31))
    fun x y => y.outstanding
      { dst := [(dD w, predict (x.rdI (dS w)) (x.rdI (dS w + 1)) (x.rdI (dT w)) (x.rd (dT w + 1)).toNat)] })

/-- CSC: cosine and sine; +1 saturates without SAT. -/
def execCsc (k : Issue) (w : BitVec 22) (s : State) : Host.Outcome State Fault Refusal :=
  .next (s.issueReg k .csc w [dD w, dD w + 1, dS w] (zeroFields w [(11, 0)] && decide (dD w < 31)) fun x y =>
    let v := cordicCsc (x.rd (dS w))
    y.outstanding { dst := [(dD w, BitVec.ofInt 32 (sat32 v.1)), (dD w + 1, BitVec.ofInt 32 (sat32 v.2))] })

/-- CROT: results beyond Q1.31 saturate and set SAT. -/
def execCrot (k : Issue) (w : BitVec 22) (s : State) : Host.Outcome State Fault Refusal :=
  .next (s.issueReg k .crot w [dD w, dD w + 1, dS w, dS w + 1, dT w] (zeroFields w [(6, 0)] && decide (dD w < 31) && decide (dS w < 31))
    fun x y =>
      let v := cordicRot (x.rd (dS w)) (x.rd (dS w + 1)) (x.rd (dT w))
      let sat := sat32 v.1 ≠ v.1 || sat32 v.2 ≠ v.2
      y.outstanding
        { dst := [(dD w, BitVec.ofInt 32 (sat32 v.1)), (dD w + 1, BitVec.ofInt 32 (sat32 v.2))]
          setSr := if sat then 0x100 else 0, setTs := if sat then 2 else 0 })

/-- CVEC: magnitude and angle; the zero vector sets CZ, which tells of the last CVEC (Table 4.3). -/
def execCvec (k : Issue) (w : BitVec 22) (s : State) : Host.Outcome State Fault Refusal :=
  .next (s.issueReg k .cvec w [dD w, dD w + 1, dS w, dS w + 1] (zeroFields w [(11, 0)] && decide (dD w < 31) && decide (dS w < 31))
    fun x y =>
      let a := x.rd (dS w)
      let b := x.rd (dS w + 1)
      let v := cordicVec a b
      y.outstanding { dst := [(dD w, v.1), (dD w + 1, v.2)], setSr := if a = 0 ∧ b = 0 then 0x400 else 0, cvec := true })

/-- UNIT_RESULT (R117): the oldest outstanding result is written. -/
def execUnitResult (core : Fin 64) (s : State) : Host.Outcome State Fault Refusal :=
  .next (s.updCore core.val fun x =>
    match x.units with
    | u :: us => { x.settle u with units := us }
    | [] => x)

/-! Format 0xB. -/

/-- NOP. -/
def execNop (k : Issue) (w : BitVec 22) (s : State) : Host.Outcome State Fault Refusal :=
  .next (s.issueReg k .nop w [] (zeroFields w [(21, 0)]) fun _ y => y)

/-- TEND (R120): the task ends; no instruction after it is executed, and the commit follows when it reaches W. -/
def execTend (k : Issue) (w : BitVec 22) (s : State) : Host.Outcome State Fault Refusal :=
  .next (s.issue k [LoopOp.word .tend false w] [] false false (zeroFields w [(21, 0)]) (regBody fun x y =>
    { y with ended := true, endOvgp := x.oldTctl.getD x.tctl, reps := [] }))

/-- BRK: HALT if debug access is open, otherwise the trap BRK. -/
def execBrk (k : Issue) (w : BitVec 22) (s : State) : Host.Outcome State Fault Refusal :=
  .next (s.issue k [LoopOp.word .brk false w] [] false false (zeroFields w [(21, 0)]) fun s _ y =>
    if s.fuse .debug 0 ≠ 0 then .ok (s, { y with haltReq := true }) else .error .brk)

/-! Debug (R122). -/

/-- Debug access is open (LC_DBG_n.DEBUG, fused). -/
def State.debugOpen (s : State) : Bool := s.fuse .debug 0 != 0

/-- HALT_REQ: a request, taken on a running core only while debug access is open. -/
def execHaltReq (core : Fin 64) (s : State) : Host.Outcome State Fault Refusal :=
  .next (if s.debugOpen && s.r .LC_STAT_STATE core.val == 1 then s.updCore core.val (fun x => { x with haltReq := true }) else s)

/-- HALT: the core stops between two instructions once nothing holds its request off. -/
def execHalt (core : Fin 64) (s : State) : Host.Outcome State Fault Refusal :=
  let n := core.val
  let x := s.core n
  .next (if s.r .LC_STAT_STATE n == 1 && x.haltReq && x.canHalt && !x.ended then
    (s.updCore n (fun x => { x with haltReq := false })).w .LC_STAT_STATE n 2 else s)

/-- RESUME: a halted core continues exactly as if it had not halted. -/
def execResume (core : Fin 64) (s : State) : Host.Outcome State Fault Refusal :=
  let n := core.val
  .next (if s.r .LC_STAT_STATE n == 2 then s.w .LC_STAT_STATE n 1 else s)

end Sys2Proof.Machine
end

