-- ==== Sys2Proof/Machine/ServoOps.lean ====
section
/-! DEFINITION. Sys2Proof/Machine/ServoOps.lean: the control stage of the standard servo program (R182 to R198): motor sets, cascades, the
choice of states, timed transitions and the torque band. Flux, torque and their slopes are formulas whose arithmetic the
manual does not state to the bit; they come from `Config.estimator` (log 5). -/

namespace Sys2Proof.Machine

/-- A signed quotient whose rounding the manual does not state (log 12). -/
def State.freeDiv (s : State) (num : Int) (den : Nat) : Int × State :=
  if den = 0 ∨ num % den = 0 then (num / den, s) else (num / den + (s.fresh.1 % 2 : Nat), s.fresh.2)

/-! The records (Tables 7.6 to 7.8). -/

def State.svu (s : State) (a off n : Nat) : Nat := s.ru .servo a off n
def State.npc (s : State) (a : Nat) : Bool := bit (s.ru .ps a 0 1) 0

/-- N: the cycle in 1.25 ns. -/
def State.cycleN (s : State) : Nat := s.r .CYC_PERIOD_PERIOD * 8

/-- R195 in a mode of a period in 10 ns. -/
def dwellFits (servo ps : List Byte) (period : Nat) : Bool :=
  decide (fld ps 2 2 + fld ps 4 2 ≤ fld servo 12 2) && decide (fld servo 12 2 * 4 ≤ period * 8) &&
    (fld ps 12 2 == 0 || decide (3 * period ≤ fld ps 12 2 * 100))

/-- A mode contains an axis's slot. -/
def State.modeHasAxis (s : State) (m : Sched) (a : Nat) : Bool :=
  s.rb .SV_STAT_BOUND a &&
    match m.seg (s.r .SV_BIND_ADDR a) 1 with
    | some g => decide (s.r .SV_BIND_BLK a < g.pa)
    | none => false

/-- R195 in every closed mode that contains the axis's slot. -/
def State.dwellFitsAll (s : State) (a : Nat) (servo ps : List Byte) : Bool :=
  decide (fld ps 2 2 + fld ps 4 2 ≤ fld servo 12 2) &&
  (List.range 8).all (fun k => (s.sched k).phase != 2 || !s.modeHasAxis (s.sched k) a || dwellFits servo ps (s.sched k).period)

/-- R195 for every servo axis of a mode (SCHED_CLOSE). -/
def State.modeDwellFits (s : State) (m : Sched) : Bool :=
  (List.range 128).all (fun a => !s.modeHasAxis m a || dwellFits (s.recLatest .servo a) (s.recLatest .ps a) m.period)

/-! Switching states (Table 2.8, R192). -/

/-- The leg codes of a state. -/
def legCode (npc : Bool) (st leg : Nat) : Nat := if npc then st / 16 ^ leg % 16 else st / 4 ^ leg % 4

/-- Legs whose code differs between two states. -/
def legChanges (npc : Bool) (x y : Nat) : Nat := ((List.range 3).filter (fun l => legCode npc x l != legCode npc y l)).length

/-- Every leg code of a state is one that the stage can take (R192). -/
def stateOk (npc : Bool) (st : Nat) : Bool :=
  decide (st < (if npc then 4096 else 64)) && (List.range 3).all (fun l =>
    let c := legCode npc st l
    if npc then c == 3 || c == 6 || c == 12 else c == 1 || c == 2)

/-- A leg steps directly between P and N (R193). -/
def stepsPN (x y leg : Nat) : Bool :=
  (legCode true x leg == 3 && legCode true y leg == 12) || (legCode true x leg == 12 && legCode true y leg == 3)

/-- A state with the legs that would step between P and N at O, in place of the chosen one; none where it needs none. -/
def viaO (npc : Bool) (old new : Nat) : Option Nat :=
  if npc && (List.range 3).any (stepsPN old new) then
    some ((List.range 3).foldl (fun v l => v + (if stepsPN old new l then 6 else legCode true new l) * 16 ^ l) 0)
  else none

/-! A servo command (Table 2.8). -/

/-- The 12 bytes of a command, without AUX. -/
def servoCmd (s0 s1 s2 ofs1 ofs2 : Nat) : List Byte := le 2 s0 ++ le 2 s1 ++ le 2 s2 ++ le 2 ofs1 ++ le 2 ofs2 ++ le 2 0

/-- Pulse inhibit: CMD 1, all else zero. -/
def inhibitCmd : List Byte := servoCmd 0x1000 0 0 0 0

/-- The command of a first state and at most two transitions. -/
def applyCmd (s0 : Nat) : List (Nat × Nat) → List Byte
  | [] => servoCmd s0 0 0 0 0
  | [(t, x)] => servoCmd s0 (x + 0x1000) 0 t 0
  | (t, x) :: (u, y) :: _ => servoCmd s0 (x + 0x2000) y t u

/-! Motor sets and the thermal model (R187, R188). -/

/-- The tracked motor set in use: the stored one until the axis's first task. -/
def State.trackedMotor (s : State) (a : Nat) : List Byte := if (s.fb a).motFresh then s.cfg .motor a else s.cfg .motorTracked a

/-- The operating point of a cycle against the tag of the tracked motor set with MOT_POLICY, as R160 gives it for calibration:
the state, and whether the set may be tracked. -/
def State.motJudge (s : State) (a : Nat) : State × Bool :=
  let b := s.cfg .motorTracked a
  let load := s.axisLoad a
  let temp := s.tempC a
  let lmin := (fld b 42 2 : Int); let lmax := (fld b 44 2 : Int); let tmin := fldI b 46 1; let tmax := fldI b 47 1
  let out := bit (fld b 48 1) 0 && envelope load temp (s.usesTemp a) lmin lmax tmin tmax (s.fbu a 44 2) (s.fbu a 46 1) == 2
  if !out then ((s.updServo a (fun x => { x with motStale := false })).updFb a (fun x => { x with motBeyond := 0 }), true)
  else
    let s := if (s.servo a).motStale then s else (s.updServo a (fun x => { x with motStale := true })).warn a .motStale
    let n := (s.fb a).motBeyond + 1
    if s.svu a 52 1 = 0 then (s.updFb a (fun x => { x with motBeyond := 0 }), false)
    else if n < s.fbu a 56 4 then (s.updFb a (fun x => { x with motBeyond := n }), true)
    else
      let t (v w : Int) : Int := if s.usesTemp a then v else w
      (((s.recSet .motorTracked a (putEnvelope b 42 (min load lmin) (max load lmax) (t (min temp tmin) tmin) (t (max temp tmax) tmax))).updFb a
        (fun x => { x with motBeyond := 0 })).updServo a (fun x => { x with motStale := false }), true)

/-- A motor set whose tag is not valid takes the operating point of its first tracking step as its envelope (R159, R187). -/
def State.tagMotor (s : State) (a : Nat) : State :=
  let b := s.cfg .motorTracked a
  if bit (fld b 48 1) 0 then s
  else s.recSet .motorTracked a (patch (putEnvelope b 42 (s.axisLoad a) (s.axisLoad a) (s.tempC a) (s.tempC a)) 48 (le 1 (setBit (fld b 48 1) 0 true)))

/-- One tracking step of the motor set (R187): RS at low speed under load, PSI_PM at high speed; base speed lies in the
estimator, the bounds are exact. -/
def State.motorStage (s : State) (a : Nat) (inputs : List Int) : State :=
  let s := if (s.fb a).motFresh then (s.recSet .motorTracked a (s.cfg .motor a)).updFb a (fun x => { x with motFresh := false }) else s
  let (s, go) := s.motJudge a
  let low := decide (Config.estimator 10 inputs % 2 = 1)
  let high := decide (Config.estimator 11 inputs % 2 = 1) && !low
  let rs := low && decide (2 ^ 24 < (s.servo a).tdem.natAbs * 10)
  let psi := high && fld (s.cfg .motorTracked a) 0 1 == 0
  if s.svu a 53 1 = 0 ∨ !go ∨ !(rs || psi) then s
  else
    let s := s.tagMotor a
    let b := s.cfg .motorTracked a
    let put (off k div : Nat) : List Byte := patch b off (le 4 (((fld b off 4 : Nat) : Int) + freeStep k (fld b off 4 / div) inputs).toNat)
    s.recSet .motorTracked a (if rs then put 12 12 (2 ^ 16) else put 24 13 (2 ^ 20))

/-- The thermal model (R188): it starts at T_AMB and moves toward its end value; its step lies between the two. -/
def State.heatStage (s : State) (a : Nat) (inputs : List Int) : State :=
  if s.fbu a 40 1 ≠ 1 then s
  else
    let amb := fldI (s.cfg .motor a) 40 1 * 65536
    let now := ((s.servo a).heat).getD amb
    let goal := max amb (Config.estimator 14 inputs)
    let next := clampInt (min now goal) (max now goal) (Config.estimator 15 inputs)
    let s := s.updServo a (fun x => { x with heat := some next })
    let s := if (s.svu a 54 1 * 65536 : Int) ≤ next then
        (if (s.servo a).warned then s else (s.updServo a (fun x => { x with warned := true })).warn a .motorHot)
      else s.updServo a (fun x => { x with warned := false })
    if (s.svu a 55 1 * 65536 : Int) ≤ next then s.setFaultOnce a 1 .motorHot else s

/-! Currents (R184, R186). -/

/-- Nine times the square of the current vector of R184: (2iu - iv - iw)^2 + 3 (iv - iw)^2, in 2^-32 A^2. -/
def currentSq (i : Int × Int × Int) : Int :=
  (2 * i.1 - i.2.1 - i.2.2) * (2 * i.1 - i.2.1 - i.2.2) + 3 * (i.2.1 - i.2.2) * (i.2.1 - i.2.2)

/-- A sampled current above I_TRIP puts the axis into FC3 (R186). -/
def State.tripStage (s : State) (a : Nat) (i : Int × Int × Int) : State :=
  let t := (s.svu a 48 4 : Int)
  if 9 * t * t < currentSq i then s.setFaultOnce a 3 .overcurrent else s

/-! Cascades (R197, R198). -/

/-- The torque limit in force: TMAX, or HS_TORQUE while homing method 5 creeps (R236). -/
def State.torqueLimit (s : State) (a : Nat) : Int :=
  let t := (s.svu a 16 4 : Int)
  match (s.motion a).homing with
  | some h => if h.method = 5 ∧ !h.latched then min t (s.ru .motion a 96 4) else t
  | none => t

/-- The speed step: the integrator over the time since the last committed step, and the output (R198). -/
def State.speedStep (s : State) (a n : Nat) (held : Bool) : State :=
  let x := s.servo a
  let lsb := s.lsbPerU a
  let scale : Nat := 100000000 * lsb
  let ew := x.wRef - (s.fb a).speed
  let span := match x.lastSpd with | some c => cycDiff n c | none => s.svu a 1 1
  let kp := (s.svu a 20 4 : Int) * 256 * ew * 100000000
  let lim := (s.svu a 16 4 : Int) * scale
  let step := (s.svu a 24 4 : Int) * 256 * ew * (span * s.r .CYC_PERIOD_PERIOD : Nat)
  let wound := (0 < x.lim ∧ 0 < step) ∨ (x.lim < 0 ∧ step < 0)
  let i := if held then 0 else if wound then x.integ else clampInt (-lim) lim (x.integ + step)
  s.updServo a (fun y => { y with integ := i, out := divRound (kp + i) scale, lastSpd := some n })

/-- A change of CMODE presets the integrator so that T* does not step (R198). -/
def State.modeStage (s : State) (a : Nat) : State :=
  let x := s.servo a
  let c := s.svu a 0 1
  let s := s.w .SV_STAT_CMODE a c
  if x.cmode = c then s
  else
    let scale : Nat := 100000000 * s.lsbPerU a
    let lim := (s.svu a 16 4 : Int) * scale
    let ew := x.wRef - (s.fb a).speed
    let i := x.tdem * scale - (s.svu a 20 4 : Int) * 256 * ew * 100000000
    s.updServo a (fun y => { y with cmode := c, integ := clampInt (-lim) lim i, out := x.tdem })

/-- The torque feed-forward AFF J aff (R198). -/
def State.feedForward (s : State) (a : Nat) (inputs : List Int) : Int :=
  if s.svu a 34 2 = 0 ∨ fld (s.trackedMotor a) 36 4 = 0 ∨ (s.motion a).a = 0 then 0 else Config.estimator 16 inputs

/-- T* of a cycle (R186, R197, R198); where the torque set-point of CMODE 0 comes from is not stated, and it is free (log 58). `held` holds the integrator at zero (R213). -/
def State.cascade (s : State) (a n : Nat) (held : Bool) (inputs : List Int) : State :=
  let s := s.modeStage a
  let m := s.motion a
  let c := s.svu a 0 1
  let s := if c = 2 ∧ n % max 1 (s.svu a 2 1) = 0 then
      s.updServo a (fun x => { x with wRef := divRound ((s.svu a 28 4 : Int) * (m.p - (s.fb a).pos) + 2 * (s.svu a 32 2 : Int) * m.v) 65536 })
    else if c = 1 ∧ n % max 1 (s.svu a 1 1) = 0 then s.updServo a (fun x => { x with wRef := m.v })
    else s
  let s := if 1 ≤ c ∧ n % max 1 (s.svu a 1 1) = 0 then s.speedStep a n held else s
  let t := (if c = 0 then Config.estimator 17 inputs else (s.servo a).out) + s.feedForward a inputs
  let lim := s.torqueLimit a
  let td := clampInt (-lim) lim t
  (s.updServo a (fun x => { x with tdem := td, lim := if td < t then 1 else if t < td then -1 else 0 })).wI .SV_TDEM_TDEM a td

/-! The choice of states (R190 to R194). -/

/-- The torque band in use, in 1/65,536 of rated torque; it starts at BT_MIN (R196). -/
def State.bandOf (s : State) (a : Nat) : Nat := if s.r .SV_BAND_BT a = 0 then s.svu a 4 2 else s.r .SV_BAND_BT a

/-- The state that the selection map gives for a sector and code; 0xFF keeps the state in force (R191). -/
def State.mapState (s : State) (a sector code keep : Nat) : Nat :=
  let e := s.ru .selMap a (sector * 8 + code) 1
  if e = 0xFF then keep else s.ru .vt a (4 * e) 2 % 4096

/-- The errors of R190 as Q1.31, clamped to the format. -/
def q31 (x : Int) : Int := clampInt (-(2 ^ 31)) (2 ^ 31 - 1) x

/-- ψ* of R190: PSI_REF, or less under field weakening, from the estimator. -/
def State.fluxRef (s : State) (a : Nat) (inputs : List Int) : Int :=
  let r := (s.svu a 36 4 : Int)
  if (s.fb a).speed = 0 then r else clampInt 0 r (Config.estimator 20 inputs)

/-- A transition is placed: raised to MIN_DWELL, dropped where it is too late, too close to the one before it, or changes
nothing (R194). -/
def place1 (n dwell : Nat) (prev : Nat) (prevT : Option Nat) (t : Nat) (st : Nat) : Option (Nat × Nat) :=
  let t := max t dwell
  if st = prev then none
  else if n < t + dwell then none
  else match prevT with
    | some p => if t < p + dwell then none else some (t, st)
    | none => some (t, st)

/-- Where the error goes under a state: the time to the edge it moves toward, and the edge's sign (R126, R194). -/
def edgeTime (e slope b : Int) (n : Nat) : Option (Nat × Bool) :=
  let w := predict e slope b n
  if w = 0xFFFFFFFF ∨ n ≤ w.toNat then none else some (w.toNat, decide (0 < slope))

/-- The transitions of a command whose first state is `s0`, for a torque error and band, a flux decision and a sector. -/
def State.transitions (s : State) (a n dwell sector flux s0 : Nat) (e b : Int) (inputs : List Int) : List (Nat × Nat) :=
  match edgeTime e (q31 (Config.estimator 21 (inputs ++ [(s0 : Int)]))) b n with
  | none => []
  | some (t1, up) =>
    let s1 := s.mapState a sector (4 * flux) s0
    let first := place1 n dwell s0 none t1 s1
    match first, viaO (s.npc a) s0 s1 with
    | some f, some mid => [(f.1, mid)] ++ (place1 n dwell mid (some f.1) (f.1 + dwell) s1).toList
    | _, _ =>
      match edgeTime (if up then b else -b) (q31 (Config.estimator 22 (inputs ++ [(s1 : Int)]))) b n with
      | none => first.toList
      | some (t2, up2) =>
        let s2 := s.mapState a sector (4 * flux + (if up2 then 1 else 3)) s1
        if (viaO (s.npc a) s1 s2).isSome then first.toList
        else first.toList ++ (place1 n dwell s1 (first.map (·.1)) (t1 + t2) s2).toList

/-- Count the changes of leg codes of a command (R196). -/
def State.countLegs (s : State) (a s0 : Nat) (tr : List (Nat × Nat)) : State :=
  let npc := s.npc a
  let step (r : Nat × Nat) (x : Nat) : Nat × Nat := (r.1 + legChanges npc r.2 x, x)
  let r := (s0 :: tr.map (·.2)).foldl step (0, (s.servo a).lastState)
  s.updServo a (fun x => { x with lastState := r.2, trans := x.trans + r.1 })

/-- Choose the command of an axis that switches (R190 to R194). -/
def State.choose (s : State) (a : Nat) (inputs : List Int) : State × List Byte :=
  let x := s.servo a
  let n := s.cycleN
  let dwell := s.svu a 12 2
  let aligning := x.align.isSome
  let torque := Config.estimator 23 inputs
  let psi := Config.estimator 24 inputs
  let ref := max 1 (s.svu a 36 4)
  let eT := if aligning then q31 (Config.estimator 25 inputs) else q31 ((x.tdem - torque) * 32)
  let eF := if aligning then q31 (Config.estimator 26 inputs) else q31 (divRound ((s.fluxRef a inputs - psi) * 2 ^ 31) (2 * ref))
  let bT : Int := if aligning then 2 ^ 25 else s.bandOf a * 8192
  let bF : Int := if aligning then 2 ^ 25 else s.svu a 8 2 * 16384
  let code := hysteresis eT eF bT bF x.code
  let past := decide ((s.svu a 44 4 : Int) < Config.estimator 27 inputs)
  let code := if past then bits code 2 2 * 4 + (if 0 < torque then 3 else 1) else code
  let s := s.wb .SV_STAT_CUR_LIMIT a past
  let s := if past && !(s.axis a).causes.contains (.curLimit, 0) then s.warn a .curLimit else s
  let s := s.updServo a (fun y => { y with code := code })
  let angle := ofSigned 32 (Config.estimator 28 inputs)
  let sector := angle * s.svu a 3 1 / 2 ^ 32
  let want := s.mapState a sector code x.lastState
  match viaO (s.npc a) x.lastState want with
  | some mid =>
    let tr := (place1 n dwell mid none dwell want).toList
    (s.countLegs a mid tr, applyCmd mid tr)
  | none =>
    let tr := s.transitions a n dwell sector (bits code 2 2) want eT bT inputs
    (s.countLegs a want tr, applyCmd want tr)

/-- The control stage of a servo task of cycle n, after feedback and motion: it stages the command of the axis. `u` is its
uplink where one was accepted. -/
def State.controlStage (s : State) (a n elapsed : Nat) (u : Option (List Byte)) : State × List Byte :=
  let x := s.servo a
  let i := match u with | some b => s.currents a b | none => (0, 0, 0)
  let udc := match u with | some b => fld b 6 2 | none => 0
  let s := if u.isSome then s.updServo a (fun y => { y with udcs := (udc :: y.udcs).take 16 }) else s
  let m := s.motion a
  let inputs : List Int := [(a : Int), (n : Int), i.1, i.2.1, i.2.2, (udc : Int), ((s.fb a).theta : Int), (s.fb a).speed, m.a, x.tdem,
    ((s.servo a).udcs.sum : Nat), (x.lastState : Int), ((s.fb a).temp : Int)]
  let s := if u.isSome then s.tripStage a i else s
  let s := s.heatStage a inputs
  let s := s.motorStage a inputs
  let held := decide (3 ≤ s.fc a)
  let s := s.cascade a n held inputs
  let s := s.updServo a (fun y => { y with cycles := y.cycles + 1, align := y.align.map (· + elapsed * s.r .CYC_PERIOD_PERIOD) })
  let noComm := !s.linear a && s.r .FB_STAT_COMM_STATE a == 0 && (s.servo a).align.isNone
  let s := (s.wb .SV_STAT_NO_COMM a noComm).w .SV_BAND_BT a (s.bandOf a)
  if noComm || decide (3 ≤ s.fc a) then
    (s.updServo a (fun y => { y with lastState := 0, trans := y.trans + legChanges (s.npc a) y.lastState 0 }), inhibitCmd)
  else s.choose a inputs

/-- The band at the end of a block of 1,024 cycles (R196): the rate is compared exactly; a scaled band is rounded freely. -/
def State.bandUpdate (s : State) (a : Nat) : State :=
  let x := s.servo a
  let time := 3 * 1024 * s.r .CYC_PERIOD_PERIOD
  let rate := x.trans * 100000000
  let target := s.svu a 10 2 * 10 * time
  let (f, s) := s.freeDiv rate time
  let s := (s.updServo a (fun y => { y with trans := 0, cycles := 0 })).w .SV_SWF_SWF a f.toNat
  let bt := s.bandOf a
  if s.svu a 10 2 = 0 then (s.w .SV_BAND_BT a (s.svu a 4 2)).wb .SV_STAT_BAND_LIMIT a false
  else
    let (bt, s) :=
      if 17 * target < 16 * rate then let (v, s) := s.freeDiv (bt * 17) 16; (min (s.svu a 6 2) v.toNat, s)
      else if 16 * rate < 15 * target then let (v, s) := s.freeDiv (bt * 15) 16; (max (s.svu a 4 2) v.toNat, s)
      else (bt, s)
    (s.w .SV_BAND_BT a bt).wb .SV_STAT_BAND_LIMIT a (bt == s.svu a 6 2 && decide (target < rate))

end Sys2Proof.Machine
end

