-- ==== Sys2Proof/Machine/Plan.lean ====
section
/-! DEFINITION. Sys2Proof/Machine/Plan.lean: the admission of a schedule mode (R18, R20, R24, R77, R133, R136, R141), its break class (R41)
and re-planning (R472). Times are in 1.25 ns clocks, rounded up to 10 ns where R23 rounds. -/

namespace Sys2Proof.Machine

/-! The planned run of one cycle (R141). -/

/-- A task of a planned cycle: its descriptor, the clock its inputs are planned for, and the clock before which it is not
planned ready in a twin pair (R362). -/
structure PlanTask where
  die : Nat
  index : Nat
  desc : List Byte
  base : Nat
  least : Nat := 0
  deriving DecidableEq, Repr

/-- The counters of the arrival map of a mode's segments, with the segment. -/
def State.mapped (s : State) (k : Nat) (m : Sched) : List (Seg × List (Nat × Nat)) :=
  m.segs.filterMap (fun g =>
    if g.ty = 5 then none else
      match Tbl.get [] s.arrMap ((k * 256 + g.addr) * 8 + g.ty) with
      | [] => none
      | l => some (g, l))

/-- Planned arrival of a segment, in clocks: the first uplink arrival and the end of the segment, rounded up to 10 ns. -/
def State.plannedArrival (s : State) (m : Sched) (g : Seg) : Nat :=
  8 * divCeil (s.firstUplink m * 1000 + (g.off + g.len) * s.byteTime) 1000

/-- A descriptor's counter is a given one. -/
def ownCtr (b : List Byte) (ctr : Nat) : Bool := descCtr b == ctr

/-- A successor field of a descriptor names a counter of a die (log 15). -/
def namesSucc (b : List Byte) (die ctr : Nat) : Bool := descSucc0 b == die * 1024 + ctr || descSucc1 b == die * 1024 + ctr

/-- The planned time of a task's own inputs: its mapped segments and its DUE. -/
def State.planBase (s : State) (k : Nat) (m : Sched) (die : Nat) (b : List Byte) : Nat :=
  let arr := if descCtr b = 0xFFFF then 0
    else ((s.mapped k m).filter (fun e => e.2.contains (die, descCtr b))).foldl (fun v e => max v (s.plannedArrival m e.1)) 0
  max arr (if descDelayed b then descDue b else 0)

/-- The least planned ready time of a task in a twin pair (R362): 1.00 us after the tick, and the departure of its previous slot
plus TWIN_LAT plus 0.10 us. -/
def State.planLeast (s : State) (m : Sched) (b : List Byte) : Nat :=
  if s.rb .TWIN_CFG_ENABLE then
    max 800 (match m.slot b with | some g => divCeil (s.departure g) 125 + s.r .TWIN_LAT_LAT + 80 | none => 0)
  else 0

/-- What the planner holds while it runs a cycle: tasks left, planned ends, when each core and flow is free. -/
structure PlanRun where
  left : List PlanTask
  ends : List (Nat × Nat × Nat) := []
  cores : Tbl Nat := []
  flows : Tbl Nat := []
  deriving DecidableEq, Repr

/-- Every predecessor of a task has been planned. -/
def PlanRun.known (r : PlanRun) (t : PlanTask) : Bool :=
  descCtr t.desc == 0xFFFF || !r.left.any (fun p => namesSucc p.desc t.die (descCtr t.desc))

/-- The planned ready time: the latest of inputs, DUE and predecessors' commits, plus 20 ns. -/
def PlanRun.ready (r : PlanRun) (preds : List (Nat × Nat × List Byte)) (t : PlanTask) : Nat :=
  let p := (preds.filter (fun d => descCtr t.desc != 0xFFFF && namesSucc d.2.2 t.die (descCtr t.desc))).foldl
    (fun v d => match r.ends.find? (fun e => e.1 == d.1 && e.2.1 == d.2.1) with | some e => max v e.2.2 | none => v) 0
  max t.least (max t.base p + 16)

/-- The clock at which a task can start. -/
def PlanRun.start (r : PlanRun) (ready : Nat) (t : PlanTask) : Nat :=
  max ready (max (Tbl.get 0 r.cores (t.die * 16 + descCore t.desc))
    (if descFlow t.desc = 0xFFFF then 0 else Tbl.get 0 r.flows (t.die * 512 + descFlow t.desc)))

/-- One candidate goes before another: it starts earlier, or under R137 in the same clock. -/
def planBefore (a b : Nat × Nat × PlanTask) : Bool :=
  decide (a.1 < b.1) || (a.1 == b.1 &&
    (decide (descPrio b.2.2.desc < descPrio a.2.2.desc) || (descPrio a.2.2.desc == descPrio b.2.2.desc &&
      (decide (a.2.1 < b.2.1) || (a.2.1 == b.2.1 && decide (a.2.2.index ≤ b.2.2.index))))))

/-- The candidate that goes first. -/
def planFirst : List (Nat × Nat × PlanTask) → Option (Nat × Nat × PlanTask)
  | [] => none
  | c :: cs => match planFirst cs with
    | none => some c
    | some d => if planBefore c d then some c else some d

/-- Run a planned cycle: each task in its turn for its WCET, without pre-emption; the planned ends, or none where a task can
never become ready. `fuel` is the number of tasks. -/
def planCycle (preds : List (Nat × Nat × List Byte)) : Nat → PlanRun → Option (List (Nat × Nat × Nat))
  | 0, r => if r.left = [] then some r.ends else none
  | fuel + 1, r =>
    if r.left = [] then some r.ends
    else
      let cands := (r.left.filter r.known).map (fun t => let d := r.ready preds t; (r.start d t, d, t))
      match planFirst cands with
      | none => none
      | some (at_, _, t) =>
        let stop := at_ + descWcet t.desc
        planCycle preds fuel { r with
          left := r.left.filter (fun u => !(u.die == t.die && u.index == t.index))
          ends := (t.die, t.index, stop) :: r.ends
          cores := Tbl.set 0 r.cores (t.die * 16 + descCore t.desc) stop
          flows := if descFlow t.desc = 0xFFFF then r.flows else Tbl.set 0 r.flows (t.die * 512 + descFlow t.desc) stop }

/-- Descriptors of every die, with die and index. -/
def State.allDescs (s : State) : List (Nat × Nat × List Byte) := s.descs.map (fun e => (e.1 / 4096, e.1 % 4096, e.2))

/-- The descriptors that take part in some cycle of mode k. -/
def modeDescs (ds : List (Nat × Nat × List Byte)) (k : Nat) : List (Nat × Nat × List Byte) := ds.filter (fun d => partakesMode d.2.2 k)

/-- One cycle of the pattern passes R141: it can be planned, every task ends in time, and at most 256 descriptors of one
priority of one die take part. -/
def State.cycleFits (s : State) (ds : List (Nat × Nat × List Byte)) (k : Nat) (m : Sched) (n : Nat) : Bool :=
  let now := ds.filter (fun d => partakes d.2.2 k n)
  let tasks := (now.filter (fun d => descCtr d.2.2 != 0xFFFF || descDelayed d.2.2)).map
    (fun d => ({ die := d.1, index := d.2.1, desc := d.2.2, base := s.planBase k m d.1 d.2.2, least := s.planLeast m d.2.2 } : PlanTask))
  let ends := planCycle (tasks.map (fun t => (t.die, t.index, t.desc))) tasks.length { left := tasks }
  (List.range 4).all (fun g => (List.range 8).all (fun p =>
    decide ((now.filter (fun d => d.1 == g && descPrio d.2.2 == p)).length ≤ 256))) &&
  match ends with
  | none => false
  | some l => l.all (fun e =>
      match ds.find? (fun d => d.1 == e.1 && d.2.1 == e.2.1) with
      | none => true
      | some d => decide ((e.2.2 : Int) ≤ (m.period * 8 : Nat) - 400) &&
          (match m.slot d.2.2 with
            | some g => decide ((e.2.2 : Int) ≤ s.taskCut m (some g) - 16)
            | none => true))

/-- The length of the pattern of dividers (R26). -/
def patternLength (ds : List (Nat × Nat × List Byte)) : Nat := ds.foldl (fun v d => Nat.lcm v (descDiv d.2.2)) 1

/-- Every cycle of the divider pattern fits (R141). -/
def State.loadFits (s : State) (ds : List (Nat × Nat × List Byte)) (k : Nat) (m : Sched) : Bool :=
  let here := modeDescs ds k
  (List.range (patternLength here)).all (fun n => s.cycleFits here k m n)

/-- Two descriptors of one die take part in one cycle of a mode of a mask. -/
def meet (a b : List Byte) (modes : Nat) : Bool :=
  (descSmask a &&& descSmask b &&& modes) != 0 && descPhase a % Nat.gcd (descDiv a) (descDiv b) == descPhase b % Nat.gcd (descDiv a) (descDiv b)

/-- No two enabled descriptors share a counter in a cycle of the modes of a mask (R133). -/
def ctrsApart (modes : Nat) : List (Nat × Nat × List Byte) → Bool
  | [] => true
  | d :: ds =>
    (!(descEnabled d.2.2 && descCtr d.2.2 != 0xFFFF) ||
      ds.all (fun e => !(e.1 == d.1 && descEnabled e.2.2 && descCtr e.2.2 == descCtr d.2.2 && meet d.2.2 e.2.2 modes))) &&
    ctrsApart modes ds

/-- The RELOAD that R133 asks of a counter in a mode. -/
def State.dueReload (s : State) (ds : List (Nat × Nat × List Byte)) (k : Nat) (m : Sched) (die ctr : Nat) (own : List Byte) : Nat :=
  ((s.mapped k m).filter (fun e => e.2.contains (die, ctr))).length +
    (ds.filter (fun d => namesSucc d.2.2 die ctr)).length + b2n (descDelayed own)

/-- The RELOAD of a counter after the next tick. -/
def State.reloadLatest (s : State) (g ctr : Nat) : Nat :=
  match s.reloadNext.find? (fun e => e.1 == g * 1024 + ctr) with
  | some e => e.2
  | none => Tbl.get 0 s.reload (g * 1024 + ctr)

/-- Every counter of the mode holds the RELOAD of R133. -/
def State.reloadsFit (s : State) (ds : List (Nat × Nat × List Byte)) (k : Nat) (m : Sched) : Bool :=
  let here := modeDescs ds k
  here.all (fun d => descCtr d.2.2 == 0xFFFF || s.reloadLatest d.1 (descCtr d.2.2) == s.dueReload here k m d.1 (descCtr d.2.2) d.2.2)

/-- DUE lies before the task's cutoff in a mode (R136). -/
def State.dueFits (s : State) (m : Sched) (b : List Byte) : Bool :=
  !descDelayed b || decide ((descDue b : Int) < s.taskCut m (m.slot b))

/-! Nodes of a mode (R77). -/

/-- The node addresses of a mode. -/
def Sched.nodes (m : Sched) : List Nat := ((m.segs.filter (fun g => g.ty != 5)).map (·.addr)).eraseDups

/-- The node has claimed since the head last left OFF. -/
def State.claimed (s : State) (a : Nat) : Bool := (s.hnode a).claim != []

/-- PREP_IN and PREP_OUT of a node, zero where it has not claimed. -/
def State.prepIn (s : State) (a : Nat) : Nat := fld (s.hnode a).claim 11 2
def State.prepOut (s : State) (a : Nat) : Nat := fld (s.hnode a).claim 13 2

/-- A segment lies within a declared capacity (Table 3.3). -/
def capacityHolds (claim : List Byte) (g : Seg) : Bool :=
  match g.ty with
  | 1 => decide (g.pa ≤ fld claim 23 1)
  | 2 => decide (g.pa ≤ fld claim 24 1) && decide (g.pb ≤ fld claim 28 1) && decide (g.pc ≤ fld claim 25 1)
  | 3 => decide (g.pa ≤ fld claim 26 1) && decide (g.pb ≤ fld claim 27 1) && decide (g.pc ≤ fld claim 28 1)
  | 4 => bit (fld claim 17 2) 0
  | _ => true

/-- A mode keeps what one claimed node declared: its capacity, its preparation times and KEEPER. -/
def State.declarationHolds (s : State) (m : Sched) (a : Nat) : Bool :=
  !s.claimed a ||
    ((m.segs.filter (fun g => g.ty != 5 && g.addr == a)).all (capacityHolds (s.hnode a).claim) &&
      decide (s.prepIn a ≤ m.tinLead) && decide (s.inputsComplete m + s.prepOut a ≤ m.period + m.toutOfs) &&
      (!m.keepers.contains a || bit (fld (s.hnode a).claim 17 2) 0))

/-- R18, R20 and the first case of R24 hold, and a plan exists (R24, R141). -/
def State.timesFit (s : State) (ds : List (Nat × Nat × List Byte)) (k : Nat) (m : Sched) : Bool :=
  decide (m.tinLead ≤ m.period / 2) && (!m.segs.any (fun g => g.ty == 1) || decide (m.period ≤ 8192)) &&
    (0 :: m.nodes.map s.prepOut).all (fun p => decide (s.inputsComplete m + p ≤ m.period + m.toutOfs)) &&
    (modeDescs ds k).all (fun d => s.dueFits m d.2.2) && s.loadFits ds k m

/-- SCHED_CLOSE admits mode k (R77, R133). -/
def State.admits (s : State) (k : Nat) (m : Sched) : Bool :=
  s.timesFit s.allDescs k m && decide (m.nodes.length ≤ 160) && m.nodes.all (s.declarationHolds m) &&
    m.segs.any (fun g => g.ty == 5 && decide (16 ≤ g.pa)) &&
    (m.keepers == [] || (decide (3 ≤ m.keepers.length) && decide (m.keepers.length ≤ 16))) &&
    m.keepers.all (fun a => bit (fld (s.hnode a).claim 17 2) 0) &&
    (List.range 8).all (fun j => j == k || (s.sched j).phase != 2 || decide (Nat.lcm m.period (s.sched j).period ≤ 100000000)) &&
    ctrsApart (2 ^ k) s.allDescs && s.reloadsFit s.allDescs k m && decide (frameLen m.segs ≤ 65535)

/-- The largest WCET of an axis task of a mode (R41), in 10 ns rounded up. -/
def State.largestWcet (s : State) (k : Nat) (m : Sched) : Nat :=
  divCeil (((modeDescs s.allDescs k).filter (fun d => (m.slot d.2.2).isSome)).foldl (fun v d => max v (descWcet d.2.2)) 0) 8

/-- The break class of a mode (R41): 0 tolerant, 1 lagged, 2 uncovered. -/
def State.breakClass (s : State) (k : Nat) (m : Sched) : Nat :=
  let b := s.breakArrival m
  let w := s.largestWcet k m
  if w + b + Config.builderLead ≤ m.period then 0 else if w + b + Config.builderLead ≤ 2 * m.period then 1 else 2

/-- Plan a mode: inputs complete, break arrival and class. -/
def State.planMode (s : State) (k : Nat) (m : Sched) : Sched :=
  { m with inDone := s.inputsComplete m, brk := s.breakArrival m, cls := s.breakClass k m }

/-- Show the plan of the mode in force. -/
def State.showPlan (s : State) : State :=
  if s.cyclic then
    let m := s.sched s.mode
    let s := (s.w .CYC_INDONE_INDONE 0 (max m.inDone (s.r .CYC_INDONE_INDONE))).w .RING_STAT_BRK_CLASS 0 m.cls
    (s.w .RING_BRK_INDONE_BRK 0 m.brk).wI .CYC_WINDOW_WINDOW 0 (computeWindow m.period (s.r .CYC_INDONE_INDONE))
  else s

/-- Re-plan every closed mode (R472, R444): one that no longer fits stays closed and raises CYCLE_MARGIN. -/
def State.replan (s : State) : State :=
  ((List.range 8).foldl (fun u k =>
    let m := u.sched k
    if m.phase = 2 then
      let n := u.planMode k m
      let fits := u.timesFit u.allDescs k n
      let u := u.updSched k (fun _ => { n with noFit := !fits })
      if fits then u else u.raise .cycleMargin 0
    else u) s).showPlan

end Sys2Proof.Machine
end

