-- ==== Sys2Proof/Machine/Work.lean ====
section
/-! DEFINITION. Sys2Proof/Machine/Work.lean: the Grate: dispatch (R137 to R142), delay lists (R135), posts (R143), moves (R138), the slot
cutoff (R146, R58), the trace stream (R449), and the opcodes of Table 5.8. -/

namespace Sys2Proof.Machine

/-! Dispatch. -/

/-- The bank bit of a core (R419). -/
def State.bankOf (s : State) (n : Nat) : Nat :=
  b2n (if n < 32 then bit (s.r .FW_BANK_LO_BANK) n else bit (s.r .FW_BANK_HI_BANK) (n - 32))

/-- A flow is held by a running task of the die (R139). -/
def State.flowHeld (s : State) (g flow : Nat) : Bool :=
  flow != 0xFFFF && (List.range 16).any (fun k => match (s.core (g * 16 + k)).task with | some t => descFlow t.bytes == flow | none => false)

/-- A move that is due holds the tasks of its cycle on both its cores (R138, Table 5.4). -/
def State.moveHolds (s : State) (g core cycle : Nat) : Bool :=
  (s.grate g).moves.any (fun m => decide (cycDiff cycle m.cycle < 2 ^ 31) && decide (cycDiff s.cycle m.cycle < 2 ^ 31) &&
    (m.core == core || descCore (s.desc g m.desc) == core))

/-- A change of programs whose tick has come holds the tasks of its cycle until it is made (R419, R422). -/
def State.bankHolds (s : State) (cycle : Nat) : Bool :=
  let due (c : Nat) : Bool := decide (cycDiff cycle c < 2 ^ 31) && decide (cycDiff s.cycle c < 2 ^ 31)
  (s.r .UPD_CYCLE_CYCLE != 0xFFFFFFFF && due (s.r .UPD_CYCLE_CYCLE)) || (match s.update.fall with | some f => due f.1 | none => false)

/-- A loop core is worn (R445). -/
def State.worn (s : State) (n : Nat) : Bool :=
  if n < 32 then bit (s.r .AG_CORE_LO_WORN) n else bit (s.r .AG_CORE_HI_WORN) (n - 32)

/-- One ready entry is taken before another (R137). -/
def ReadyEntry.before (a b : ReadyEntry) : Bool :=
  decide (b.prio < a.prio) || (a.prio == b.prio && (decide (a.since < b.since) || (a.since == b.since && decide (a.desc ≤ b.desc))))

/-- The entries of a core in the order in which they are looked at. -/
def State.coreEntries (s : State) (n : Nat) : List ReadyEntry :=
  orderBy (fun a b => a.before b) (((s.grate (n / 16)).ready.filter (fun e => e.core == n % 16)).filter
    (fun e => s.begun e.cycle && !s.moveHolds (n / 16) (n % 16) e.cycle && !s.bankHolds e.cycle && s.twinGate (n / 16) e.desc e.cycle))

/-- Mark and trace the entries that a held flow passes over for the first time (R139, Table 5.6). -/
def State.passOver (s : State) (g : Nat) (l : List ReadyEntry) : State :=
  l.foldl (fun u e =>
    if e.waited then u
    else (u.updGrate g (fun x => { x with ready := x.ready.map (fun r => if r.desc = e.desc ∧ r.cycle = e.cycle then { r with waited := true } else r) })).trace
      g .flowWait e.cycle e.desc 0 0) s

/-- Start a task on its core (R137, R140, R142). -/
def State.startTask (s : State) (n : Nat) (e : ReadyEntry) : State :=
  let g := n / 16
  let b := e.bytes
  let wait := s.clk - e.since
  let lat := s.clk - max e.since (s.core n).idleAt
  let s := s.updGrate g (fun x => { x with ready := x.ready.filter (fun r => !(r.desc == e.desc && r.cycle == e.cycle)) })
  let s := (s.w .LC_STAT_STATE n 1).inc .GR_DISPATCH_COUNT g
  let s := if !e.waited && decide (s.r .GR_LATMAX_CLOCKS g < lat) then s.w .GR_LATMAX_CLOCKS g (min 65535 lat) else s
  let s := if s.r .GR_LATMAX_WAITMAX g < wait then s.w .GR_LATMAX_WAITMAX g (min 65535 wait) else s
  let t : Task :=
    { desc := e.desc, cycle := e.cycle, inst := e.inst, flags := e.flags, arr := e.arr, since := s.clk, bytes := b
      input := s.inputArea g (descCtr b) e.inst, mode := s.modeOf e.inst }
  let d : Tbl W32 := Tbl.set 0 (Tbl.set 0 (Tbl.set 0 [] 0 (BitVec.ofNat 32 e.cycle)) 1 (BitVec.ofNat 32 (descArg b))) 2 (BitVec.ofNat 32 e.flags)
  let a : Tbl W32 := Tbl.set 0 (Tbl.set 0 (Tbl.set 0 (Tbl.set 0 [] 0 0x800000) 1 (BitVec.ofNat 32 (0x10000 + descSvbase b))) 2 0x800100) 3 0x801000
  let s := s.updCore n (fun x =>
    { view := x.view, prog := x.prog, idleAt := x.idleAt, pc := descEntry b, d := d, a := a, task := some t, bank := s.bankOf n })
  (s.w .LC_STAT_PC n (descEntry b)).trace g .dispatch e.cycle e.desc 0 wait

/-- TASK_DISPATCH (R137, R139, R140): an idle core takes its first entry whose flow is free; with none, nothing happens. -/
def execTaskDispatch (core : Fin 64) (s : State) : Host.Outcome State Fault Refusal :=
  let n := core.val
  let g := n / 16
  if s.r .LC_STAT_STATE n ≠ 0 then .next s
  else
    let l := s.coreEntries n
    let held (e : ReadyEntry) : Bool := s.flowHeld g (descFlow e.bytes)
    let s := s.passOver g (l.takeWhile held)
    match l.find? (fun e => !held e) with
    | some e => .next (s.startTask n e)
    | none => .next s

/-! Delay lists, posts and moves. -/

/-- DELAY_DUE (R135): the first entry of the die whose DUE has come leaves the list, and readies its descriptor or counts for
it; with none due, nothing happens. -/
def execDelayDue (die : Fin 4) (s : State) : Host.Outcome State Fault Refusal :=
  let g := die.val
  match (s.grate g).delay with
  | [] => .next s
  | e :: rest =>
    if s.sinceTick e.cycle < e.due then .next s
    else
      let b := s.desc g e.desc
      let s := s.updGrate g (fun x => { x with delay := rest })
      let s := s.trace g .delayDue e.cycle e.desc (if descCtr b = 0xFFFF then 0 else descCtr b) 0
      .next (if descCtr b = 0xFFFF then s.makeReady g e.desc e.cycle e.cycle 0 0 else s.decrement g (descCtr b) e.cycle id)

/-- TASK_POST (R143): the task that runs on a core posts a descriptor of its die. -/
def execTaskPost (core : Fin 64) (desc : Fin 4096) (s : State) : Host.Outcome State Fault Refusal :=
  match (s.core core.val).task with
  | none => .next s
  | some t =>
    let (s, ok) := s.post (core.val / 16) desc.val t.cycle
    .next (s.updCore core.val (fun x => { x with postRefused := !ok }))

/-- Put a descriptor's CORE in force and in what waits for the tick. -/
def State.rebind (s : State) (g desc core : Nat) : State :=
  let k := g * 4096 + desc
  let put (b : List Byte) : List Byte := patch b 3 (le 1 core)
  { s with
    descs := Tbl.modify [] s.descs k put
    descsNext := Tbl.modify [] s.descsNext k put
    grates := Tbl.modify {} s.grates g (fun x => { x with ready := x.ready.map (fun e => if e.desc = desc then { e with core := core, bytes := put e.bytes } else e) }) }

/-- Copy committed state-view lines from one core to another. -/
def State.copyView (s : State) (old new off n : Nat) : State :=
  let b := (s.core old).view.readN off n
  s.updCore new (fun x => { x with view := x.view.writeN off b })

/-- STATE_MOVE (R138): the first move of the die whose tick has come is made, once no task of an earlier cycle runs on the old
core. -/
def execStateMove (die : Fin 4) (s : State) : Host.Outcome State Fault Refusal :=
  let g := die.val
  match (s.grate g).moves.find? (fun m => decide (cycDiff s.cycle m.cycle < 2 ^ 31)) with
  | none => .next s
  | some m =>
    let b := s.desc g m.desc
    let old := g * 16 + descCore b
    if (s.core old).task.isSome then .next s
    else
      let s := s.copyView old (g * 16 + m.core) (descSvbase b) (32 * m.lines)
      let s := s.updGrate g (fun x => { x with moves := x.moves.filter (fun r => r != m) })
      .next (s.rebind g m.desc m.core)

/-- TRACE_DRAIN (R147, R449): the oldest record leaves the buffer for the die's area in MEM. -/
def execTraceDrain (die : Fin 4) (s : State) : Host.Outcome State Fault Refusal :=
  let g := die.val
  match (s.grate g).trace with
  | [] => .next s
  | r :: rest =>
    let n := s.r .TRACE_WR_COUNT g
    let s := s.updGrate g (fun x => { x with trace := rest, area := Tbl.set [] x.area (n % 1048576) r })
    let s := s.w .GR_TRACE_FILL_FILL g rest.length
    .next ((s.wb .GR_STAT_TRACE_FULL g false).w .TRACE_WR_COUNT g ((n + 1) % 2 ^ 32))

/-! The slot cutoff (R146). -/

/-- A mapped segment of a counter came in no copy in a frame: it counts once in NODE_LOST (R58). -/
def State.countLost (s : State) (g ctr frame : Nat) : State :=
  s.arrMap.foldl (fun u e =>
    let x := Tbl.get {} u.segIn (e.1 % 2048)
    if e.1 / 2048 == u.mode && e.2.contains (g, ctr) && (x.of frame).isNone && x.lostAt != frame + 1 then
      ({ u with segIn := Tbl.modify {} u.segIn (e.1 % 2048) (fun y => { y with lostAt := frame + 1 }) }).inc .NODE_LOST_LOST (e.1 / 8 % 256)
    else u) s

/-- The cutoff of a running task: ABORT, an overrun, an empty slot (R121, R146). -/
def State.cutRunning (s : State) (n : Nat) (t : Task) : State :=
  let g := n / 16
  let s := s.trace g .abortRun t.cycle t.desc 0 (s.clk - t.since)
  let s := s.leaveCore n
  s.late t.bytes t.cycle 0

/-- The cutoff of a ready entry: it leaves its list and is an overrun; for want of a RECORD the cycle is Flue-late (R367). -/
def State.cutReady (s : State) (g : Nat) (e : ReadyEntry) : State :=
  let b := e.bytes
  let s := s.updGrate g (fun x => { x with ready := x.ready.filter (fun r => !(r.desc == e.desc && r.cycle == e.cycle)) })
  let s := if s.isStandby && s.synced && !s.recordedBefore g e.desc e.cycle then s.updTwin (fun t => { t with lateNow := true }) else s
  (s.trace g .abortReady e.cycle e.desc 0 0).late b e.cycle 0

/-- The cutoff of an armed instance: it retires, and the task counts an input miss (R30). -/
def State.cutArmed (s : State) (g desc c : Nat) : State :=
  let b := s.desc g desc
  let ctr := descCtr b
  let s := s.updInst g ctr c (fun x => { x with armed := false })
  let s := s.countLost g ctr (if s.rb .RING_STAT_LAG then cycAdd c (Config.cycleModulus - 1) else c)
  let s := s.updGrate g (fun x => { x with delay := x.delay.filter (fun d => !(d.desc == desc && d.cycle == c)) })
  (s.trace g .inputMiss c desc 0 0).late b c 1

/-- The cutoff of a descriptor's task of a cycle, if it has passed and the task has not committed. -/
def State.cutoff (s : State) (g desc c : Nat) : State :=
  let b := s.desc g desc
  if (s.sinceTick c : Int) < s.cutoffOf b c then s
  else
    match (List.range 16).find? (fun k => match (s.core (g * 16 + k)).task with | some t => t.desc == desc && t.cycle == c | none => false) with
    | some k =>
      match (s.core (g * 16 + k)).task with
      | some t => s.cutRunning (g * 16 + k) t
      | none => s
    | none =>
      match (s.grate g).ready.find? (fun e => e.desc == desc && e.cycle == c) with
      | some e => s.cutReady g e
      | none =>
        let x := s.inst g (descCtr b) c
        if descCtr b != 0xFFFF && x.armed && x.cycle == c && x.desc == desc then s.cutArmed g desc c else s

/-- SLOT_CUTOFF (R146): the cutoffs that have passed of a descriptor's tasks, of the previous and of the present cycle. -/
def execSlotCutoff (die : Fin 4) (desc : Fin 4096) (s : State) : Host.Outcome State Fault Refusal :=
  let prev := cycAdd s.cycle (Config.cycleModulus - 1)
  .next (if s.cyclic then (s.cutoff die.val desc.val prev).cutoff die.val desc.val s.cycle else s)

/-! The opcodes of Table 5.8. -/

/-- Descriptors of a die that are enabled and bound to a core. -/
def State.boundTo (s : State) (n : Nat) : Bool := (s.dieDescs (n / 16)).any (fun d => descEnabled d.2 && descCore d.2 == n % 16)

/-- LOOP_PROG_WRITE: program memory of a core, in the bank in use (R420). -/
def execLoopProgWrite (p : Pkt) (s : State) : Host.Outcome State Fault Refusal :=
  let n := p.u 0 1
  let w := p.u 2 2
  let cnt := p.u 4 2
  .next (hostCmd 0x0A01 p s
    { plen := decide (6 ≤ p.len) && p.len == 6 + 4 * cnt, need := .lease, fwd := true,
      checks := [(decide (n < 64) && p.u 1 1 == 0 && decide (w < 16384) && decide (w + cnt ≤ 16384), .badParam), (!s.boundTo n, .badState)] }
    fun s =>
      let bank := s.bankOf n
      ((List.range cnt).foldl (fun u i =>
        u.updCore n (fun x => { x with prog := Tbl.set 0 x.prog ((w + i) ^^^ (bank * 8192)) (BitVec.ofNat 32 (p.u (6 + 4 * i) 4)) })) s, []))

/-- A counter, flow or successor field is in range or none. -/
def fieldOrNone (v top : Nat) : Bool := v == 0xFFFF || decide (v ≤ top)

/-- A descriptor's fields are in range (Table 5.2, R129, R131). -/
def descOk (b : List Byte) : Bool :=
  decide (fld b 0 2 < 16384) && decide (fld b 2 1 < 64) && decide (fld b 3 1 < 16) && fieldOrNone (descCtr b) 1023 && fieldOrNone (descFlow b) 511 &&
    fieldOrNone (descSucc0 b) 4095 && fieldOrNone (descSucc1 b) 4095 && decide (descAddr b ≤ 254) &&
    (descAddr b == 0 || (decide (1 ≤ descType b) && decide (descType b ≤ 3))) &&
    decide (descBlk b < 32) && (descAddr b == 0 || descType b == 2 || decide (descBlk b ≤ (if descType b = 1 then 3 else 0))) &&
    decide (descNblk b ≤ 4) && decide (descPhase b < descDiv b) && descSvbase b % 32 == 0 && decide (descSvbase b < 32768) &&
    zeroBytes b 26 2 && (!descSlot b || descCtr b != 0xFFFF || descDelayed b)

/-- The descriptor after the next tick. -/
def State.descLatest (s : State) (g i : Nat) : List Byte :=
  match s.descsNext.find? (fun e => e.1 == g * 4096 + i) with
  | some e => e.2
  | none => s.desc g i

/-- Every die's descriptors after the next tick. -/
def State.descsLatest (s : State) : Tbl (List Byte) := s.descsNext.foldl (fun t e => Tbl.set [] t e.1 e.2) s.descs

/-- The armed or pending target mode. -/
def State.armedMode (s : State) : Option Nat := if s.rb .SW_STAT_ARMED then some (s.r .SW_STAT_NEXT_SM) else none

/-- A mask of modes names the active or the armed mode. -/
def State.modeInUse (s : State) (mask : Nat) : Bool :=
  (s.cyclic && bit mask s.mode) || (match s.armedMode with | some k => bit mask k | none => false)

/-- A change alters only ARG and CTL.ENABLE (R130). -/
def onlyArgEnable (old new : List Byte) : Bool :=
  let old := if old = [] then List.replicate 32 0 else old
  let clr (b : List Byte) : List Byte := patch (patch b 20 [0, 0, 0, 0]) 2 (le 1 (setBit (fld b 2 1) 3 false))
  clr old == clr new

/-- The closed modes, as a mask. -/
def State.closedMask (s : State) : Nat := ((List.range 8).filter (fun k => (s.sched k).phase == 2)).foldl (fun v k => v + 2 ^ k) 0

/-- Enabled descriptors with DELAYED of a die. -/
def delayedCount (ds : List (Nat × Nat × List Byte)) (g : Nat) : Nat :=
  (ds.filter (fun d => d.1 == g && descEnabled d.2.2 && descDelayed d.2.2)).length

/-- GRATE_DESC_SET (R129 to R131, R133, R135, R136, R141). -/
def execGrateDescSet (p : Pkt) (s : State) : Host.Outcome State Fault Refusal :=
  let g := p.u 0 1
  let i := p.u 2 2
  let b := slice p.params 4 32
  let old := s.desc g i
  let all := (Tbl.set [] s.descsLatest (g * 4096 + i) b).map (fun e => (e.1 / 4096, e.1 % 4096, e.2))
  let mask := s.closedMask
  let enables := descEnabled b && !descEnabled (s.descLatest g i)
  .next (hostCmd 0x0A10 p s
    { plen := p.len == 36, need := .lease, fwd := true,
      checks :=
        [(decide (g < 4) && p.u 1 1 == 0 && decide (i < 4096) && descOk b, .badParam),
         (!s.worn (g * 16 + descCore b) || (old != [] && descCore b == descCore old), .badParam),
         (!descEnabled b || ctrsApart mask all, .badParam),
         ((List.range 8).all (fun k => !bit mask k || !bit (descSmask b) k || s.dueFits (s.sched k) b), .badParam),
         (!(enables && s.cyclic && bit (descSmask b) s.mode) || s.loadFits all s.mode (s.sched s.mode), .badParam),
         (!(descEnabled old && s.modeInUse (descSmask old)) || onlyArgEnable old b, .badState),
         (!(descEnabled b && descDelayed b) || decide (delayedCount all g ≤ 1024), .refusedFull)] }
    fun s => ({ s with descsNext := Tbl.set [] s.descsNext (g * 4096 + i) b }, []))

/-- GRATE_DESC_GET. -/
def execGrateDescGet (p : Pkt) (s : State) : Host.Outcome State Fault Refusal :=
  let g := p.u 0 1
  let i := p.u 2 2
  .next (hostCmd 0x0A11 p s
    { plen := p.len == 4, checks := [(decide (g < 4) && p.u 1 1 == 0 && decide (i < 4096), .badParam)] }
    fun s => (s, slice (s.desc g i) 0 32))

/-- GRATE_COUNTER_SET (R131, R133): RELOAD from the next tick. -/
def execGrateCounterSet (p : Pkt) (s : State) : Host.Outcome State Fault Refusal :=
  let g := p.u 0 1
  let i := p.u 2 2
  .next (hostCmd 0x0A12 p s
    { plen := p.len == 6, need := .lease, fwd := true,
      checks :=
        [(decide (g < 4) && p.u 1 1 == 0 && decide (i < 1024), .badParam),
         (!(s.dieDescs g).any (fun d => descEnabled d.2 && descCtr d.2 == i && s.modeInUse (descSmask d.2)), .badState)] }
    fun s => ({ s with reloadNext := Tbl.insert s.reloadNext (g * 1024 + i) (p.u 4 2) }, []))

/-- GRATE_ARRIVAL_SET (R133): the counters of a segment, none with COUNT 0. -/
def execGrateArrivalSet (p : Pkt) (s : State) : Host.Outcome State Fault Refusal :=
  let k := p.u 0 1
  let a := p.u 1 1
  let ty := p.u 2 1
  let n := p.u 3 1
  let entries := (List.range n).map (fun i => (p.u (4 + 4 * i) 1, p.u (6 + 4 * i) 2))
  .next (hostCmd 0x0A13 p s
    { plen := decide (4 ≤ p.len) && p.len == 4 + 4 * n, need := .lease, fwd := true,
      checks :=
        [(decide (k < 8) && decide (1 ≤ a) && decide (a ≤ 254) && decide (1 ≤ ty) && decide (ty ≤ 4) && decide (n ≤ 4) &&
            (List.range n).all (fun i => p.u (5 + 4 * i) 1 == 0) && entries.all (fun e => decide (e.1 < 4) && decide (e.2 < 1024)), .badParam),
         ((s.sched k).phase == 1, .badState)] }
    fun s => ({ s with arrMap := Tbl.set [] s.arrMap ((k * 256 + a) * 8 + ty) entries }, []))

/-- GRATE_POST (R143): the post belongs to the cycle in progress. -/
def execGratePost (p : Pkt) (s : State) : Host.Outcome State Fault Refusal :=
  let g := p.u 0 1
  let i := p.u 2 2
  .next (hostCmd 0x0A14 p s
    { plen := p.len == 4, need := .lease,
      checks :=
        [(decide (g < 4) && p.u 1 1 == 0 && decide (i < 4096), .badParam),
         (!descSlot (s.desc g i) && descCtr (s.desc g i) == 0xFFFF, .badState),
         (!s.postRefused g i, .refusedFull)],
      onRefuse := fun st u => if st = .refusedFull then (u.post g i u.cycle).1 else u }
    fun s => ((s.post g i s.cycle).1, []))

/-- GRATE_MOVE (R138). -/
def execGrateMove (p : Pkt) (s : State) : Host.Outcome State Fault Refusal :=
  let g := p.u 0 1
  let i := p.u 2 2
  let lines := p.u 4 2
  let c := p.u 8 4
  .next (hostCmd 0x0A15 p s
    { plen := p.len == 12, need := .lease, fwd := true,
      checks :=
        [(decide (g < 4) && decide (p.u 1 1 < 16) && !s.worn (g * 16 + p.u 1 1) && decide (i < 4096) && zeroBytes p.params 6 2 &&
            decide (descSvbase (s.desc g i) + 32 * lines ≤ 32768) && decide (c < Config.cycleModulus), .badParam),
         (decide (16 ≤ cycDiff c s.cycle) && decide (cycDiff c s.cycle < 2 ^ 31), .badState)] }
    fun s => (s.updGrate g (fun x => { x with moves := x.moves ++ [{ core := p.u 1 1, desc := i, lines := lines, cycle := c }] }), []))

/-- GRATE_TRACE_CFG (R147). -/
def execGrateTraceCfg (p : Pkt) (s : State) : Host.Outcome State Fault Refusal :=
  let g := p.u 0 1
  .next (hostCmd 0x0A16 p s
    { plen := p.len == 8, need := .lease, fwd := true,
      checks := [(decide (g < 4) && p.u 1 1 == 0 && decide (p.u 2 2 < 2048) && decide (p.u 4 1 < 2) && zeroBytes p.params 5 3, .badParam)] }
    fun s => ((s.w .GR_TRACE_CFG_EVMASK g (p.u 2 2)).w .GR_TRACE_CFG_ENABLE g (p.u 4 1), []))

end Sys2Proof.Machine
end

