-- ==== Sys2Proof/Machine/Servo.lean ====
section
/-! DEFINITION. Sys2Proof/Machine/Servo.lean: the servo opcodes of Table 7.10, the end of a torque-band block (R196) and the end of an
alignment (R189). -/

namespace Sys2Proof.Machine

/-- TORQUE_BAND_UPDATE (R196): at the end of a block of 1,024 cycles; before it, nothing happens. -/
def execTorqueBandUpdate (axis : Fin 128) (s : State) : Host.Outcome State Fault Refusal :=
  .next (if 1024 ≤ (s.servo axis.val).cycles then s.bandUpdate axis.val else s)

/-- ALIGN_END (R189): ALIGN_T has passed; the anchor is recorded, or the alignment failed because the axis moves. -/
def execAlignEnd (axis : Fin 128) (s : State) : Host.Outcome State Fault Refusal :=
  let a := axis.val
  match (s.servo a).align with
  | none => .next s
  | some t =>
    if t < s.svu a 62 2 * 100000 then .next s
    else
      let s := (s.updServo a (fun x => { x with align := none })).wb .SV_STAT_ALIGNING a false
      let moves := s.rb .FB_STAT_SPEED_VALID a && decide (2 ^ 32 < (s.fb a).speed.natAbs * s.fbu a 1 1 * 64)
      .next (if moves then s.warn a .alignFail
        else
          let s := s.updFb a (fun x => { x with alignAt := some x.fused })
          (if (s.elRatio a).isSome then s.w .FB_STAT_COMM_STATE a 3 else s).raise .alignDone)

/-! Binding (R180). -/

/-- Put a descriptor in force now, and in what waits for the tick. -/
def State.editDesc (s : State) (g i : Nat) (f : List Byte → List Byte) : State :=
  let k := g * 4096 + i
  { s with
    descs := Tbl.set [] s.descs k (f (slice (s.desc g i) 0 32))
    descsNext := if (s.descsNext.any (fun e => e.1 == k)) then Tbl.modify [] s.descsNext k f else s.descsNext }

/-- A descriptor takes part in the active or the armed mode. -/
def State.descInUse (s : State) (g i : Nat) : Bool := descEnabled (s.desc g i) && s.modeInUse (descSmask (s.desc g i))

/-- The node declared a three-level stage. -/
def State.nodeNpc (s : State) (addr : Nat) : Bool := bit (fld (s.hnode addr).claim 17 2) 1

/-- What SERVO_BIND writes into the descriptor: the ENTRY and CORE of the standard program are not stated and stay free
(log 24). -/
def servoDesc (entry core addr blk wcet : Nat) (b : List Byte) : List Byte :=
  patch (patch (patch b 0 (le 2 (entry % 16384))) 3 (le 1 (core % 16))) 12 (le 1 addr ++ [1] ++ le 1 blk ++ [1]) |> fun r => patch r 18 (le 2 wcet)

/-- The default power-stage record of a three-level axis (Table 7.8). -/
def npcRecord : List Byte := patch (patch RecKind.ps.dflt 0 [1]) 16 (le 2 0x1000 ++ le 2 0xCCC)

/-- Bind an axis. -/
def State.bindServo (s : State) (a addr blk g i : Nat) : State × List Byte :=
  let npc := s.nodeNpc addr
  let e := s.fresh
  let c := e.2.fresh
  let s := c.2.editDesc g i (servoDesc e.1 c.1 addr blk (if npc then 2240 else 1900))
  let b := le 1 addr ++ le 1 blk ++ le 1 g ++ le 1 (b2n npc) ++ le 2 i ++ [0, 0]
  let s := s.recSet .servoBind a b
  let s := if npc && Tbl.get [] s.recs (RecKind.ps.key a) == [] then s.recSet .ps a npcRecord else s
  (((((s.wb .SV_STAT_BOUND a true).w .SV_BIND_ADDR a addr).w .SV_BIND_BLK a blk).wb .SV_BIND_NPC a npc), b)

/-- Unbind an axis. -/
def State.unbindServo (s : State) (a : Nat) : State :=
  ((((s.recSet .servoBind a []).wb .SV_STAT_BOUND a false).w .SV_BIND_ADDR a 0).w .SV_BIND_BLK a 0).wb .SV_BIND_NPC a false

/-- SERVO_BIND: an axis bound elsewhere is unbound and bound. -/
def execServoBind (p : Pkt) (s : State) : Host.Outcome State Fault Refusal :=
  let a := p.u 0 1
  let addr := p.u 1 1
  let blk := p.u 2 1
  let g := p.u 3 1
  let i := p.u 4 2
  let old := s.cfg .servoBind a
  let bound := s.rb .SV_STAT_BOUND a
  let same := bound && fld old 0 1 == addr && fld old 1 1 == blk && fld old 2 1 == g && fld old 4 2 == i
  .next (hostCmd 0x0220 p s
    { plen := p.len == 8, need := .lease, fwd := true,
      checks :=
        [(decide (a < 128) && decide (addr ≤ 254) && decide (blk < 4) && decide (g < 4) && decide (i < 4096) && decide (p.u 6 1 < 2) && p.u 7 1 == 0, .badParam),
         (addr == 0 || (s.claimed addr && decide (blk < fld (s.hnode addr).claim 23 1)), .badParam),
         (addr == 0 || s.servoAxis addr blk == none || s.servoAxis addr blk == some a, .badParam),
         (same || (addr != 0 && !bound) || decide (3 ≤ s.fc a), .badState),
         (!(bound && s.descInUse (fld old 2 1) (fld old 4 2)) && (addr == 0 || !s.descInUse g i), .badState)] }
    fun s =>
      let (s, b) := if addr = 0 then (s.unbindServo a, RecKind.servoBind.dflt) else s.bindServo a addr blk g i
      (s.recFlash .servoBind a b (bit (p.u 6 1) 0), []))

/-! Records (R195, R197, R202, R208). -/

/-- A servo control record is within Table 7.6. -/
def servoOk (b : List Byte) : Bool :=
  let u (o n : Nat) : Nat := fld b o n
  decide (u 0 1 ≤ 2) && decide (1 ≤ u 1 1) && decide (u 1 1 ≤ 16) && decide (1 ≤ u 2 1) && decide (u 2 1 ≤ 16) && u 2 1 % max 1 (u 1 1) == 0 &&
    (u 3 1 == 6 || u 3 1 == 12) && decide (u 4 2 ≤ u 6 2) && decide (80 ≤ u 12 2) && decide (u 12 2 ≤ 8000) && decide (1 ≤ u 14 1) && u 15 1 == 0 &&
    decide (u 32 2 ≤ 32768) && decide (u 34 2 ≤ 32768) && decide (1 ≤ u 42 2) && decide (u 42 2 ≤ 10000) && decide (u 44 4 < u 48 4) &&
    decide (u 52 1 ≤ 1) && (u 53 1 == 0 || (decide (8 ≤ u 53 1) && decide (u 53 1 ≤ 24))) && decide (u 54 1 < u 55 1) && decide (1 ≤ u 56 2) &&
    decide (10 ≤ u 62 2) && decide (u 62 2 ≤ 10000)

/-- SERVO_CONFIG_SET. -/
def execServoConfigSet (p : Pkt) (s : State) : Host.Outcome State Fault Refusal :=
  let a := p.u 0 1
  let old := s.recLatest .servo a
  let b := [(1, 1), (2, 1), (14, 1), (42, 2)].foldl (fun r f => keepZero old r f.1 f.2) (slice p.params 4 64)
  .next (hostCmd 0x0221 p s
    { plen := p.len == 68, need := .owns (decide (a < 128)) [a], fwd := true,
      checks := [(decide (p.u 1 1 < 2) && zeroBytes p.params 2 2 && servoOk b && s.dwellFitsAll a b (s.recLatest .ps a), .badParam)] }
    fun s => ((s.recNext .servo a b).recFlash .servo a b (bit (p.u 1 1) 0), []))

/-- SERVO_CONFIG_GET. -/
def execServoConfigGet (p : Pkt) (s : State) : Host.Outcome State Fault Refusal :=
  let a := p.u 0 1
  .next (hostCmd 0x0222 p s { plen := p.len == 1, checks := [(decide (a < 128), .badParam)] } fun s => (s, s.cfg .servo a))

/-- A motor set is within Table 7.7. -/
def motorOk (b : List Byte) : Bool :=
  decide (fld b 0 1 ≤ 1) && zeroBytes b 1 3 && decide (1 ≤ fld b 4 4) && zeroBytes b 41 1 && decide (fld b 48 1 ≤ 1) && zeroBytes b 49 15 &&
    (fld b 0 1 == 0 || (decide (fld b 20 4 < fld b 16 4) && fld b 24 4 == 0))

/-- MOTOR_SET: the stored set from the next tick, and the tracked set with it. -/
def execMotorSet (p : Pkt) (s : State) : Host.Outcome State Fault Refusal :=
  let a := p.u 0 1
  let b := slice p.params 4 64
  .next (hostCmd 0x0223 p s
    { plen := p.len == 68, need := .owns (decide (a < 128)) [a], fwd := true,
      checks := [(decide (p.u 1 1 < 2) && zeroBytes p.params 2 2 && motorOk b, .badParam), (s.quiet a, .badState)] }
    fun s => ((((s.recNext .motor a b).recNext .motorTracked a b).recFlash .motor a b (bit (p.u 1 1) 0)).updFb a (fun x => { x with motFresh := false }), []))

/-- MOTOR_GET. -/
def execMotorGet (p : Pkt) (s : State) : Host.Outcome State Fault Refusal :=
  let a := p.u 0 1
  .next (hostCmd 0x0224 p s { plen := p.len == 2, checks := [(decide (a < 128) && decide (p.u 1 1 < 2), .badParam)] }
    fun s => (s, if p.u 1 1 = 0 then s.trackedMotor a else s.cfg .motor a))

/-- MOTOR_SAVE (R161, R187). -/
def execMotorSave (p : Pkt) (s : State) : Host.Outcome State Fault Refusal :=
  let a := p.u 0 1
  .next (hostCmd 0x0225 p s
    { plen := p.len == 2, need := .owns (decide (a < 128)) [a], fwd := true, checks := [(decide (p.u 1 1 < 2), .badParam)] }
    fun s => ((s.recSet .motor a (s.trackedMotor a)).recFlash .motor a (s.trackedMotor a) (bit (p.u 1 1) 0), []))

/-- A power-stage record is within Tables 7.3 and 7.8. -/
def psOk (b : List Byte) : Bool :=
  let u (o n : Nat) : Nat := fld b o n
  decide (u 0 1 ≤ 1) && u 1 1 == 0 && decide (8 ≤ u 2 2) && decide (u 2 2 ≤ 4095) && decide (80 ≤ u 4 2) && decide (u 4 2 ≤ 4095) &&
    decide (10 ≤ u 6 2) && decide (u 6 2 ≤ 4095) && decide (u 8 2 ≤ 4095) && decide (u 10 2 ≤ 4095) && decide (80 ≤ u 14 2) &&
    decide (u 14 2 ≤ 8000) && stateOk (u 0 1 == 1) (u 18 2) && zeroBytes b 20 12

/-- The NPC flag agrees with what the axis's node declared (R202). -/
def State.npcAgrees (s : State) (a : Nat) (b : List Byte) : Bool :=
  let addr := s.r .SV_BIND_ADDR a
  !s.rb .SV_STAT_BOUND a || !s.claimed addr || s.nodeNpc addr == bit (fld b 0 1) 0

/-- PS_CONFIG_SET. -/
def execPsConfigSet (p : Pkt) (s : State) : Host.Outcome State Fault Refusal :=
  let a := p.u 0 1
  let b := slice p.params 4 32
  .next (hostCmd 0x0226 p s
    { plen := p.len == 36, need := .owns (decide (a < 128)) [a], fwd := true,
      checks :=
        [(decide (p.u 1 1 < 2) && zeroBytes p.params 2 2 && psOk b && s.npcAgrees a b && s.dwellFitsAll a (s.recLatest .servo a) b, .badParam),
         (s.quiet a, .badState)] }
    fun s => ((s.recNext .ps a b).recFlash .ps a b (bit (p.u 1 1) 0), []))

/-- PS_CONFIG_GET. -/
def execPsConfigGet (p : Pkt) (s : State) : Host.Outcome State Fault Refusal :=
  let a := p.u 0 1
  .next (hostCmd 0x0227 p s { plen := p.len == 1, checks := [(decide (a < 128), .badParam)] } fun s => (s, s.cfg .ps a))

/-- Entries differ from one another. -/
def allDistinct : List Nat → Bool
  | [] => true
  | x :: xs => !xs.contains x && allDistinct xs

/-- VT_SET (R192): vector table, selection map and VTB0 image from the next tick. -/
def execVtSet (p : Pkt) (s : State) : Host.Outcome State Fault Refusal :=
  let a := p.u 0 1
  let len := p.u 1 1
  let npc := s.npc a
  let entries := (List.range len).map (fun i => p.u (4 + 4 * i) 4)
  .next (hostCmd 0x0228 p s
    { plen := p.len == 228, need := .owns (decide (a < 128)) [a], fwd := true,
      checks :=
        [(zeroBytes p.params 2 2 && decide (1 ≤ len) && decide (len ≤ (if npc then 27 else 8)) && entries.all (stateOk npc) && allDistinct entries &&
            (List.range 96).all (fun i => decide (p.u (132 + i) 1 < len) || p.u (132 + i) 1 == 0xFF), .badParam),
         (s.quiet a, .badState)] }
    fun s => (((s.recNext .vt a (slice p.params 4 128)).recNext .selMap a (slice p.params 132 96)).recNext .vtb0 a (le 4 (0x804180 + len * 2 ^ 24)), []))

/-- SERVO_ALIGN (R189). -/
def execServoAlign (p : Pkt) (s : State) : Host.Outcome State Fault Refusal :=
  let a := p.u 0 1
  .next (hostCmd 0x022A p s
    { plen := p.len == 1, need := .owns (decide (a < 128)) [a],
      checks := [(s.fc a == 0 && (s.fb a).still && s.r .FB_STAT_COMM_STATE a == 0 && !s.linear a && (s.servo a).align.isNone, .badState)] }
    fun s => ((s.updServo a (fun x => { x with align := some 0 })).wb .SV_STAT_ALIGNING a true, []))

end Sys2Proof.Machine
end

