-- ==== Sys2Proof/Machine/Profile.lean ====
section
/-! DEFINITION. Sys2Proof/Machine/Profile.lean: the profile generator (R214 to R216): limits, ramps, ends, reversals. The manual says what a
plan must achieve and which limits it keeps; where it leaves the plan's arithmetic open, `Config.profile` gives the plan and the
limits bound it (log 6). Positions are in LSB, speeds in LSB per second, times in 10 ns. -/

namespace Sys2Proof.Machine

/-- A set-point with its speed and acceleration. -/
structure Point where
  p : Int
  v : Int
  a : Int
  deriving DecidableEq, Repr

/-- The limits of a profile: speed, speeding up, slowing down, jerk; a jerk of 0 is not limited (R214). -/
structure Limits where
  v : Nat
  a : Nat
  d : Nat
  j : Nat
  deriving DecidableEq, Repr

/-- 10 ns units in a second. -/
def perSec : Nat := 100000000

/-- The limits of a motion record (Table 8.6), or its quick-stop limits for slowing down (R216). -/
def State.limits (s : State) (a : Nat) (quick : Bool) : Limits :=
  let u (off : Nat) : Nat := s.ru .motion a off 4
  let l := s.lsbPerU a
  { v := u 4 * l / 65536, a := u 8 * l / 4096, d := u (if quick then 20 else 12) * l / 4096, j := u (if quick then 24 else 16) * l / 16 }

/-- A speed of a command or record in LSB per second: 2^-16 U/s. -/
def State.speedOf (s : State) (a : Nat) (v : Int) : Int := v * s.lsbPerU a / 65536

/-- Clamp between two bounds in either order. -/
def between (x y v : Int) : Int := clampInt (min x y) (max x y) v

/-- The largest change of speed in a time, speeding up or slowing down. -/
def Limits.gain (l : Limits) (a : Int) (t : Nat) : Int := ((max (max l.a l.d) a.natAbs * t / perSec : Nat) : Int) + 1

/-- A free plan over a time, within the limits (R214): no speed beyond VMAX unless it was beyond it before, no acceleration
beyond its limit, no jerk beyond JMAX, and a position that the speeds on the way allow. -/
def freePlan (l : Limits) (inputs : List Int) (t : Nat) (x : Point) : Point :=
  let plan (k : Int) : Int := Config.profile (k :: x.p :: x.v :: x.a :: (t : Int) :: inputs)
  let top : Int := max (l.v : Int) x.v.natAbs
  let g := l.gain x.a t
  let v := clampInt (-top) top (clampInt (x.v - g) (x.v + g) (plan 0))
  let amax : Int := max (max (l.a : Int) l.d) x.a.natAbs
  let jt : Int := if l.j = 0 then 2 * amax else ((l.j * t / perSec : Nat) : Int) + 1
  let a := clampInt (-amax) amax (clampInt (x.a - jt) (x.a + jt) (plan 1))
  let lo := (min x.v v - g) * (t : Int) / perSec - 1
  let hi := (max x.v v + g) * (t : Int) / perSec + 1
  { p := clampInt (x.p + lo) (x.p + hi) (plan 2), v := v, a := a }

/-- Constant speed over a time: the rounding of the position is not stated. -/
def State.coast (s : State) (t : Nat) (x : Point) : Point × State :=
  let (d, s) := s.freeDiv (x.v * t) perSec
  ({ x with p := x.p + d, a := 0 }, s)

/-- A ramp without a jerk limit toward a speed, over at most a time: slowing down to zero first where the signs differ; exact but
for the rounding of the position. Answers the time left. -/
def State.ramp1 (s : State) (rate : Nat) (t : Nat) (goal : Int) (x : Point) : Point × Nat × State :=
  let dv := (goal - x.v).natAbs
  let sg : Int := if x.v ≤ goal then 1 else -1
  if dv * perSec ≤ rate * t then
    let need := if rate = 0 then 0 else divCeil (dv * perSec) rate
    let (d, s) := s.freeDiv ((x.v + goal) * need) (2 * perSec)
    ({ p := x.p + d, v := goal, a := 0 }, t - need, s)
  else
    let v := x.v + sg * (rate * t / perSec : Nat)
    let (d, s) := s.freeDiv ((x.v + v) * t) (2 * perSec)
    ({ p := x.p + d, v := v, a := sg * (rate : Int) }, 0, s)

/-- A speed profile over a time: without a jerk limit the ramps are exact, with one the plan is free until it can end. -/
def State.speedPlan (s : State) (l : Limits) (inputs : List Int) (t : Nat) (goal : Int) (x : Point) : Point × State :=
  if x.v = goal ∧ x.a = 0 then s.coast t x
  else if l.j = 0 then
    let slows := decide (goal.natAbs < x.v.natAbs) || decide ((x.v < 0 ∧ 0 < goal) ∨ (0 < x.v ∧ goal < 0))
    let first : Int := if (x.v < 0 ∧ 0 < goal) ∨ (0 < x.v ∧ goal < 0) then 0 else goal
    let (y, left, s) := s.ramp1 (if slows then l.d else l.a) t first x
    if left = 0 then (y, s)
    else if y.v = goal then
      let (z, s) := s.coast left y
      ({ z with a := 0 }, s)
    else
      let (y, left, s) := s.ramp1 l.a left goal y
      if left = 0 then (y, s) else let (z, s) := s.coast left y; ({ z with a := 0 }, s)
  else
    let y := freePlan l inputs t x
    let near := decide ((x.v - goal).natAbs ≤ l.gain x.a t) && decide (x.a.natAbs * perSec ≤ l.j * t)
    if near && Config.profile (3 :: goal :: x.p :: x.v :: x.a :: inputs) % 2 == 1 then ({ y with v := goal, a := 0 }, s) else (y, s)

/-- A point-to-point profile over a time: the plan is free, and it ends on the target, at standstill, at an instant at which
the limits allow it; at standstill on the target it ends at once (R214, Table 8.2). -/
def targetPlan (l : Limits) (inputs : List Int) (t : Nat) (goal : Int) (x : Point) : Point × Bool :=
  let stop : Point := { p := goal, v := 0, a := 0 }
  if x.p = goal ∧ x.v = 0 ∧ x.a = 0 then (stop, true)
  else
    let up := l.gain x.a t
    let reach := decide (((goal - x.p).natAbs : Int) * perSec ≤ ((x.v.natAbs : Int) + up) * t) &&
      decide ((x.v.natAbs * perSec : Nat) ≤ max l.d x.a.natAbs * t + perSec)
    if reach && Config.profile (4 :: goal :: x.p :: x.v :: x.a :: inputs) % 2 == 1 then (stop, true) else (freePlan l inputs t x, false)

/-! Reversals (R215). -/

/-- A point that moves at `v` cannot stop within a distance ahead under DMAX and JMAX, starting from zero acceleration. -/
def overshoots (l : Limits) (v dist : Nat) : Bool :=
  if l.j = 0 then decide (2 * l.d * dist < v * v)
  else if v * l.j ≤ l.d * l.d then decide (dist * dist * l.j < v * v * v)
  else decide (2 * l.d * l.j * dist < v * (v * l.j + l.d * l.d))

/-- A new target makes the profile reverse: it lies behind, or too close ahead to stop on. While the point accelerates, the
distance is longer than from zero acceleration, and while it slows down shorter; there the outcome is free where the two
differ. -/
def reverses (l : Limits) (inputs : List Int) (x : Point) (goal : Int) : Bool :=
  let ahead := (goal - x.p) * x.v
  if x.v = 0 then false
  else if ahead ≤ 0 then true
  else
    let past := overshoots l x.v.natAbs (goal - x.p).natAbs
    let gains := decide (0 < x.a * x.v)
    if x.a = 0 ∨ l.j = 0 ∨ (gains ∧ past) ∨ (!gains ∧ !past) then past
    else Config.profile (5 :: goal :: x.p :: x.v :: x.a :: inputs) % 2 == 1

/-! The generator on an axis or virtual master. -/

def Motion.point (m : Motion) : Point := { p := m.p, v := m.v, a := m.a }
def Motion.put (m : Motion) (x : Point) : Motion := { m with p := x.p, v := x.v, a := x.a }

/-- The numbers a free plan of an axis may depend on. -/
def State.planKey (s : State) (a n : Nat) (l : Limits) : List Int := [(a : Int), (n : Int), (l.v : Int), (l.a : Int), (l.d : Int), (l.j : Int), (s.free : Int)]

/-- Advance an axis's profile by a time toward its goal. A move that ends leaves HOLD behind (R213, R216). -/
def State.profileStep (s : State) (a n t : Nat) : State :=
  let m := s.motion a
  let x := m.point
  let put (s : State) (y : Point) : State := s.updMotion a (fun k => k.put y)
  match m.goal with
  | .hold => put s { x with v := 0, a := 0 }
  | .target g =>
    let l := s.limits a false
    let (y, done) := targetPlan l (s.planKey a n l) t g x
    let s := put s y
    if done then s.updMotion a (fun k => { k with goal := .hold, landed := decide (k.mode = 1) }) else s
  | .speed v =>
    let l := s.limits a false
    let (y, s) := s.speedPlan l (s.planKey a n l) t v x
    put s y
  | .stop quick =>
    let l := s.limits a quick
    let (y, s) := s.speedPlan l (s.planKey a n l) t 0 x
    let s := put s y
    if y.v = 0 ∧ y.a = 0 then s.updMotion a (fun k => { k with goal := .hold }) else s

end Sys2Proof.Machine
end

