-- ==== Sys2Proof/Machine/MotionOps.lean ====
section
/-! DEFINITION. Sys2Proof/Machine/MotionOps.lean: the motion stage of axis tasks (R211 to R241): limit and home inputs, motion commands,
gearing, cams, register correction, homing and group members. Tasks of cycle n evaluate L(n+1). -/

namespace Sys2Proof.Machine

def State.mou (s : State) (a off n : Nat) : Nat := s.ru .motion a off n

/-- T_in of the present cycle's frame, in 2^-16 ns of TB1. -/
def State.tInNow (s : State) : Nat := s.head.tickTb - t10 (s.r .CYC_TIMES_TIN_LEAD)

/-- Cycles since the last commit of an axis's task, counting this one. -/
def State.sinceEntry (s : State) (a n : Nat) : Nat :=
  let e := Tbl.get {} s.posTab a
  if e.valid then max 1 (cycDiff n e.cycle) else 1

/-- P, in 10 ns. -/
def State.period (s : State) : Nat := s.r .CYC_PERIOD_PERIOD

/-! Limit and home inputs (R217 to R220). -/

/-- The raw state of an input reference in the input frame: none where there is no sample. -/
def State.rawInput (s : State) (ref inst : Nat) : Option Bool :=
  let src := ref % 256
  let b := bits ref 18 8
  let low := bit ref 19
  if src = 0 then none
  else if src = 255 then some (s.fioBit .FIO_IN_STATE b != low)
  else
    let g := Tbl.get {} s.segIn (src * 8 + 3)
    (g.of inst).map (fun u => bit (fld u.2 (b / 8) 1) (b % 8) != low)

/-- One sample of the filter of R218; a local channel's own filter has acted before. -/
def InFilter.sample (x : InFilter) (filt : Nat) (hw raw : Bool) (pos : Int) : InFilter :=
  let c := if raw then min filt (x.count + 1) else x.count - 1
  let runPos := if (!x.active && x.count == 0) || (x.active && x.count == filt) then pos else x.runPos
  let on := if hw then raw else if c = filt then true else if c = 0 then false else x.active
  { x with count := if hw then (if raw then filt else 0) else c, runPos := runPos, active := on, changed := on != x.active, news := x.news || on != x.active
           pos := if on != x.active then (if hw then pos else runPos) else x.pos }

/-- The place of an input's reference in the motion record: 0 LIM_POS, 1 LIM_NEG, 2 HOME_IN. -/
def inputRef (k : Nat) : Nat := 48 + 4 * k

def Motion.input (m : Motion) (k : Nat) : InFilter := Tbl.get {} m.filters k

/-- The field that shows a filtered input. -/
def inputFld (k : Nat) : Fld := if k = 0 then .MO_STAT_LIM_POS else if k = 1 then .MO_STAT_LIM_NEG else .MO_STAT_HOME_IN

/-- One input of an axis in a task: its filter, the chatter count and the register (R218, R219). -/
def State.inputStage (s : State) (a inst k : Nat) (pos : Int) : State :=
  let ref := s.mou a (inputRef k) 4
  match s.rawInput ref inst with
  | none => s.updMotion a (fun m => { m with filters := Tbl.modify {} m.filters k (fun x =>
      if ref = 0 then {} else { x with changed := false }) })
  | some raw =>
    let x := ((s.motion a).input k).sample (s.mou a 1 1) (ref % 256 == 255) raw pos
    let now := s.tInNow / 655360
    let x := if x.changed then { x with times := (now :: x.times.filter (fun t => decide (now < t + s.mou a 28 2 * 100000))).take 256 } else x
    let s := (s.updMotion a (fun m => { m with filters := Tbl.set {} m.filters k x })).wb (inputFld k) a x.active
    if x.changed ∧ x.times.length = s.mou a 2 1 + 1 then (s.inc .MO_CNT_CHATTER a).setFault a 2 .limitChatter
    else if x.changed ∧ s.mou a 2 1 < x.times.length then s.setFaultOnce a 2 .limitChatter
    else s

/-- The position that an input records: a servo axis's at T_in; a stepper's commanded position at T_in, taken back along its
speed from the instant its set-point holds for (R218). -/
def State.inputPos (s : State) (a n rounds : Nat) : Int × State :=
  if a < 128 then ((s.fb a).pos, s)
  else
    let m := s.motion a
    let e := Tbl.get {} s.posTab a
    let ahead : Int := (if e.valid then (rounds : Int) - cycDiff n e.cycle else 0) * s.period +
      2 * s.period + s.r .CYC_TIMES_TIN_LEAD + s.r .CYC_TIMES_TOUT_OFS
    let (d, s) := s.freeDiv (m.v * ahead) perSec
    (m.p - d, s)

/-- A limit that becomes active while the set-point moves toward it, outside homing, puts the axis into FC2 (R220). -/
def State.limitStage (s : State) (a : Nat) : State :=
  let m := s.motion a
  if m.mode = 5 then s
  else
    let s := if (m.input 0).changed && (m.input 0).active && decide (0 < m.v) then s.setFault a 2 .limitPos else s
    if (m.input 1).changed && (m.input 1).active && decide (m.v < 0) then s.setFault a 2 .limitNeg else s

/-- The inputs of an axis in a task. -/
def State.inputsStage (s : State) (a n inst rounds : Nat) : State :=
  let (pos, s) := s.inputPos a n rounds
  ([0, 1, 2].foldl (fun u k => u.inputStage a inst k pos) s).limitStage a

/-! Masters as followers see them (R221, R223). -/

def State.vm (s : State) (v : Nat) : Vm := Tbl.get {} s.vms v
def State.updVm (s : State) (v : Nat) (f : Vm → Vm) : State := { s with vms := Tbl.modify {} s.vms v f }

/-- The master entry of cycle n-1 as a task of cycle n finds it: an entry for another instant is extrapolated, and counted for
the follower. A stepper that is served every U cycles looks `ahead` by so many more, over which the entry is extrapolated as
well (R211, R243). -/
def State.masterAt (s : State) (a v n ahead : Nat) : Point × State :=
  let x := s.vm v
  let e := if x.entry.cycle = some n then x.prev else x.entry
  let want := cycAdd n (Config.cycleModulus - 1)
  if e.cycle = some want ∧ ahead = 0 then ({ p := e.p, v := e.v, a := e.a }, s)
  else
    let s := if e.cycle = some want then s else s.inc .MO_REG_CNT_VM_STALE a
    match e.cycle with
    | none => ({ p := e.p, v := e.v, a := e.a }, s)
    | some c =>
      let t := (cycDiff want c + ahead) * s.period
      let (d, s) := s.freeDiv (2 * e.v * t * perSec + e.a * t * t) (2 * perSec * perSec)
      let (w, s) := s.freeDiv (e.a * t) perSec
      ({ p := e.p + d, v := e.v + w, a := e.a }, s)

/-! Gearing (R227 to R229). -/

/-- Twice LEN times the integral of the factor from m_ref to m, and the factor at m times LEN (R228); LEN of 0 stands as 1. -/
def Follow.integral (x : Follow) (m : Int) : Int × Int :=
  let dm := m - x.mRef
  let len : Int := max 1 (x.len : Int)
  if x.len = 0 then (2 * x.target * dm, x.target)
  else if dm < 0 then (2 * len * x.k0 * dm, x.k0 * len)
  else if dm ≤ len then (2 * len * x.k0 * dm + (x.target - x.k0) * dm * dm, x.k0 * len + (x.target - x.k0) * dm)
  else (2 * len * x.k0 * len + (x.target - x.k0) * len * len + 2 * len * x.target * (dm - len), x.target * len)

/-- The gear set-point at m (R227), rounded half up once. -/
def Follow.gearAt (x : Follow) (m : Int) : Int :=
  x.pRef + divRound (x.num * (x.integral m).1) (x.den * 2 ^ 24 * 2 * max 1 x.len)

/-- The factor at m. -/
def State.factorAt (s : State) (x : Follow) (m : Int) : Int × State := s.freeDiv (x.integral m).2 (max 1 x.len)

/-- The ramp has been passed. -/
def Follow.ramped (x : Follow) (m : Int) : Bool := x.len == 0 || decide ((x.len : Int) ≤ m - x.mRef)

/-- Re-base at the master's present position (R228, R229): what is left of a ramp goes on. -/
def State.rebase (s : State) (a : Nat) (m : Int) : State :=
  let x := (s.motion a).follow
  let p := x.gearAt m
  let (k, s) := s.factorAt x m
  let left : Nat := if m - x.mRef < 0 then x.len else x.len - (m - x.mRef).toNat
  s.updMotion a (fun y => { y with follow := { x with pRef := p, mRef := m, k0 := k, k := k, len := left } })

/-- The follower record's VM, NUM and DEN (Table 8.7). -/
def State.flu (s : State) (a off n : Nat) : Nat := s.ru .follower a off n

/-- A follower takes over a changed ratio or master: its position does not step (R229). `old` is the master it has followed. -/
def State.ratioStage (s : State) (a : Nat) (old new : Int) : State :=
  let x := (s.motion a).follow
  let num := s.ri .follower a 4 4
  let den := max 1 (s.flu a 8 4)
  if x.num = num ∧ x.den = den ∧ x.vm = s.flu a 0 1 then s
  else
    let s := s.rebase a old
    s.updMotion a (fun y => { y with follow := { y.follow with num := num, den := den, vm := s.flu a 0 1, mRef := new } })

/-! Cams (R230 to R232). -/

def State.cam (s : State) (t : Nat) : Cam := Tbl.get {} s.cams t

/-- A point of a table in LSB, for any index (R231). -/
def Cam.point (c : Cam) (i : Int) : Int :=
  let n : Int := max 1 (c.size : Int)
  if c.oneShot then Tbl.get 0 c.points (clampInt 0 (n - 1) i).toNat * 65536
  else Tbl.get 0 c.points (i % n).toNat * 65536 + i / n * c.rise

/-- At a phase: twice the Catmull-Rom cubic times MP^3, twice its slope per index times MP^2, and twice its second slope times
MP (R231). -/
def Cam.spline (c : Cam) (phase mp : Nat) : Int × Int × Int :=
  let i : Int := ((phase * c.size / mp : Nat) : Int)
  let r : Int := ((phase * c.size % mp : Nat) : Int)
  let d : Int := mp
  let p0 := c.point (i - 1)
  let p1 := c.point i
  let p2 := c.point (i + 1)
  let p3 := c.point (i + 2)
  let b := p2 - p0
  let q := 2 * p0 - 5 * p1 + 4 * p2 - p3
  let w := 3 * p1 - p0 - 3 * p2 + p3
  (2 * p1 * d * d * d + b * r * d * d + q * r * r * d + w * r * r * r, b * d * d + 2 * q * r * d + 3 * w * r * r, 2 * q * d + 6 * w * r)

/-- The master period of a follower: the MODULO of its master. -/
def State.masterPeriod (s : State) (a : Nat) : Nat := s.ru .vm (s.flu a 0 1) 8 8

/-- The value of a cam at a phase, with the speed and the acceleration that the master's give. -/
def State.camAt (s : State) (t phase mp : Nat) (mv ma : Int) : Point × State :=
  let c := s.cam t
  let (n, g, h) := c.spline phase mp
  let den := 2 * mp * mp * mp
  let (y, s) := s.freeDiv n den
  let (v, s) := s.freeDiv (g * c.size * mv) den
  let (w, s) := s.freeDiv (h * c.size * c.size * mv * mv + g * c.size * ma) den
  ({ p := y, v := v, a := w }, s)

/-- The boundary of a master period that lies between two master positions, if one does (R232). -/
def boundary (m0 m1 : Int) (mp : Nat) : Option Int :=
  let q0 := m0 / (mp : Int)
  let q1 := m1 / (mp : Int)
  if q0 = q1 then none else some (if q0 < q1 then q1 * mp else q0 * mp)

/-- A waiting cam table takes over at a boundary: p_ref is the set-point there less the table's value at phase 0. -/
def State.camSwitch (s : State) (a t : Nat) (at_ : Int) (mp : Nat) : State :=
  let m := s.motion a
  let x := m.follow
  let here : Int := match m.mode == 4, x.table with
    | true, some old =>
      let c := s.cam old
      if c.oneShot then x.pRef + c.point (c.size - 1) else x.pRef + (at_ - x.mStart) / (mp : Int) * c.rise + c.point 0
    | _, _ => m.p
  s.updMotion a (fun y => { y with mode := 4, goal := .hold, homing := none, landed := false
                                   follow := { x with pRef := here - (s.cam t).point 0, mStart := at_, table := some t, camNext := none } })

/-! Register correction (R233 to R235). -/

/-- A field of the follower record in position LSB: 2^16 LSB units. -/
def State.flx (s : State) (a off : Nat) : Int := (s.flu a off 4 : Int) * 65536

/-- Register correction acts: a servo follower in GEAR or CAM with REG_EN and REG_PERIOD. -/
def State.regOn (s : State) (a : Nat) : Bool :=
  decide (a < 128) && ((s.motion a).mode == 3 || (s.motion a).mode == 4) && bit (s.flu a 1 1) 0 && s.flu a 16 8 != 0

/-- Corrections under way add their share to p_ref (R234). -/
def State.corrStage (s : State) (a : Nat) (m : Int) : State :=
  let len := s.flu a 48 8
  ((s.motion a).follow.corrs).foldl (fun (u : State) (c : Int × Int × Int) =>
    let (due, u) := if len = 0 then (c.1, u) else u.freeDiv (c.1 * clampInt 0 len (m - c.2.1)) len
    u.updMotion a (fun y =>
      let f := y.follow
      let rest := f.corrs.drop 1
      let f := { f with pRef := f.pRef + (due - c.2.2), corrs := if due = c.1 then rest else rest ++ [(c.1, c.2.1, due)] }
      { y with follow := f })) s

/-- The axis position at a mark, between the previous T_in sample and the one just processed. -/
def State.markAt (s : State) (a t : Nat) : Int × State :=
  let e := Tbl.get {} s.posTab a
  let now := s.tInNow
  let p := (s.fb a).pos
  if !e.valid || now ≤ e.tIn then (p, s)
  else
    let (d, s) := s.freeDiv ((p - e.pos) * ((t : Int) - e.tIn)) (now - e.tIn)
    (e.pos + d, s)

/-- The deviations q - EXPECT of the marks of this cycle, with the positions, earliest first. -/
def State.markDevs (s : State) (a : Nat) : List (Int × Int) × State :=
  let period := s.flu a 16 8
  (Tbl.get [] s.marksIn a).foldl (fun (r : List (Int × Int) × State) t =>
    let (p, s) := r.2.markAt a t
    (r.1 ++ [(wrapHalf (p % (period : Int) - s.flu a 24 8) period, p)], s)) ([], s)

/-- The mark used of several accepted ones: the nearest to EXPECT, the earlier on a tie. -/
def nearestMark : List (Int × Int) → Option (Int × Int)
  | [] => none
  | x :: rest =>
    match nearestMark rest with
    | none => some x
    | some y => if x.1.natAbs ≤ y.1.natAbs then some x else some y

/-- An accepted mark: the error, the dead band, and a correction (R234). -/
def State.acceptMark (s : State) (a : Nat) (m dev p : Int) : State :=
  let period := s.flu a 16 8
  let e := wrapHalf (-dev) period
  let (shown, s) := s.freeDiv e 65536
  let s := ((s.wI .MO_REG_LAST_ERR a shown).wb .MO_STAT_REG_HOLD a false).updMotion a (fun y =>
    { y with follow := { y.follow with lastMark := p, misses := 0 } })
  if (e.natAbs : Int) ≤ s.flx a 36 then s
  else
    let left := ((s.motion a).follow.corrs.map (fun c => c.1 - c.2.2)).foldl (· + ·) 0
    let (g, s) := s.freeDiv (e * s.flu a 12 2) 65536
    let c := clampInt (-(s.flx a 40)) (s.flx a 40) (g - left)
    s.updMotion a (fun y => { y with follow := { y.follow with corrs := y.follow.corrs ++ [(c, m, 0)] } })

/-- Periods of travel without an accepted mark (R235). -/
def State.missStage (s : State) (a : Nat) : State :=
  let period : Int := s.flu a 16 8
  let x := (s.motion a).follow
  let d := (s.fb a).pos - x.lastMark
  let k := d.natAbs / period.toNat
  if k = 0 then s
  else
    let n := x.misses + k
    let s := (s.inc .MO_REG_CNT_MISS a k).updMotion a (fun y =>
      { y with follow := { y.follow with misses := n, lastMark := y.follow.lastMark + (if d < 0 then -period else period) * k } })
    let lim := s.flu a 3 1
    if x.misses < lim ∧ lim ≤ n then
      ((s.wb .MO_STAT_REG_HOLD a true).updMotion a (fun y => { y with follow := { y.follow with corrs := [] } })).warn a .regMarksLost
    else s

/-- The register stage of a follower at master position m; travel counts from where register correction begins. -/
def State.regStage (s : State) (a : Nat) (m : Int) : State :=
  if !s.regOn a then
    if a < 128 then s.updMotion a (fun y => { y with follow := { y.follow with lastMark := (s.fb a).pos, misses := 0 } }) else s
  else
    let (devs, s) := s.markDevs a
    let ok := devs.filter (fun d => decide ((d.1.natAbs : Int) ≤ s.flx a 32))
    let s := s.inc .MO_REG_CNT_OUTSIDE a (devs.length - ok.length)
    match nearestMark ok with
    | some (dev, p) => s.acceptMark a m dev p
    | none => s.missStage a

/-! Followers. -/

/-- The checks of a follower's set-point (R229): speed above VMAX, a soft limit passed. -/
def State.followChecks (s : State) (a : Nat) : State :=
  let m := s.motion a
  let s := if decide ((s.limits a false).v < m.v.natAbs) then s.setFaultOnce a 2 .followVmax else s
  if bit (s.mou a 0 1) 0 && (decide (m.p < s.ri .motion a 32 8) || decide (s.ri .motion a 40 8 < m.p)) then s.setFaultOnce a 2 .softLimit else s

/-- The set-point of a follower in GEAR at master point `x` (R227). -/
def State.gearStage (s : State) (a : Nat) (x : Point) : State :=
  let f := (s.motion a).follow
  let (k, s) := s.factorAt f x.p
  let done := f.ramped x.p
  let (v, s) := s.freeDiv (f.num * k * x.v) (f.den * 2 ^ 24)
  let slope : Int := if done ∨ x.p < f.mRef then 0 else f.target - f.k0
  let (acc, s) := s.freeDiv (f.num * (k * x.a * (max 1 f.len : Nat) + slope * x.v * x.v)) (f.den * 2 ^ 24 * max 1 f.len)
  let p := f.gearAt x.p
  let off := done && f.target == 0
  s.updMotion a (fun y =>
    { y with p := p, v := if off then 0 else v, a := if off then 0 else acc, mode := if off then 0 else 3, goal := .hold
             follow := { f with k := k, m := x.p } })

/-- The set-point of a follower in CAM at master point `x` (R231). -/
def State.camStage (s : State) (a t : Nat) (x : Point) : State :=
  let f := (s.motion a).follow
  let mp := max 1 (s.masterPeriod a)
  let c := s.cam t
  let dm := x.p - f.mStart
  if c.oneShot && decide ((mp : Int) ≤ dm) then
    (s.updMotion a (fun y => { y with p := f.pRef + c.point (c.size - 1), v := 0, a := 0, mode := 0, follow := { f with table := none, m := x.p } })).raise .camEnd
  else
    let (q, s) := s.camAt t (dm % (mp : Int)).toNat mp x.v x.a
    let turns := if c.oneShot then 0 else dm / (mp : Int) * c.rise
    s.updMotion a (fun y => { y with p := f.pRef + turns + q.p, v := q.v, a := q.a, goal := .hold, follow := { f with m := x.p } })

/-- GEAR and CAM, and a CAM_START that waits for a boundary. -/
def State.followStage (s : State) (a n ahead : Nat) : State :=
  let f := (s.motion a).follow
  let (x, s) := s.masterAt a (s.flu a 0 1) n ahead
  let s := match f.camNext with
    | some t =>
      match boundary f.m x.p (max 1 (s.masterPeriod a)) with
      | some b => s.camSwitch a t b (max 1 (s.masterPeriod a))
      | none => s
    | none => s
  let m := s.motion a
  let s :=
    if m.mode = 3 then
      let (old, s) := if f.vm = s.flu a 0 1 then (x, s) else s.masterAt a f.vm n ahead
      let s := s.ratioStage a old.p x.p
      ((s.corrStage a x.p).regStage a x.p |>.gearStage a x).followChecks a
    else if m.mode = 4 then
      match m.follow.table with
      | some t => ((s.corrStage a x.p).regStage a x.p |>.camStage a t x).followChecks a
      | none => s
    else s
  s.updMotion a (fun y => { y with follow := { y.follow with m := x.p } })

/-! Homing (R236 to R238). -/

/-- HDIR as a sign. -/
def State.hdir (s : State) (a : Nat) : Int := if s.mou a 60 1 = 0 then 1 else -1

def State.vSearch (s : State) (a : Nat) : Int := s.speedOf a (s.mou a 64 4)
def State.vCreep (s : State) (a : Nat) : Int := s.speedOf a (s.mou a 68 4)

/-- Put a homing sequence at a step, moving at a speed. -/
def State.homeTo (s : State) (a step : Nat) (v : Int) (f : Homing → Homing := id) : State :=
  s.updMotion a (fun m => { m with goal := .speed v, homing := m.homing.map (fun h => f { h with step := step }) })

/-- End homing with a fault or without one. -/
def State.homeEnd (s : State) (a : Nat) : State :=
  (s.updMotion a (fun m => { m with homing := none })).w .MO_STAT_HSTEP a 0

/-- The latch point: the latched point has position HOME_POS, HOMED is set, and the axis stops or moves to HOME_FINAL; emulators
shift with it (R236). Method 5 always backs off to HOME_FINAL. -/
def State.homeLatch (s : State) (a : Nat) (latched : Int) : State :=
  let d := s.ri .motion a 72 8 - latched
  let s := if a < 128 then s.updFb a (fun x => { x with offset := x.offset - d, pos := x.pos + d, idxAt := x.idxAt.map (· + d) })
    else { s with steppers := Tbl.modify {} s.steppers (a - 128) (fun x => { x with offset := x.offset + d }) }
  let five := match (s.motion a).homing with | some h => h.method == 5 | none => false
  let goal : Goal := if five || bit (s.mou a 0 1) 1 then .target (s.ri .motion a 80 8) else .stop false
  let s := s.updMotion a (fun m => { m with p := m.p + d, goal := goal, homing := m.homing.map (fun h => { h with step := 5, latched := true }) })
  (s.wb .MO_STAT_HOMED a true).shiftEmus a d

/-- Homing has looked at the changes of the inputs. -/
def State.seenInputs (s : State) (a : Nat) : State :=
  s.updMotion a (fun m => { m with filters := [0, 1, 2].foldl (fun t k => Tbl.modify {} t k (fun x => { x with news := false })) m.filters })

/-- The end of a homing sequence that has latched: HOLD, and HOMING_DONE (R213, Table 8.12). -/
def State.homeDone (s : State) (a : Nat) : State :=
  ((s.homeEnd a).updMotion a (fun k => { k with mode := 0, goal := .hold })).raise .homingDone

/-- Begin homing (R236). -/
def State.homeStart (s : State) (a : Nat) : State :=
  let method := s.mou a 3 1
  let h : Homing := { method := method, dir := s.hdir a, step := if method = 3 then 4 else if method = 5 then 3 else 1 }
  let s := (s.updMotion a (fun m => { m with mode := 5, landed := false, homing := some h })).seenInputs a
  if method = 0 then
    let s := s.homeLatch a (if a < 128 then (s.fb a).pos else (s.motion a).p)
    if bit (s.mou a 0 1) 1 then s else s.homeDone a
  else
    let s := s.wb .MO_STAT_HOMED a false
    s.updMotion a (fun m => { m with goal := .speed (s.hdir a * (if method = 3 ∨ method = 5 then s.vCreep a else s.vSearch a)) })

/-- The input that serves as the home switch, and the limits that act as limits (R236, R238). -/
def State.homeInput (s : State) (a method : Nat) : Nat := if method = 4 then (if s.hdir a = 1 then 0 else 1) else 2

/-- A limit during homing (R238): the first one, in the search direction and before the switch is found, reverses the search;
every other ends homing with FC1. -/
def State.homeLimit (s : State) (a : Nat) (h : Homing) (dir : Int) : State :=
  let searching := h.step == 1 || (h.step == 4 && h.method == 3)
  if h.method != 5 && h.limits == 0 && searching && h.dir == dir then
    let v := if h.method = 3 then s.vCreep a else s.vSearch a
    (s.homeTo a h.step (-dir * v) (fun k => { k with dir := -dir, limits := 1 })).raise .homingReverse
  else (s.homeEnd a).setFault a 1 .homingLimit

/-- The set-point speed is constant at V_CREEP, in a direction (R237). -/
def State.creeps (s : State) (a : Nat) (dir : Int) : Bool := (s.motion a).v == dir * s.vCreep a && (s.motion a).a == 0

/-- The switch part of a homing sequence (R236, R237). -/
def State.homeSwitch (s : State) (a : Nat) (h : Homing) : State :=
  let x := (s.motion a).input (s.homeInput a h.method)
  let against := -s.hdir a
  if h.step = 1 then
    if x.active then s.homeTo a 3 (against * s.vCreep a) else s
  else if h.again then
    if x.active then s.homeTo a 3 (against * s.vCreep a) (fun k => { k with again := false }) else s
  else if x.news && !x.active then
    if s.creeps a against then
      if h.method = 2 then s.homeTo a 4 (against * s.vCreep a) (fun k => { k with travel := 0 }) else s.homeLatch a x.pos
    else s.homeTo a 3 (s.hdir a * s.vCreep a) (fun k => { k with again := true })
  else s

/-- The index part (R236, R237): `was` is the set-point before this task. -/
def State.homeIndex (s : State) (a : Nat) (h : Homing) (moved : Int) : State :=
  let dir := if h.method = 2 then -s.hdir a else h.dir
  match (s.fb a).idxAt, decide (a < 128) && s.creeps a dir with
  | some p, true => s.homeLatch a p
  | _, _ =>
    let travel := h.travel + moved.natAbs
    let lim := s.mou a 88 8
    if lim ≠ 0 ∧ (lim : Int) ≤ travel then (s.homeEnd a).setFault a 1 .homingNoIndex
    else s.updMotion a (fun m => { m with homing := m.homing.map (fun k => { k with travel := travel }) })

/-- The hard stop (R236): T* has stood at its limit at low speed for HS_TIME. -/
def State.homeStop (s : State) (a t : Nat) (h : Homing) : State :=
  let at_ := (s.servo a).lim != 0 && decide ((s.fb a).speed.natAbs * 8 < (s.vCreep a).natAbs)
  let stood := if at_ then h.stood + t else 0
  if s.mou a 30 2 * 100000 ≤ stood then s.homeLatch a (s.fb a).pos
  else s.updMotion a (fun m => { m with homing := m.homing.map (fun k => { k with stood := stood }) })

/-- One task of a homing sequence over a time: inputs first, then the profile; the sequence ends at standstill after the
latch. -/
def State.homingStage (s : State) (a n t : Nat) (moved : Int) : State :=
  let hit (k : Nat) : Bool := ((s.motion a).input k).news && ((s.motion a).input k).active
  let s := match (s.motion a).homing with
    | none => s
    | some h =>
      if h.latched then s
      else
        let own := s.homeInput a h.method
        let s := if hit 0 && own != 0 then s.homeLimit a h 1 else s
        match (s.motion a).homing with
        | none => s
        | some h =>
          let s := if hit 1 && own != 1 then s.homeLimit a h (-1) else s
          match (s.motion a).homing with
          | none => s
          | some h =>
            if h.method = 5 then s.homeStop a t h
            else if h.step = 4 then s.homeIndex a h moved
            else s.homeSwitch a h
  let s := (s.seenInputs a).profileStep a n t
  match (s.motion a).homing with
  | none => s
  | some h =>
    let m := s.motion a
    if h.latched && m.goal == .hold then s.homeDone a
    else
      let wrong := match m.goal with
        | .speed v => decide (m.v * v < 0)
        | _ => false
      s.w .MO_STAT_HSTEP a (if wrong then 2 else h.step)

/-! Group members (R239 to R241). -/

/-- One for the whole path. -/
def pathOne : Nat := 2 ^ 64

/-- A member's set-point in a task of cycle n: the path parameter that the group task committed before, extrapolated along the
line for a stepper that looks ahead. -/
def State.memberStage (s : State) (a n ahead : Nat) : State :=
  match s.groupOf a with
  | none => s.updMotion a (fun m => { m with mode := 0, goal := .hold, v := 0, a := 0 })
  | some g =>
    let x := s.group g
    let fresh := decide (x.cycle = some n)
    let (path, pv, pa) := if fresh then (x.prevPath, x.prevV, x.prevA) else (x.path, x.pathV, x.pathA)
    let m := s.motion a
    let past := !fresh && !s.rb .GRP_STAT_MOVING g
    let t := ahead * s.period
    let (d, s) := if past || t == 0 then (0, s) else s.freeDiv (2 * pv * t * perSec + pa * t * t) (2 * perSec * perSec)
    let (v, s) := s.freeDiv (m.groupDelta * pv) pathOne
    let (w, s) := s.freeDiv (m.groupDelta * pa) pathOne
    let p := m.groupStart + divRound (m.groupDelta * clampInt path pathOne (path + d)) pathOne
    s.updMotion a (fun k => { k with p := p, v := if past then 0 else v, a := if past then 0 else w, mode := if past then 0 else 6, goal := .hold })

/-! Commands (R212, R213). -/

/-- A command ends what the axis did before; the set-point, its speed and acceleration stay. -/
def State.leaveMode (s : State) (a : Nat) : State :=
  let s := if a < 640 then (s.w .MO_STAT_HSTEP a 0).wb .MO_STAT_REVERSING a false else s
  s.updMotion a (fun m => { m with homing := none, landed := false, follow := { m.follow with camNext := none } })

/-- PROFILE_REVERSAL (R215). -/
def State.reversal (s : State) (a : Nat) : State :=
  if a < 640 then ((s.inc .MO_CNT_REVERSALS a).wb .MO_STAT_REVERSING a true).raise .profileReversal else s.raise .profileReversal

/-- Apply a motion command in a task of cycle n. -/
def State.applyMotion (s : State) (a n : Nat) (c : MotionCmd) : State :=
  match c with
  | .moveAbs t rel =>
    let m := s.motion a
    let goal := if rel then m.p + t else t
    let l := s.limits a false
    let s := (s.leaveMode a).updMotion a (fun k => { k with mode := 1, goal := .target goal })
    if reverses l (s.planKey a n l) m.point goal then s.reversal a else s
  | .moveVel v => (s.leaveMode a).updMotion a (fun k => { k with mode := 2, goal := .speed (s.speedOf a v) })
  | .stop quick =>
    let homing := (s.motion a).homing.isSome
    let s := if homing then (s.wb .MO_STAT_HOMED a false).raise .homingAbort else s
    (s.leaveMode a).updMotion a (Motion.brake quick)
  | .factor k len =>
    let (x, s) := s.masterAt a (s.flu a 0 1) n 0
    let was := (s.motion a).mode == 3
    let s := if was then (s.ratioStage a x.p x.p).rebase a x.p else s
    let s := s.leaveMode a
    s.updMotion a (fun m =>
      let f := m.follow
      let f := if was then f else { f with pRef := m.p, mRef := x.p, k0 := 0, k := 0, corrs := [], lastMark := if a < 128 then (s.fb a).pos else m.p, misses := 0 }
      { m with mode := 3, goal := .hold
               follow := { f with target := k, len := len, vm := s.flu a 0 1, num := s.ri .follower a 4 4, den := max 1 (s.flu a 8 4) } })
  | .cam t =>
    let (x, s) := s.masterAt a (s.flu a 0 1) n 0
    let on := (s.motion a).mode == 3 || (s.motion a).mode == 4
    s.updMotion a (fun m =>
      let f := if on then m.follow else { m.follow with corrs := [], lastMark := if a < 128 then (s.fb a).pos else m.p, misses := 0, m := x.p }
      { m with follow := { f with camNext := some t } })
  | .home => (s.leaveMode a).homeStart a
  | .group g =>
    if s.groupOf a = some g then (s.leaveMode a).updMotion a (fun m => { m with mode := 6, goal := .hold }) else s

/-- The commands accepted before a cycle began take effect in it (R212). -/
def State.commandStage (s : State) (a n : Nat) : State :=
  let due (c : Nat × MotionCmd) : Bool := c.1 != n
  let l := (s.motion a).cmds
  let s := s.updMotion a (fun m => { m with cmds := m.cmds.filter (fun c => !due c) })
  (l.filter due).foldl (fun u c => u.applyMotion a n c.2) s

/-! The stage. -/

/-- A speed profile that heads for a soft limit turns into a move that ends on it (Table 8.2). -/
def State.softStage (s : State) (a t : Nat) : State :=
  let m := s.motion a
  match m.goal with
  | .speed v =>
    if m.mode != 2 || !bit (s.mou a 0 1) 0 || (m.v == 0 && v == 0) then s
    else
      let l := s.limits a false
      let up := decide (0 < m.v) || (m.v == 0 && decide (0 < v))
      let lim := if up then s.ri .motion a 40 8 else s.ri .motion a 32 8
      let dist := if up then lim - m.p else m.p - lim
      let ahead := min (max l.v m.v.natAbs) (m.v.natAbs + (l.gain m.a t).toNat)
      let left := dist - (ahead * t / perSec : Nat)
      if left < 0 ∨ overshoots l ahead left.toNat then (s.updMotion a (fun k => { k with goal := .target lim })).warn a .softLimit else s
  | _ => s

/-- A profile's task: HOLD at the end of a move or stop, and REVERSING while the axis still runs from its target. -/
def State.planStage (s : State) (a n t : Nat) : State :=
  let s := (s.softStage a t).profileStep a n t
  let m := s.motion a
  let s := if m.goal == .hold then s.updMotion a (fun k => { k with mode := 0 }) else s
  if a < 640 ∧ s.rb .MO_STAT_REVERSING a then
    match m.goal with
    | .target g => if 0 < (g - m.p) * m.v then s.wb .MO_STAT_REVERSING a false else s
    | _ => s.wb .MO_STAT_REVERSING a false
  else s

/-- The motion of an axis over a time, in the mode in force; followers look `ahead` by so many cycles. -/
def State.modeStage8 (s : State) (a n t ahead : Nat) (moved : Int) : State :=
  let s := if (s.motion a).follow.camNext.isSome || (s.motion a).mode == 3 || (s.motion a).mode == 4 then s.followStage a n ahead else s
  let m := s.motion a
  match m.mode with
  | 3 | 4 => s
  | 5 => s.homingStage a n t moved
  | 6 => s.memberStage a n ahead
  | _ => s.planStage a n t

/-- The motion registers of an axis (Table 8.11). -/
def State.motionShow (s : State) (a : Nat) (p : Int) : State :=
  let m := s.motion a
  let near := decide (128 ≤ a) || decide (((s.fb a).pos - m.p).natAbs ≤ s.mou a 100 4 * 65536)
  let sync := m.mode == 3 && (m.follow.ramped m.follow.m || m.follow.k0 == m.follow.target) && m.follow.target != 0
  let (v, s) := s.freeDiv (m.v * 65536) (s.lsbPerU a)
  let u := ofSigned 64 p
  ((((s.wb .MO_STAT_IN_POS a (m.landed && near)).wb .MO_STAT_SYNC a sync).w .MO_POS_LO_POS a u).w .MO_POS_HI_POS a (u / 2 ^ 32)).wI
    .MO_VEL_VEL a (clampInt (-(2 ^ 31)) (2 ^ 31 - 1) v)

/-- The motion stage of a servo axis in a task of cycle n with input frame `inst`; `before` is its position before the feedback
stage. -/
def State.servoMotion (s : State) (a n inst : Nat) (before : Int) : State :=
  let t := s.sinceEntry a n * s.period
  let s := s.inputsStage a n inst 1
  let s := s.commandStage a n
  let s := if 3 ≤ s.fc a then (s.followPosition a).w .MO_STAT_HSTEP a 0
    else s.modeStage8 a n t 0 ((s.fb a).pos - before)
  s.motionShow a (s.motion a).p

end Sys2Proof.Machine
end

