-- ==== Sys2Proof/Machine/Shaft.lean ====
section
/-! DEFINITION. Sys2Proof/Machine/Shaft.lean: virtual masters (R221 to R226), the path of a coordination group (R239 to R241), stepper
axes (R242 to R246), and the master and position tables (R222). -/

namespace Sys2Proof.Machine

/-! The plant shaft (R224, R225): times in 2^-16 ns. -/

/-- 2^-16 ns in a second. -/
def perT : Nat := 65536000000000

/-- A quotient whose rounding the manual does not state, the same on every unit (R225). -/
def detDiv (num : Int) (den : Nat) : Int := if num % den = 0 then num / den else num / den + Config.profile [7, num, (den : Int)] % 2

/-- A part of a ramp whose speed changes at one rate: distance and speed after a time, and the time left when it has ended. -/
def rampPart (rate : Nat) (v goal : Int) (t : Nat) : Int × Int × Nat :=
  let dv := (goal - v).natAbs
  let sg : Int := if v ≤ goal then 1 else -1
  let need := if rate = 0 then 0 else divCeil (dv * perT) rate
  if need ≤ t then (detDiv ((v + goal) * need) (2 * perT), goal, t - need)
  else (detDiv (2 * v * t * perT + sg * rate * t * t) (2 * perT * perT), v + sg * (rate * t / perT : Nat), 0)

/-- The two signs of a ramp differ. -/
def crosses (v goal : Int) : Bool := decide ((v < 0 ∧ 0 < goal) ∨ (0 < v ∧ goal < 0))

/-- A ramp from a speed to another: distance and speed after a time within it. With a jerk limit only what the two speeds allow
is stated. -/
def rampAt (l : Limits) (v goal : Int) (t : Nat) : Int × Int :=
  if l.j = 0 then
    let rate := if goal.natAbs < v.natAbs ∨ crosses v goal then l.d else l.a
    let (d, w, left) := rampPart rate v (if crosses v goal then 0 else goal) t
    if crosses v goal then
      let (d2, w2, left2) := rampPart l.a w goal left
      (d + d2 + detDiv (w2 * left2) perT, w2)
    else (d + detDiv (w * left) perT, w)
  else
    let k : List Int := [v, goal, (t : Int), (l.a : Int), (l.d : Int), (l.j : Int)]
    (between (v * t / perT) (goal * t / perT) (Config.profile (8 :: k)), between v goal (Config.profile (9 :: k)))

/-- How long a ramp lasts; with a jerk limit at least as long as without one. -/
def rampTime (l : Limits) (v goal : Int) : Nat :=
  let need (rate : Nat) (dv : Nat) : Nat := if rate = 0 then 0 else divCeil (dv * perT) rate
  let plain := if crosses v goal then need l.d v.natAbs + need l.a goal.natAbs
    else need (if goal.natAbs < v.natAbs then l.d else l.a) (goal - v).natAbs
  if l.j = 0 then plain else max plain (Config.profile [10, v, goal, (l.a : Int), (l.d : Int), (l.j : Int)]).toNat

/-- The trajectory at a plant instant: from a point at an instant, over the ramps. -/
def shaftAt (l : Limits) (t : Nat) : List (Nat × Int × Nat) → Int → Int → Nat → Int × Int
  | [], p, v, t0 => (p + detDiv (v * ((t : Int) - t0)) perT, v)
  | (ts, goal, te) :: rest, p, v, t0 =>
    if t ≤ ts then (p + detDiv (v * ((t : Int) - t0)) perT, v)
    else
      let p := p + detDiv (v * ((ts : Int) - t0)) perT
      let (d, w) := rampAt l v goal (min t te - ts)
      if t ≤ te then (p + d, w) else shaftAt l t rest (p + d) goal te

/-- L(n+2) in a time base, as the HUB's time table gives it (R286). -/
def State.hubTime (s : State) (off : Nat) : Nat := (timeOf ((s.sramOf 0).base.readN (0x3F8000 + off) 12)).getD 0

/-! The task of a virtual master. -/

/-- The number of cycles since the master's last entry. -/
def Vm.elapsed (x : Vm) (n : Nat) : Nat := match x.entry.cycle with | some c => max 1 (cycDiff n c) | none => 1

/-- The limiter of a plant-shaft master (R226): the trajectory where the limits reach it from the output, otherwise a plan toward
it. -/
def State.limiter (s : State) (v n t : Nat) (goal : Int × Int) : State :=
  let a := 640 + v
  let l := s.limits a false
  let x := (s.motion a).point
  let g := l.gain 0 t
  let lead := (goal.1 - x.p) * (perSec : Int)
  let ok := decide (goal.2.natAbs ≤ l.v) && decide ((goal.2 - x.v).natAbs ≤ g) &&
    decide ((min x.v goal.2 - g) * t ≤ lead) && decide (lead ≤ (max x.v goal.2 + g) * t)
  let was := s.rb .VM_STAT_CATCHUP v
  if ok then
    let (acc, s) := s.freeDiv ((goal.2 - x.v) * perSec) (max 1 t)
    (s.updMotion a (fun m => m.put { p := goal.1, v := goal.2, a := acc })).wb .VM_STAT_CATCHUP v false
  else
    let y := freePlan l (goal.1 :: goal.2 :: s.planKey a n l) t x
    let s := (s.updMotion a (fun m => m.put y)).wb .VM_STAT_CATCHUP v true
    if was then s else s.warn a .vmCatchup

/-- The source of an axis master: position and speed of its entry, and the time from the entry's instant to L(n+2), in 10 ns. -/
def State.sourceAt (s : State) (src n : Nat) : Option (Int × Int × Int) :=
  let e1 := Tbl.get {} s.posTab src
  let e := if e1.valid && e1.cycle == n then Tbl.get {} s.posPrev src else e1
  if !e.valid then none
  else
    let gap := cycDiff n e.cycle * s.period
    if src < 128 then some (e.pos, e.vel, ((gap + 3 * s.period + s.r .CYC_TIMES_TIN_LEAD + s.r .CYC_TIMES_TOUT_OFS : Nat) : Int))
    else some (e.setPoint, e.vel, ((gap + s.period : Nat) : Int))

/-- A 64-byte entry of the master table: position, speed, acceleration, unwrapped position (log 25). -/
def vmEntryBytes (p v a : Int) (modulo : Nat) : List Byte :=
  leInt 8 (if modulo = 0 then p else p % (modulo : Int)) ++ leInt 8 v ++ leInt 8 a ++ leInt 8 p ++ List.replicate 32 0

/-- Write bytes into the read-only area of every loop die, readable from the next cycle on (R222); offsets count from the
beginning of shared SRAM at 0x0040_0000. -/
def State.hubWrite (s : State) (n addr : Nat) (b : List Byte) : State :=
  let l := (List.range b.length).zip b |>.map (fun e => (addr + e.1, e.2))
  [0, 1, 2, 3].foldl (fun u g => u.updSram g (fun m => m.commit n l)) s

/-! The position table. -/

/-- An entry of 32 bytes: set-point, axis position at T_in, speed (log 25). -/
def posEntryBytes (e : PosEntry) : List Byte := leInt 8 e.setPoint ++ leInt 8 e.pos ++ leInt 8 e.vel ++ List.replicate 8 0

/-- Every commit is a sample of the records that watch the axis: bits [47:16] of an item, at its T_in (R252). -/
def State.acqAxis (s : State) (a : Nat) (e : PosEntry) : State :=
  s.acqFeed (fun b => acqSkind b == 2 && fld b 22 2 == a) e.tIn (fun b =>
    let item := match fld b 24 1 with | 0 => e.setPoint | 1 => e.pos | _ => e.vel
    some (toSigned 32 (ofSigned 64 item / 65536 % 2 ^ 32), 0))

/-- Commit the entry of an axis or a virtual master (R222), and its emulators' target (R172). -/
def State.posCommit (s : State) (a n inst : Nat) (p : Int) : State :=
  let m := s.motion a
  let e : PosEntry :=
    { valid := true, cycle := n, setPoint := p, pos := if a < 128 then (s.fb a).pos else p
      vel := if a < 128 then (if s.hasFeedback a then (s.fb a).speed else m.v) else m.v
      tIn := s.tInNow - cycDiff n inst * t10 s.period }
  let s := { s with posPrev := Tbl.set {} s.posPrev a (Tbl.get {} s.posTab a), posTab := Tbl.set {} s.posTab a e }
  ((s.hubWrite n (0x3F0200 + 32 * a) (posEntryBytes e)).acqAxis a e).emuTarget a

/-- Commit an entry of the master table, and the master's registers. -/
def State.vmCommit (s : State) (v n inst : Nat) : State :=
  let m := s.motion (640 + v)
  let modulo := s.ru .vm v 8 8
  let s := s.updVm v (fun x => { x with prev := x.entry, entry := { cycle := some n, p := m.p, v := m.v, a := m.a } })
  let shown := ofSigned 64 (if modulo = 0 then m.p else m.p % (modulo : Int))
  let (vel, s) := s.freeDiv (m.v * 65536) (s.lsbPerU (640 + v))
  let s := ((s.w .VM_POS_LO_POS v shown).w .VM_POS_HI_POS v (shown / 2 ^ 32)).wI .VM_VEL_VEL v (clampInt (-(2 ^ 31)) (2 ^ 31 - 1) vel)
  (s.hubWrite n (0x3F0000 + 64 * v) (vmEntryBytes m.p m.v m.a modulo)).posCommit (640 + v) n inst m.p

/-- The task of a virtual master in cycle n with input frame `inst` (R221, R224, R226). -/
def State.vmStage (s : State) (v n inst : Nat) : State :=
  let a := 640 + v
  let x := s.vm v
  let t := x.elapsed n * s.period
  let src := s.ru .vm v 0 1 % 4
  let s := s.commandStage a n
  let s :=
    if src = 0 then s.planStage a n t
    else if src = 1 then
      match x.t0 with
      | none => s.profileStep a n t
      | some t0 => s.limiter v n t (shaftAt (s.limits a false) (s.hubTime 20) x.ramps x.p0 x.v0 t0)
    else
      let ax := s.ru .vm v 4 2
      let s := if !x.lost && (s.axis ax).causes.contains (.encFault, 3) then
          (s.updVm v (fun y => { y with lost := true })).updMotion a (fun m => { m with mode := 2, goal := .stop true }) |>.raise .vmSourceLost
        else s
      if (s.vm v).lost then s.profileStep a n t
      else match s.sourceAt ax n with
        | none => s
        | some (p, w, dt) =>
          let (d, s) := s.freeDiv (w * dt) perSec
          s.updMotion a (fun m => m.put { p := p + d, v := w, a := 0 })
  s.vmCommit v n inst

/-! Groups. -/

/-- A limit of a member in path units per second (or its powers), for a displacement. -/
def pathLimit (x : Nat) (delta : Int) : Nat := x * pathOne / max 1 delta.natAbs

/-- The tightest of what members give, for the members that move. -/
def State.tightest (s : State) (g : Nat) (f : Nat → Nat) (start : Nat) : Nat :=
  ((s.group g).members.filter (fun a => (s.motion a).groupDelta != 0)).foldl (fun v a => min v (pathLimit (f a) (s.motion a).groupDelta)) start

/-- Limits of a stop along the line (R241). -/
def State.groupStopLimits (s : State) (g : Nat) (quick : Bool) (l : Limits) : Limits :=
  let js := (s.group g).members.filter (fun a => (s.limits a quick).j != 0)
  { l with
    d := s.tightest g (fun a => (s.limits a quick).d) (2 ^ 200)
    j := if js = [] then 0 else js.foldl (fun v a => min v (pathLimit (s.limits a quick).j (s.motion a).groupDelta)) (2 ^ 200) }

/-- The task of a group in cycle n: the path parameter for L(n+2) (R239, R240). -/
def State.groupStage (s : State) (g n : Nat) : State :=
  let x := s.group g
  if !s.rb .GRP_STAT_MOVING g || x.cycle == some n then s
  else
    let t := (match x.cycle with | some c => max 1 (cycDiff n c) | none => 1) * s.period
    let l : Limits := { v := x.vLead, a := x.aLead, d := x.dLead, j := x.jLead }
    let pt : Point := { p := x.path, v := x.pathV, a := x.pathA }
    let key : List Int := [(g : Int), (n : Int), (s.free : Int)]
    let (y, done, s) :=
      if x.stopping then
        let (y, s) := s.speedPlan (s.groupStopLimits g x.quick l) key t 0 pt
        (y, decide (y.v = 0 ∧ y.a = 0), s)
      else let (y, e) := targetPlan l key t pathOne pt; (y, e, s)
    let p := clampInt x.path pathOne y.p
    let s := s.updGroup g (fun k => { k with
      path := p.toNat, pathV := if done then 0 else max 0 y.v, pathA := if done then 0 else y.a, cycle := some n, prevPath := x.path, prevV := x.pathV
      prevA := x.pathA })
    let s := s.w .GRP_S_S g (min (2 ^ 32 - 1) (p.toNat / 2 ^ 32))
    if done || p == pathOne then s.wb .GRP_STAT_MOVING g false else s

/-! Steppers. -/

def State.stepper (s : State) (j : Nat) : Stepper := Tbl.get {} s.steppers j
def State.updStepper (s : State) (j : Nat) (f : Stepper → Stepper) : State := { s with steppers := Tbl.modify {} s.steppers j f }
def State.stu (s : State) (a off n : Nat) : Nat := s.ru .stepper (a - 128) off n

/-- The commanded electrical angle of a set-point, in 2^-32 electrical turn (R243). -/
def State.elAngleOf (s : State) (a : Nat) (p : Int) : Int :=
  (p - (s.stepper (a - 128)).offset) * s.stu a 1 1 * (if bit (s.stu a 0 1) 0 then -1 else 1)

/-- DANG and the residual that is carried (R243). -/
def angleStep (need r : Int) (rounds : Nat) : Int × Int :=
  let d := divRound (need + r) (rounds * 65536)
  (d, need + r - d * (rounds * 65536 : Nat))

/-- A report in STAT sets its fault as it appears (R246). -/
def State.stepReport (s : State) (a old new i cls : Nat) (e : Ev) : State :=
  if bit new i && !bit old i then s.setFault a cls e else s

/-- The uplink of a stepper block: the axis's latest values, and its reports (R242, R246). -/
def State.stepUplink (s : State) (a : Nat) (b : List Byte) : State :=
  let j := a - 128
  let old := (s.stepper j).stat
  let st := fld b 4 1
  let s := s.updStepper j (fun x => { x with ia := fldI b 0 2, ib := fldI b 2 2, stat := st, udc := fld b 6 2, udcs := (fld b 6 2 :: x.udcs).take 16 })
  let s := s.stepReport a old st 0 3 .stepOvercurrent
  let s := s.stepReport a old st 2 3 .stepOpenPhase
  let s := s.stepReport a old st 1 2 .stepOvertemp
  let sent := (s.stepper j).enabled
  if bit st 3 && sent[0]? == some true && sent[1]? == some true then s.setFaultOnce a 3 .stepInhibited else s

/-- The load angle is computed: the electrical speed is at least EMF_MIN (R245). -/
def State.emfOn (s : State) (a : Nat) (v : Int) : Bool := decide (s.stu a 14 2 * 4294967296 ≤ v.natAbs * s.stu a 1 1 * 16)

/-- I* (R245): `x` is the profile's point, `delta` the load angle where it is computed. -/
def State.ampStage (s : State) (a : Nat) (x : Point) (delta : Option Int) : State :=
  let j := a - 128
  let run := s.stu a 8 2
  let amp := (s.stepper j).amp
  let (v, s) : Int × State :=
    if x.v = 0 ∧ x.a = 0 then (s.stu a 12 2, s)
    else if x.a ≠ 0 then (run, s)
    else match delta with
      | none => (run, s)
      | some d =>
        if (s.stu a 29 1 : Int) < d then let (w, s) := s.freeDiv (amp * 9) 8; (min run w, s)
        else if d < s.stu a 28 1 then let (w, s) := s.freeDiv (amp * 31) 32; (max (s.stu a 10 2) w, s)
        else (amp, s)
  let s := s.updStepper j (fun y => { y with amp := v.toNat })
  let (shown, s) := s.freeDiv (v * 255) 256
  s.w .ST_STAT_IST a (min 255 shown.toNat)

/-- Stalls (R246). -/
def State.stallStage (s : State) (a : Nat) (delta : Option Int) : State :=
  let j := a - 128
  let past : Bool := match delta with | some d => decide ((s.stu a 30 1 : Int) < d) | none => false
  let n := if past then (s.stepper j).stalls + 1 else 0
  let s := s.updStepper j (fun x => { x with stalls := n })
  if n = s.stu a 31 1 ∧ past then s.setFault a 3 .stepStall else s

/-- The voltages of a block (R244): the vector is free (log 5); one above VLIM times UDC is scaled down to it. -/
def State.voltStage (s : State) (a : Nat) (key : List Int) : State × List Byte :=
  let j := a - 128
  let x := s.stepper j
  let key := key ++ [x.ia, x.ib, (x.udcs.sum : Nat), (x.amp : Int), x.trimA, x.trimB]
  let g := s.stu a 3 1
  let s := s.updStepper j (fun y => { y with
    trimA := if g = 0 then 0 else y.trimA + Config.estimator 32 key, trimB := if g = 0 then 0 else y.trimB + Config.estimator 33 key })
  let va := Config.estimator 30 key
  let vb := Config.estimator 31 key
  -- 2^-16 V times 65,536, with the DC link as the mean of its last values
  let n := max 1 x.udcs.length
  let udc : Int := (x.udcs.sum * s.stu a 40 4 : Nat)
  let lim := udc * s.stu a 32 2
  let past := decide (lim * lim < (va * va + vb * vb) * (65536 * n * (65536 * n) : Nat))
  let was := s.rb .ST_STAT_VLIMIT a
  let s := s.wb .ST_STAT_VLIMIT a past
  let s := if past && !was then s.warn a .stepVlimit else s
  let q (v : Int) (k : Int) : Int × State → Int × State := fun r =>
    if past || udc == 0 then
      let top : Int := s.stu a 32 2 / 2
      (clampInt (-top) top (Config.estimator k.toNat key), r.2)
    else r.2.freeDiv (v * n * 32768) udc.toNat
  let (pa, s) := q va 34 (0, s)
  let (pb, s) := q vb 35 (0, s)
  let sat (v : Int) : Int := clampInt (-32768) 32767 v
  (s, leInt 2 (sat pa) ++ leInt 2 (sat pb))

/-- One update of a stepper axis into frame n+1, with the rounds U of its segment: the command block (R242 to R246). -/
def State.stepUpdate (s : State) (a n rounds : Nat) : State × List Byte :=
  let j := a - 128
  let late := s.sinceEntry a n - rounds
  let go (t ahead : Nat) (s : State) : State := if 3 ≤ s.fc a ∨ t = 0 then s else s.modeStage8 a n t ahead 0
  let s := s.commandStage a n
  let s := if 3 ≤ s.fc a then
      ((s.updMotion a (fun m => { m with v := 0, a := 0, mode := 0, goal := .hold, homing := none })).w .MO_STAT_HSTEP a 0).wb .MO_STAT_HOMED a false
    else s
  -- a late task: the profile first reaches the instant of this frame
  let s := go (late * s.period) 0 s
  let p1 := (s.motion a).p
  let e1 := s.elAngleOf a p1
  let s := go (rounds * s.period) rounds s
  let x := (s.motion a).point
  let (dang, r) := angleStep (s.elAngleOf a x.p - e1) (s.stepper j).residual rounds
  let s := s.updStepper j (fun y => { y with residual := r })
  let key : List Int := [(a : Int), (n : Int), s.elAngleOf a x.p, x.v, (s.stepper j).offset]
  let delta := if s.emfOn a x.v then some (clampInt (-128) 127 (Config.estimator 36 (key ++ [(s.stepper j).ia, (s.stepper j).ib]))) else none
  let s := match delta with
    | some d => (s.updStepper j (fun y => { y with delta := d })).w .ST_STAT_DELTA a (ofSigned 8 d)
    | none => s
  let s := s.ampStage a x delta
  let s := s.stallStage a delta
  let (s, v) := s.voltStage a key
  (s.motionShow a p1, v ++ leInt 2 dang ++ le 1 (s.stu a 2 1) ++ le 1 (b2n (decide (s.fc a < 3))))

end Sys2Proof.Machine
end

