-- ==== Sys2Proof/Machine/Motion.lean ====
section
/-! DEFINITION. Sys2Proof/Machine/Motion.lean: the motion opcodes of Table 8.12, and the index latch of an axis's node. -/

namespace Sys2Proof.Machine

/-! Records (R248). -/

/-- An input reference is laid out as Table 8.3 and within R217; a local channel is an input sampled with the ring (R305). -/
def State.refOk (s : State) (ref : Nat) : Bool :=
  let src := ref % 256
  let b := bits ref 18 8
  decide (ref < 2 ^ 20) &&
    (src == 0 || (src == 255 && decide (b < 24) && (s.ru .field b 0 1 == 1 || s.ru .field b 0 1 == 2) && !s.chFlag b 2) ||
      (src != 255 && (List.range 8).all (fun k => (s.sched k).phase != 2 ||
        match (s.sched k).seg src 3 with
        | some g => decide (b < g.pb * 32)
        | none => true)))

/-- R243 in a mode: VMAX times POLE_PAIRS times P times U within a quarter of an electrical turn. -/
def stepSpeedFits (motion step : List Byte) (period rounds : Nat) : Bool :=
  decide (fld motion 4 4 * fld step 1 1 * period * rounds * 4 ≤ 65536 * perSec)

/-- R243 for a stepper axis in a mode. -/
def State.stepFitsMode (s : State) (m : Sched) (a : Nat) (motion step : List Byte) : Bool :=
  let b := s.cfg .stepBind (a - 128)
  fld b 0 1 == 0 ||
    match m.seg (fld b 0 1) 2 with
    | some g => stepSpeedFits motion step m.period g.pc
    | none => true

/-- R243 in every closed mode. -/
def State.stepFits (s : State) (a : Nat) (motion step : List Byte) : Bool :=
  decide (a < 128) || decide (640 ≤ a) || (List.range 8).all (fun k => (s.sched k).phase != 2 || s.stepFitsMode (s.sched k) a motion step)

/-- R243 for every stepper axis of a mode (SCHED_CLOSE). -/
def State.modeStepFits (s : State) (m : Sched) : Bool :=
  (List.range 512).all (fun j => s.stepFitsMode m (j + 128) (s.recLatest .motion (j + 128)) (s.recLatest .stepper j))

/-- A motion record is within Table 8.6. -/
def State.motionOk (s : State) (a : Nat) (b : List Byte) : Bool :=
  let u (o n : Nat) : Nat := fld b o n
  decide (u 0 1 < 4) && decide (u 3 1 ≤ 5) && !(u 3 1 == 5 && decide (128 ≤ a)) && u 4 4 != 0 && u 8 4 != 0 && u 12 4 != 0 && decide (u 12 4 ≤ u 20 4) &&
    decide (fldI b 32 8 < fldI b 40 8) && s.refOk (u 48 4) && s.refOk (u 52 4) && s.refOk (u 56 4) && decide (u 60 1 ≤ 1) && zeroBytes b 61 3 &&
    decide (u 64 4 ≤ u 4 4) && decide (u 68 4 ≤ u 64 4) && (u 3 1 == 0 || u 68 4 != 0) && zeroBytes b 104 24 &&
    s.stepFits a b (s.recLatest .stepper (a - 128))

/-- MOTION_CONFIG_SET. -/
def execMotionConfigSet (p : Pkt) (s : State) : Host.Outcome State Fault Refusal :=
  let a := p.u 0 2
  let old := s.recLatest .motion a
  let b := [(1, 1), (2, 1), (28, 2), (30, 2)].foldl (fun r f => keepZero old r f.1 f.2) (slice p.params 4 128)
  .next (hostCmd 0x0301 p s
    { plen := p.len == 132, need := .owns (decide (a < 648)) [a], fwd := true,
      checks := [(decide (p.u 2 1 < 2) && p.u 3 1 == 0 && s.motionOk a b, .badParam)] }
    fun s => ((s.recNext .motion a b).recFlash .motion a b (bit (p.u 2 1) 0), []))

/-- MOTION_CONFIG_GET. -/
def execMotionConfigGet (p : Pkt) (s : State) : Host.Outcome State Fault Refusal :=
  let a := p.u 0 2
  .next (hostCmd 0x0302 p s { plen := p.len == 2, checks := [(decide (a < 648), .badParam)] } fun s => (s, s.cfg .motion a))

/-! Moves. -/

/-- A target lies within the soft limits, where they are enabled (Table 8.2). -/
def State.inSoft (s : State) (a : Nat) (t : Int) : Bool :=
  !bit (s.mou a 0 1) 0 || (decide (s.ri .motion a 32 8 ≤ t) && decide (t ≤ s.ri .motion a 40 8))

/-- A motion that begins in a direction begins toward no active limit (R220); an axis that moves begins as it moves. -/
def State.freeToward (s : State) (a : Nat) (dir : Int) : Bool :=
  let v := (s.motion a).v
  let d := if v = 0 then dir else v
  decide (640 ≤ a) || !((decide (0 < d) && ((s.motion a).input 0).active) || (decide (d < 0) && ((s.motion a).input 1).active))

/-- Motion commands act on a virtual master of the profile source alone (R224). -/
def State.profiled (s : State) (a : Nat) : Bool := decide (a < 640) || s.ru .vm (a - 640) 0 1 % 4 == 0

/-- Queue a motion command for the first cycle that begins after its acceptance (R212). -/
def State.queueMotion (s : State) (a : Nat) (c : MotionCmd) : State := s.updMotion a (fun m => { m with cmds := m.cmds ++ [(s.cycle, c)] })

/-- MOVE_ABS. -/
def execMoveAbs (p : Pkt) (s : State) : Host.Outcome State Fault Refusal :=
  let a := p.u 0 2
  let rel := bit (p.u 2 1) 0
  let t := if rel then (s.motion a).p + p.i 4 8 else p.i 4 8
  .next (hostCmd 0x0310 p s
    { plen := p.len == 12, need := .owns (decide (a < 648)) [a], fwd := true,
      checks := [(decide (p.u 2 1 < 2) && p.u 3 1 == 0 && s.inSoft a t, .badParam),
        (s.fc a == 0 && s.freeToward a (t - (s.motion a).p) && s.profiled a, .badState)] }
    fun s => (s.queueMotion a (.moveAbs (p.i 4 8) rel), []))

/-- MOVE_VEL. -/
def execMoveVel (p : Pkt) (s : State) : Host.Outcome State Fault Refusal :=
  let a := p.u 0 2
  let v := p.i 4 4
  .next (hostCmd 0x0311 p s
    { plen := p.len == 8, need := .owns (decide (a < 648)) [a], fwd := true,
      checks := [(zeroBytes p.params 2 2 && decide (v.natAbs ≤ s.mou a 4 4), .badParam),
        (s.fc a == 0 && s.freeToward a v && s.profiled a, .badState)] }
    fun s => (s.queueMotion a (.moveVel v), []))

/-- MOTION_STOP. -/
def execMotionStop (p : Pkt) (s : State) : Host.Outcome State Fault Refusal :=
  let a := p.u 0 2
  .next (hostCmd 0x0312 p s
    { plen := p.len == 4, need := .owns (decide (a < 648)) [a], fwd := true,
      checks := [(decide (p.u 2 1 < 2) && p.u 3 1 == 0, .badParam), (s.profiled a, .badState)] }
    fun s => (s.queueMotion a (.stop (p.u 2 1 == 1)), []))

/-! Virtual masters. -/

/-- An axis follows a master. -/
def State.follows (s : State) (v : Nat) : Bool :=
  (List.range 640).any (fun a => ((s.motion a).mode == 3 || (s.motion a).mode == 4 || (s.motion a).follow.camNext.isSome) && s.flu a 0 1 == v)

/-- VM_CONFIG_SET. -/
def execVmConfigSet (p : Pkt) (s : State) : Host.Outcome State Fault Refusal :=
  let v := p.u 0 1
  let b := slice p.params 4 16
  .next (hostCmd 0x0320 p s
    { plen := p.len == 20, need := .lease, fwd := true,
      checks :=
        [(decide (v < 8) && decide (p.u 1 1 < 2) && zeroBytes p.params 2 2 && decide (fld b 0 1 < 8) && fld b 0 1 % 4 != 3 && decide (fld b 1 1 < 4) &&
            decide (fld b 2 2 < 4096) && !descSlot (s.desc (fld b 1 1) (fld b 2 2)) && decide (fld b 4 2 < 640) && zeroBytes b 6 2, .badParam),
         (!s.follows v, .badState)] }
    fun s => (((s.recNext .vm v b).recFlash .vm v b (bit (p.u 1 1) 0)).updVm v (fun x => { x with lost := false }), []))

/-- L(n+2) in TB2 of the first cycle that begins after now, as far as it can be told now (R225). -/
def State.plantNow (s : State) : Nat := s.hubTime 20 + t10 s.period

/-- VM_PLANT_SET (R224, R225). -/
def execVmPlantSet (p : Pkt) (s : State) : Host.Outcome State Fault Refusal :=
  let v := p.u 0 1
  let t := timeOf (slice p.params 4 12)
  .next (hostCmd 0x0321 p s
    { plen := p.len == 28, need := .owns (decide (v < 8)) [640 + v], fwd := true,
      checks := [(zeroBytes p.params 1 3 && t.isSome, .badParam),
        (s.ru .vm v 0 1 % 4 == 1 && decide (s.plantNow ≤ t.getD 0), .badState)] }
    fun s => (s.updVm v (fun x => { x with t0 := t, p0 := p.i 16 8, v0 := s.speedOf (640 + v) (p.i 24 4), ramps := [] }), []))

/-- The speed at the end of the ramps so far, and the plant instant at which they end. -/
def Vm.tail (x : Vm) : Int × Nat := match x.ramps.getLast? with | some r => r.2 | none => (x.v0, 0)

/-- VM_RAMP (R224, R225). -/
def execVmRamp (p : Pkt) (s : State) : Host.Outcome State Fault Refusal :=
  let v := p.u 0 1
  let t := timeOf (slice p.params 4 12)
  .next (hostCmd 0x0322 p s
    { plen := p.len == 20, need := .owns (decide (v < 8)) [640 + v], fwd := true,
      checks := [(zeroBytes p.params 1 3 && t.isSome, .badParam),
        (s.ru .vm v 0 1 % 4 == 1 && (s.vm v).t0.isSome && decide (s.plantNow ≤ t.getD 0) && decide ((s.vm v).tail.2 ≤ t.getD 0) &&
          decide ((s.vm v).t0.getD 0 ≤ t.getD 0), .badState)] }
    fun s =>
      let goal := s.speedOf (640 + v) (p.i 16 4)
      let te := t.getD 0 + rampTime (s.limits (640 + v) false) (s.vm v).tail.1 goal
      (s.updVm v (fun x => { x with ramps := x.ramps ++ [(t.getD 0, goal, te)] }), []))

/-! Followers and cams. -/

/-- A follower record is within Table 8.7; register correction is for servo axes (R233). -/
def followerOk (a : Nat) (b : List Byte) : Bool :=
  decide (fld b 0 1 < 8) && decide (fld b 1 1 < 2) && !(fld b 1 1 == 1 && decide (128 ≤ a)) && decide (fld b 2 1 < 32) && fld b 8 4 != 0 && zeroBytes b 14 2 &&
    (fld b 16 8 == 0 || decide (fld b 24 8 < fld b 16 8)) && zeroBytes b 44 4 && zeroBytes b 56 8

/-- FOLLOW_CONFIG_SET. -/
def execFollowConfigSet (p : Pkt) (s : State) : Host.Outcome State Fault Refusal :=
  let a := p.u 0 2
  let b := keepZero (s.recLatest .follower a) (slice p.params 4 64) 3 1
  .next (hostCmd 0x0330 p s
    { plen := p.len == 68, need := .owns (decide (a < 640)) [a], fwd := true,
      checks := [(decide (p.u 2 1 < 2) && p.u 3 1 == 0 && followerOk a b, .badParam)] }
    fun s => ((s.recNext .follower a b).recFlash .follower a b (bit (p.u 2 1) 0), []))

/-- FOLLOW_CONFIG_GET. -/
def execFollowConfigGet (p : Pkt) (s : State) : Host.Outcome State Fault Refusal :=
  let a := p.u 0 2
  .next (hostCmd 0x0331 p s { plen := p.len == 2, checks := [(decide (a < 640), .badParam)] } fun s => (s, s.cfg .follower a))

/-- FOLLOW_FACTOR (R228). -/
def execFollowFactor (p : Pkt) (s : State) : Host.Outcome State Fault Refusal :=
  let a := p.u 0 2
  let k := p.i 4 4
  let dir := k * s.ri .follower a 4 4 * (s.vm (s.flu a 0 1)).entry.v
  .next (hostCmd 0x0332 p s
    { plen := p.len == 16, need := .owns (decide (a < 640)) [a], fwd := true,
      checks := [(zeroBytes p.params 2 2, .badParam), (s.fc a == 0 && s.freeToward a dir, .badState)] }
    fun s => (s.queueMotion a (.factor k (p.u 8 8)), []))

/-- A follower uses a cam table, or is about to. -/
def State.camUsed (s : State) (t : Nat) : Bool :=
  s.motions.any (fun e => (e.2.mode == 4 && e.2.follow.table == some t) || e.2.follow.camNext == some t || e.2.cmds.any (fun c => c.2 == .cam t))

/-- Where a table lies in shared SRAM (R230), from 0x0040_0000. -/
def camBase (t : Nat) : Nat := 0x2F0000 + 0x4000 * t

/-- CAM_DEFINE: points read zero until written. -/
def execCamDefine (p : Pkt) (s : State) : Host.Outcome State Fault Refusal :=
  let t := p.u 0 1
  .next (hostCmd 0x0340 p s
    { plen := p.len == 16, need := .owns (decide (t < 64)) [0x340 + t], fwd := true,
      checks := [(decide (p.u 1 1 < 2) && decide (1 ≤ p.u 2 2) && decide (p.u 2 2 ≤ 4096) && zeroBytes p.params 4 4, .badParam), (!s.camUsed t, .badState)] }
    fun s =>
      let clear (m : SharedSram) : SharedSram := { m with base := Tbl.keep (fun k => !(decide (camBase t ≤ k) && decide (k < camBase t + 0x4000))) m.base }
      ({ s with
          cams := Tbl.set {} s.cams t { size := p.u 2 2, oneShot := bit (p.u 1 1) 0, rise := p.i 8 8 }
          sram := [0, 1, 2, 3].foldl (fun m g => Tbl.modify {} m g clear) s.sram }, []))

/-- CAM_POINTS: every table is written to all four dies. -/
def execCamPoints (p : Pkt) (s : State) : Host.Outcome State Fault Refusal :=
  let t := p.u 0 1
  let first := p.u 2 2
  let n := p.u 4 2
  .next (hostCmd 0x0341 p s
    { plen := decide (8 ≤ p.len) && p.len == 8 + 4 * n, need := .owns (decide (t < 64)) [0x340 + t], fwd := true,
      checks := [(p.u 1 1 == 0 && decide (n ≤ 1000) && zeroBytes p.params 6 2 && decide (first + n ≤ (s.cam t).size), .badParam), (!s.camUsed t, .badState)] }
    fun s =>
      let put (m : SharedSram) : SharedSram := { m with base := m.base.writeN (camBase t + 4 * first) (slice p.params 8 (4 * n)) }
      ({ s with
          cams := Tbl.modify {} s.cams t (fun c => { c with points := (List.range n).foldl (fun u i => Tbl.set 0 u (first + i) (p.i (8 + 4 * i) 4)) c.points })
          sram := [0, 1, 2, 3].foldl (fun m g => Tbl.modify {} m g put) s.sram }, []))

/-- CAM_START (R231, R232). -/
def execCamStart (p : Pkt) (s : State) : Host.Outcome State Fault Refusal :=
  let a := p.u 0 2
  .next (hostCmd 0x0342 p s
    { plen := p.len == 4, need := .owns (decide (a < 640)) [a], fwd := true,
      checks := [(decide (p.u 2 1 < 64) && p.u 3 1 == 0, .badParam), (s.fc a == 0 && s.masterPeriod a != 0, .badState)] }
    fun s => (s.queueMotion a (.cam (p.u 2 1)), []))

/-! Homing and groups. -/

/-- HOME_START (R236): method 0 at standstill only; the limit that serves as the switch of method 4 keeps no search from
beginning. -/
def execHomeStart (p : Pkt) (s : State) : Host.Outcome State Fault Refusal :=
  let a := p.u 0 2
  let method := s.mou a 3 1
  let still := (s.motion a).v == 0 && (s.motion a).a == 0
  let moves := method != 0 || bit (s.mou a 0 1) 1
  let own := method == 4 && ((s.motion a).input (s.homeInput a method)).active
  .next (hostCmd 0x0350 p s
    { plen := p.len == 2, need := .owns (decide (a < 640)) [a], fwd := true,
      checks := [(!(method == 5 && decide (128 ≤ a)), .badParam),
        (!(moves && s.fc a != 0) && (method != 0 || still) && (method == 0 || own || s.freeToward a (s.hdir a)), .badState)] }
    fun s => (s.queueMotion a .home, []))

/-- The die of an axis's task, where it is bound. -/
def State.axisDie (s : State) (a : Nat) : Option Nat :=
  let b := if a < 128 then s.cfg .servoBind a else s.cfg .stepBind (a - 128)
  if a < 128 then (if s.rb .SV_STAT_BOUND a then some (fld b 2 1) else none)
  else if fld b 0 1 = 0 then none else some (fld b 1 1)

/-- A list names no axis twice. -/
def distinct : List Nat → Bool
  | [] => true
  | x :: l => !l.contains x && distinct l

/-- GROUP_DEFINE (R239). -/
def execGroupDefine (p : Pkt) (s : State) : Host.Outcome State Fault Refusal :=
  let g := p.u 0 1
  let n := p.u 1 1
  let axes := (List.range n).map (fun i => p.u (8 + 2 * i) 2)
  .next (hostCmd 0x0360 p s
    { plen := decide (8 ≤ p.len) && p.len == 8 + 2 * n, need := .lease, fwd := true,
      checks :=
        [(decide (g < 32) && decide (n ≤ 16) && decide (p.u 2 1 < 4) && p.u 3 1 == 0 && decide (p.u 4 2 < 4096) && zeroBytes p.params 6 2 &&
            axes.all (fun a => decide (a < 640) && (s.groupOf a == none || s.groupOf a == some g) && (s.axisDie a == none || s.axisDie a == some (p.u 2 1))) &&
            distinct axes, .badParam),
         (!s.rb .GRP_STAT_MOVING g, .badState)] }
    fun s =>
      let s := s.updGroup g (fun _ => if n = 0 then {} else { members := axes, die := p.u 2 1, desc := p.u 4 2 })
      (((s.w .GRP_STAT_MEMBERS g (2 ^ n - 1)).w .GRP_STAT_LEAD g 0).w .GRP_S_S g 0, []))

/-- The leading member: the largest |delta| over VMAX, the lowest index on a tie (R240). -/
def leadOf (l : List (Int × Nat)) : Nat :=
  ((List.range l.length).foldl (fun (best : Nat) i =>
    let x := l.getD i (0, 1)
    let y := l.getD best (0, 1)
    if y.1.natAbs * max 1 x.2 < x.1.natAbs * max 1 y.2 then i else best) 0)

/-- The limits of a group move (R240): those given for the leading axis, each capped so that no member exceeds its own. -/
def State.groupLimits (s : State) (g lead v a j : Nat) : State :=
  let x := (s.group g).members.getD lead 0
  let d := (s.motion x).groupDelta
  let l := s.lsbPerU x
  let lim (f : Limits → Nat) (start : Nat) : Nat := s.tightest g (fun m => f (s.limits m false)) start
  let js := (s.group g).members.filter (fun m => (s.limits m false).j != 0 && (s.motion m).groupDelta != 0)
  let jm := js.foldl (fun (r : Nat) m => let q := pathLimit (s.limits m false).j (s.motion m).groupDelta; if r = 0 then q else min r q)
    (if j = 0 then 0 else pathLimit (j * l / 16) d)
  s.updGroup g (fun k => { k with
    vLead := lim Limits.v (pathLimit (v * l / 65536) d), aLead := lim Limits.a (pathLimit (a * l / 4096) d)
    dLead := lim Limits.d (pathLimit (a * l / 4096) d), jLead := jm, path := 0, prevPath := 0, pathV := 0, pathA := 0, prevV := 0, prevA := 0, cycle := some s.cycle
    stopping := false, quick := false })

/-- Every member stands in HOLD or has ended the group's previous move, and is in no fault class. -/
def State.groupReady (s : State) (g : Nat) : Bool :=
  (s.group g).members != [] && !s.rb .GRP_STAT_MOVING g &&
    (s.group g).members.all (fun a => s.fc a == 0 && (s.motion a).goal == .hold && ((s.motion a).mode == 0 || (s.motion a).mode == 6))

/-- GROUP_MOVE (R240). -/
def execGroupMove (p : Pkt) (s : State) : Host.Outcome State Fault Refusal :=
  let g := p.u 0 1
  let ms := (s.group g).members
  let delta (i : Nat) : Int := p.i (16 + 8 * i) 8 - (s.motion (ms.getD i 0)).p
  let deltas := (List.range ms.length).map (fun i => (delta i, s.mou (ms.getD i 0) 4 4 * s.lsbPerU (ms.getD i 0) / 65536))
  .next (hostCmd 0x0361 p s
    { plen := decide (16 ≤ p.len) && p.len == 16 + 8 * ms.length, need := .owns (decide (g < 32)) ((0x300 + g) :: ms), fwd := true,
      checks :=
        [(zeroBytes p.params 1 3 && (List.range ms.length).all (fun i => s.inSoft (ms.getD i 0) (p.i (16 + 8 * i) 8)), .badParam),
         (s.groupReady g && (List.range ms.length).all (fun i => s.freeToward (ms.getD i 0) (delta i)), .badState)] }
    fun s =>
      let s := (List.range ms.length).foldl (fun u i =>
        (u.updMotion (ms.getD i 0) (fun m => { m with groupStart := m.p, groupDelta := delta i })).queueMotion (ms.getD i 0) (.group g)) s
      let lead := leadOf deltas
      (((s.groupLimits g lead (p.u 4 4) (p.u 8 4) (p.u 12 4)).w .GRP_STAT_LEAD g lead).wb .GRP_STAT_MOVING g true |>.w .GRP_S_S g 0, []))

/-- GROUP_STOP (R241). -/
def execGroupStop (p : Pkt) (s : State) : Host.Outcome State Fault Refusal :=
  let g := p.u 0 1
  .next (hostCmd 0x0362 p s { plen := p.len == 1, need := .owns (decide (g < 32)) [0x300 + g], fwd := true }
    fun s => (if s.rb .GRP_STAT_MOVING g then s.updGroup g (fun x => { x with stopping := true }) else s, []))

/-! Steppers. -/

/-- The descriptor's blocks hold a block of a stepper segment. -/
def holdsBlock (b : List Byte) (addr blk : Nat) : Bool :=
  descAddr b == addr && descType b == 2 && decide (descBlk b ≤ blk) && decide (blk < descBlk b + descNblk b)

/-- A local axis lies in every closed mode's stepper segment of its node, in a block of its descriptor (R242). -/
def State.stepPlace (s : State) (addr loc : Nat) (b : List Byte) : Bool :=
  (List.range 8).all (fun k => (s.sched k).phase != 2 ||
    match (s.sched k).seg addr 2 with
    | some g => decide (loc < g.pa * g.pc) && holdsBlock b addr (loc % max 1 g.pa)
    | none => true)

/-- STEP_BIND (R242; log 14). -/
def execStepBind (p : Pkt) (s : State) : Host.Outcome State Fault Refusal :=
  let a := p.u 0 2
  let addr := p.u 2 1
  let g := p.u 3 1
  let loc := p.u 4 2
  let i := p.u 6 2
  let j := a - 128
  let old := s.cfg .stepBind j
  let b := le 1 addr ++ le 1 g ++ le 2 loc ++ le 2 i ++ [0, 0]
  let bound := fld old 0 1 != 0
  let cap := fld (s.hnode addr).claim 24 1 * fld (s.hnode addr).claim 25 1
  .next (hostCmd 0x0370 p s
    { plen := p.len == 8, need := .lease, fwd := true,
      checks :=
        [(decide (128 ≤ a) && decide (a < 640) && decide (addr ≤ 254) && decide (g < 4) && decide (loc < 512) && decide (i < 4096), .badParam),
         (addr == 0 || (s.claimed addr && decide (loc < cap) && descAddr (s.descLatest g i) == addr && descType (s.descLatest g i) == 2 &&
            s.stepPlace addr loc (s.descLatest g i)), .badParam),
         (addr == 0 || s.stepAxis addr loc == none || s.stepAxis addr loc == some a, .badParam),
         ((bound && old == b) || (addr != 0 && !bound) || decide (3 ≤ s.fc a), .badState),
         (!(bound && s.descInUse (fld old 1 1) (fld old 4 2)) && (addr == 0 || !s.descInUse g i), .badState)] }
    fun s => (s.recSet .stepBind j (if addr = 0 then [] else b), []))

/-- A stepper record is within Table 8.8. -/
def stepperOk (b : List Byte) : Bool :=
  let u (o n : Nat) : Nat := fld b o n
  decide (u 0 1 ≤ 1) && decide (1 ≤ u 1 1) && decide (1 ≤ u 2 1) && (u 3 1 == 0 || (decide (4 ≤ u 3 1) && decide (u 3 1 ≤ 16))) &&
    decide (u 8 2 * 255 ≤ u 2 1 * 256) && decide (u 10 2 ≤ u 8 2) && decide (u 12 2 ≤ u 8 2) && decide (u 28 1 < u 29 1) && decide (u 29 1 < u 30 1) &&
    decide (u 30 1 ≤ 64) && decide (1 ≤ u 31 1) && zeroBytes b 34 2 && zeroBytes b 44 20

/-- A change alters POLE_PAIRS, IR, RS, LS or KE. -/
def stepModel (old new : List Byte) : Bool := fld old 1 1 != fld new 1 1 || fld old 4 4 != fld new 4 4 || slice old 16 12 != slice new 16 12

/-- STEP_CONFIG_SET. -/
def execStepConfigSet (p : Pkt) (s : State) : Host.Outcome State Fault Refusal :=
  let a := p.u 0 2
  let j := a - 128
  let b := slice p.params 4 64
  .next (hostCmd 0x0371 p s
    { plen := p.len == 68, need := .owns (decide (128 ≤ a) && decide (a < 640)) [a], fwd := true,
      checks := [(decide (p.u 2 1 < 2) && p.u 3 1 == 0 && stepperOk b && s.stepFits a (s.recLatest .motion a) b, .badParam),
        (!stepModel (s.recLatest .stepper j) b || decide (3 ≤ s.fc a) || bit (s.stepper j).stat 3, .badState)] }
    fun s => ((s.recNext .stepper j b).recFlash .stepper j b (bit (p.u 2 1) 0), []))

/-- STEP_CONFIG_GET. -/
def execStepConfigGet (p : Pkt) (s : State) : Host.Outcome State Fault Refusal :=
  let a := p.u 0 2
  .next (hostCmd 0x0372 p s { plen := p.len == 2, checks := [(decide (128 ≤ a) && decide (a < 640), .badParam)] } fun s => (s, s.cfg .stepper (a - 128)))

end Sys2Proof.Machine
end

