-- ==== Sys2Proof/Machine/Commit.lean ====
section
/-! DEFINITION. Sys2Proof/Machine/Commit.lean: the commit of a task (R25, R27, R31, R103, R104, R109, R144, R145), and the run of the standard
program of an axis task (R26, R150, R182, R211, R242). -/

namespace Sys2Proof.Machine

/-! The standard program. -/

/-- The uplink of a block in a task's input area, where a copy was accepted: ULF and the block's bytes. -/
def State.blockInput (s : State) (t : Task) (addr ty blk len : Nat) : Option (Nat × List Byte) :=
  match inputEntry (s.sched t.mode) addr ty 512 t.input with
  | some (ulf, st, up) => if st % 2 = 1 then some (ulf, slice up (blk * len) len) else none
  | none => none

/-- One servo block: feedback, motion and control in that order; the command of the block. A block without an axis stays at
zero. -/
def State.servoBlock (s : State) (t : Task) (addr blk : Nat) : State × List Byte :=
  match s.servoAxis addr blk with
  | none => (s, List.replicate 12 0)
  | some a =>
    let u := s.blockInput t addr 1 blk 24
    let elapsed := (s.axis a).sinceCommit
    let before := (s.fb a).pos
    let s := s.feedback a t.cycle (u.map (·.2)) (match u with | some x => bit x.1 1 | none => false)
    let s := s.servoMotion a t.cycle t.inst before
    let p := (s.motion a).p
    let (s, b) := s.controlStage a t.cycle elapsed (u.map (·.2))
    (s.posCommit a t.cycle t.inst p, b)

/-- The inputs of every stepper axis of a task, and the latest uplink values of those its input frame carries (R218, R242). -/
def State.stepInputs (s : State) (t : Task) (g : Seg) (blk : Nat) : State :=
  let s := match s.stepAxis g.addr (t.inst % max 1 g.pc * g.pa + blk), s.blockInput t g.addr 2 blk 8 with
    | some a, some u => s.stepUplink a u.2
    | _, _ => s
  (List.range g.pc).foldl (fun u r =>
    match u.stepAxis g.addr (r * g.pa + blk) with
    | some a => u.inputsStage a t.cycle t.inst g.pc
    | none => u) s

/-- One stepper block: the update of the axis that the next frame carries in it. -/
def State.stepBlock (s : State) (t : Task) (g : Seg) (blk : Nat) : State × List Byte :=
  let s := s.stepInputs t g blk
  match s.stepAxis g.addr (cycAdd t.cycle 1 % max 1 g.pc * g.pa + blk) with
  | none => (s, List.replicate 8 0)
  | some a =>
    let p := (s.motion a).p
    let (s, b) := s.stepUpdate a t.cycle (max 1 g.pc)
    (s.posCommit a t.cycle t.inst p, b)

/-- The tasks without a slot: virtual masters and groups on this descriptor. -/
def State.shaftTask (s : State) (die : Nat) (t : Task) : State :=
  let vms := (List.range 8).filter (fun v => Tbl.get [] s.recs (RecKind.vm.key v) != [] && s.ru .vm v 1 1 == die && s.ru .vm v 2 2 == t.desc)
  let s := vms.foldl (fun u v => u.vmStage v t.cycle t.inst) s
  let gs := (List.range 32).filter (fun g => (s.group g).members != [] && (s.group g).die == die && (s.group g).desc == t.desc)
  gs.foldl (fun u g => u.groupStage g t.cycle) s

/-- The length of a command of one block. -/
def cmdLen (s : State) (m : Nat) (addr ty : Nat) : Nat :=
  match ty with
  | 1 => 12
  | 2 => 8
  | _ => match (s.sched m).seg addr 3 with | some g => 4 * g.pa | none => 0

/-- The standard program's run: the state after it and the commands it stages, in block order. -/
def State.standardRun (s : State) (n : Nat) (t : Task) : State × List (List Byte) :=
  let b := t.bytes
  if !descSlot b then (s.shaftTask (n / 16) t, [])
  else
    (List.range (descNblk b)).foldl (fun (r : State × List (List Byte)) i =>
      let blk := descBlk b + i
      let (u, c) :=
        if descType b = 1 then r.1.servoBlock t (descAddr b) blk
        else if descType b = 2 then
          match (r.1.sched (r.1.frameMode t.cycle)).seg (descAddr b) 2 with
          | some g => r.1.stepBlock t g blk
          | none => (r.1, List.replicate 8 0)
        else (r.1, List.replicate (cmdLen r.1 (r.1.frameMode t.cycle) (descAddr b) 3) 0)
      (u, r.2 ++ [c])) (s, [])

/-! The commit. -/

/-- The commands that a program staged, in block order (Table 5.3). -/
def State.stagedRun (s : State) (n : Nat) (t : Task) : List (List Byte) :=
  let b := t.bytes
  let len := cmdLen s (s.frameMode t.cycle) (descAddr b) (descType b)
  (List.range (if descSlot b then descNblk b else 0)).map (fun i => (s.core n).staging.readN (i * len) len)

/-- The commands enter the command buffer of the frame; a slot that the frame's mode lacks discards them (R144). -/
def State.putCommands (s : State) (g : Nat) (t : Task) (cmds : List (List Byte)) : State :=
  let b := t.bytes
  if !descSlot b then s
  else if (s.slotSeg b t.cycle).isNone then s.trace g .noSlot t.cycle t.desc 0 0
  else
    { s with cmds := (List.range cmds.length).foldl (fun u i =>
        Tbl.set {} u (blockKey (descAddr b) (descType b) (descBlk b + i)) { frame := cycAdd t.cycle 1, valid := true, bytes := cmds.getD i [] }) s.cmds }

/-- The bytes of the queued stores of a core. -/
def Core.queued (x : Core) : List (Nat × Byte) :=
  x.queue.flatMap (fun q => (List.range q.2.1).zip (le q.2.1 q.2.2) |>.map (fun e => (q.1 + e.1, e.2)))

/-- The written lines of the state view and the queued stores take effect (R103, R104). -/
def State.putView (s : State) (n : Nat) (t : Task) : State :=
  let x := s.core n
  let s := s.updCore n (fun y => { y with view := x.lines.foldl (fun v l => v.writeN (32 * l) (x.work.readN (32 * l) 32)) y.view })
  s.updSram (n / 16) (fun m => m.commit t.cycle x.queued)

/-- The axes of a task have committed (R31). -/
def State.committedAxes (s : State) (axes : List Nat) : State :=
  axes.foldl (fun u a => (u.w .AX_LATE_CONSEC a 0).updAxis a (fun x => { x with sinceCommit := 1 })) s

/-- What R109 adds for a task that ended with TS.OVG set. -/
def State.overflowed (s : State) (n : Nat) (hold : Bool) (axes : List Nat) : State :=
  let s := s.inc .LC_COUNT_OVG n
  axes.foldl (fun u a => if hold then u.warn a .accOverflow else u.setFault a 2 .accOverflow) s

/-! Twin operation (R366). -/

/-- Every axis that a task of the standard program steps: the axis of a servo block, or those of every round of a stepper block. -/
def State.steppedAxes (s : State) (t : Task) : List Nat :=
  let b := t.bytes
  if !descSlot b then []
  else (List.range (descNblk b)).flatMap (fun i =>
    let blk := descBlk b + i
    if descType b = 1 then (s.servoAxis (descAddr b) blk).toList
    else if descType b = 2 then
      match (s.sched (s.frameMode t.cycle)).seg (descAddr b) 2 with
      | some g => (List.range g.pc).filterMap (fun r => s.stepAxis g.addr (r * g.pa + blk))
      | none => []
    else [])

/-- The recursive state of an axis, as a RECORD carries it. -/
def State.axisRec (s : State) (a : Nat) : AxisRec :=
  { axis := a, fb := s.fb a, servo := s.servo a, motion := s.motion a, stepper := Tbl.get {} s.steppers (a - 128), pos := Tbl.get {} s.posTab a }

/-- Put the recursive state of an axis, and its entry of the position table, in force. -/
def State.putAxisRec (s : State) (n : Nat) (r : AxisRec) : State :=
  let a := r.axis
  let s := { s with
    fbs := Tbl.set {} s.fbs a r.fb
    servos := Tbl.set {} s.servos a r.servo
    motions := Tbl.set {} s.motions a r.motion
    steppers := if 128 ≤ a then Tbl.set {} s.steppers (a - 128) r.stepper else s.steppers
    posPrev := Tbl.set {} s.posPrev a (Tbl.get {} s.posTab a)
    posTab := Tbl.set {} s.posTab a r.pos }
  (s.hubWrite n (0x3F0200 + 32 * a) (posEntryBytes r.pos)).emuTarget a

/-- Put the recursive state of a virtual master, with its entry of the master table, or of a group in force. -/
def State.putShaftRec (s : State) (n : Nat) : ShaftRec → State
  | .vm v x m e =>
    let s := { s with
      vms := Tbl.set {} s.vms v x, motions := Tbl.set {} s.motions (640 + v) m
      posPrev := Tbl.set {} s.posPrev (640 + v) (Tbl.get {} s.posTab (640 + v)), posTab := Tbl.set {} s.posTab (640 + v) e }
    ((s.hubWrite n (0x3F0000 + 64 * v) (vmEntryBytes x.entry.p x.entry.v x.entry.a (s.ru .vm v 8 8))).hubWrite n (0x3F0200 + 32 * (640 + v))
      (posEntryBytes e)).emuTarget (640 + v)
  | .group g x => { s with groups := Tbl.set {} s.groups g x }

/-- Write committed state-view lines of a core and committed shared stores of its die. -/
def State.putLines (s : State) (n cycle : Nat) (lines : List (Nat × List Byte)) (stores : List (Nat × Byte)) : State :=
  (s.updCore n (fun y => { y with view := lines.foldl (fun v l => v.writeN (32 * l.1) l.2) y.view })).updSram (n / 16) (fun m => m.commit cycle stores)

/-- The virtual masters and groups of a task without a slot. -/
def State.shaftRecs (s : State) (die : Nat) (t : Task) : List ShaftRec :=
  if descSlot t.bytes then []
  else
    ((List.range 8).filter (fun v => Tbl.get [] s.recs (RecKind.vm.key v) != [] && s.ru .vm v 1 1 == die && s.ru .vm v 2 2 == t.desc)).map
      (fun v => .vm v (s.vm v) (s.motion (640 + v)) (Tbl.get {} s.posTab (640 + v))) ++
    ((List.range 32).filter (fun g => (s.group g).members != [] && (s.group g).die == die && (s.group g).desc == t.desc)).map (fun g => .group g (s.group g))

/-- The state after a standby's task: what it committed stays pending, and its recursive state is what it was (R366); where
the RECORD has come before, nothing stays pending. -/
def State.pendCommit (s before : State) (n : Nat) (t : Task) (std hold : Bool) : State :=
  let x := s.core n
  let e : TwinPend :=
    { cycle := t.cycle, die := n / 16, desc := t.desc, core := n
      lines := if hold then [] else x.lines.map (fun l => (l, x.work.readN (32 * l) 32))
      stores := if hold then [] else x.queued
      axes := if std then (s.steppedAxes t).map s.axisRec else []
      shafts := if std then s.shaftRecs (n / 16) t else [] }
  let s := { s with
    fbs := before.fbs, servos := before.servos, motions := before.motions, steppers := before.steppers, posTab := before.posTab
    posPrev := before.posPrev, vms := before.vms, groups := before.groups, sram := before.sram, emus := before.emus }
  if s.twin.recs.contains (t.cycle, n / 16, t.desc) then s else s.updTwin (fun w => { w with pend := w.pend ++ [e] })

/-- Commit what is pending of a task, as the standby does in SOLO (R368). -/
def State.commitPend (s : State) (e : TwinPend) : State :=
  let s := s.putLines e.core e.cycle e.lines e.stores
  let s := e.axes.foldl (fun u r => u.putAxisRec e.cycle r) s
  e.shafts.foldl (fun u r => u.putShaftRec e.cycle r) s

/-- The size of a RECORD (the example under R367): a header of 8 bytes, 36 for each line and position entry, 68 for each master
entry. The standard program writes 12 lines for a servo axis and 2 for a stepper block. What queued shared stores take is
not stated and stays free. -/
def State.recordSize (s : State) (n : Nat) (t : Task) (std : Bool) : Nat × State :=
  let x := s.core n
  let axes := (s.taskAxes t.bytes t.cycle).length
  let vms := if std && !descSlot t.bytes then ((s.shaftRecs (n / 16) t).filter (fun r => match r with | .vm .. => true | .group .. => false)).length else 0
  let lines := if std then (if descType t.bytes = 1 then 12 else 2) * (if descSlot t.bytes then descNblk t.bytes else 0) else x.lines.length
  let (extra, s) := if x.queue = [] then (0, s) else s.fresh
  (8 + 36 * (lines + axes) + 68 * vms + extra, s)

/-- The commit step of a task (R145, R120). The manual does not say which status bits beside OVG a standard run leaves: they are free. In a standby that computes with its active, the command, the trace and the successors
follow at once, and the rest waits for the active's RECORD (R366). -/
def State.commitTask (s : State) (n : Nat) (t : Task) (std : Bool) : State :=
  let g := n / 16
  let before := s
  let ovg := !std && bit (s.core n).ts 0
  let hold := ovg && (s.core n).endOvgp == 0
  let axes := s.taskAxes t.bytes t.cycle
  let (s, cmds) := if std then s.standardRun n t else (s, s.stagedRun n t)
  let s := s.putCommands g t cmds
  let s := if s.isStandby && s.synced then s.pendCommit before n t std hold else if hold then s else s.putView n t
  let s := s.committedAxes axes
  let s := if ovg then s.overflowed n hold axes else s
  let s := if s.periodOf t.cycle * 8 < s.sinceTick t.cycle + Config.builderLead * 8 then s.inc .CYC_OVERBUDGET_COUNT else s
  let s := s.trace g .commit t.cycle t.desc 0 (s.clk - t.since)
  let s := if std then s.fresh.2.w .LC_STAT_LAST_TS n (s.fresh.1 % 8 * 2) else s.w .LC_STAT_LAST_TS n (s.core n).ts
  let s := if s.isActive then (let (k, u) := s.recordSize n t std; u.flueSend k) else s
  (s.leaveCore n).succs t.bytes t.cycle false

/-- TASK_COMMIT: a task that has ended commits before its cutoff. `std` tells that it is a run of the standard program, which
this model knows by its rules and not by its words; otherwise the instructions of the core have staged what it commits. A
task that has not ended, or whose cutoff has come, commits nothing here. -/
def execTaskCommit (core : Fin 64) (std : Bool) (s : State) : Host.Outcome State Fault Refusal :=
  let n := core.val
  match (s.core n).task with
  | none => .next s
  | some t =>
    if (std || (s.core n).ended) && decide ((s.sinceTick t.cycle : Int) < s.cutoffOf t.bytes t.cycle) then .next (s.commitTask n t std)
    else .next s

end Sys2Proof.Machine
end

