-- ==== Sys2Proof/Machine/Head.lean ====
section
/-! DEFINITION. Sys2Proof/Machine/Head.lean: the ring head's own operations: its states (R61, R280), claims and addresses (R69, R77),
mailboxes (R50, R473, R474), path delays and preloads (R71 to R78), and switches (R79 to R84). -/

namespace Sys2Proof.Machine

/-- The head states (Table 3.1). -/
inductive HeadState where
  | off | listen | kindle | rollCall | cyclic | follow | conflict
  deriving DecidableEq, Repr

def State.headIs (s : State) (h : HeadState) : Bool := s.r .RK_STAT_STATE == h.ctorIdx

/-- The head sends kindling frames. -/
def State.kindles (s : State) : Bool := s.headIs .kindle || s.headIs .rollCall

/-- Nodes present, and nodes told to wait (Table 3.9). -/
def State.countNodes (s : State) : State :=
  (s.w .RK_STAT_NODES 0 ((List.range 255).filter (fun a => s.r .NODE_STATE_PRESENCE a == 1)).length).w .RK_STAT_PENDING 0 (min 255 s.head.waiting.length)

/-- Enter a head state; TB1 is in mode RING in KINDLE, ROLL_CALL, CYCLIC and FOLLOW, and in mode FREE otherwise (R280). A pending
event of KINDLE ends with it (R61, R65). -/
def State.enterHead (s : State) (h : HeadState) : State :=
  let ring := h = .kindle || h = .rollCall || h = .cyclic || h = .follow
  let s := (s.w .RK_STAT_STATE 0 h.ctorIdx).w .TB_STAT_MODE 1 (if ring then 2 else 0)
  s.updHead (fun x => { x with since := s.now0, mismatch := false, noPartner := false })

/-! Identities and the address map (R69). -/

/-- The node record of Table 14.15: VENDOR, CLASS and SERIAL of a claim. -/
def claimBody (c : List Byte) : List Byte := slice c 1 2 ++ slice c 0 1 ++ [0] ++ slice c 3 8

def claimVendor (c : List Byte) : Nat := fld c 1 2
def claimSerial (c : List Byte) : Nat := fld c 3 8

/-- DELTA of a claim; none where it is not measured. -/
def claimDelta (c : List Byte) : Option Int := if fld c 19 4 = 0x80000000 then none else some (fldI c 19 4)

def State.mapEntry (s : State) (a : Nat) : Option MapEntry := Tbl.get none s.addrMap a

/-- The address that the map gives an identity. -/
def State.mapped? (s : State) (v n : Nat) : Option Nat :=
  (List.range 255).find? (fun a => match s.mapEntry a with | some e => !e.old && e.vendor == v && e.serial == n | none => false)

/-- Write a map entry, and the identity fields that mirror it (Table 3.9). -/
def State.setMap (s : State) (a : Nat) (e : Option MapEntry) : State :=
  let s := { s with addrMap := Tbl.set none s.addrMap a e }
  let v := match e with | some x => x.vendor | none => 0
  let n := match e with | some x => x.serial | none => 0
  ((s.w .NODE_STATE_VENDOR a v).w .NODE_SERIAL_LO_SERIAL a n).w .NODE_SERIAL_HI_SERIAL a (n / 2 ^ 32)

/-- The key of an identity. -/
def identKey (v n : Nat) : Nat := v * 2 ^ 64 + n

/-! Mailbox messages (R76). -/

/-- A message: SVC, MFL, MSGLEN and the body. -/
def Mail.bytes (m : Mail) : List Byte := le 1 m.svc ++ [0] ++ le 2 m.body.length ++ m.body

/-- Queue a message to a node. -/
def State.mail (s : State) (a svc : Nat) (body : List Byte) : State :=
  s.updHnode a (fun h => { h with box := { h.box with outq := h.box.outq ++ [{ svc := svc, body := body }] } })

/-- The partner has something to be sent, to be asked for or to be acknowledged. -/
def Mailbox.wants (b : Mailbox) : Bool := b.outq != [] || b.ackDue || b.expect != 0 || b.aborting || b.partialMsg != []

/-- A segment of `d` data bytes is large enough for the fragment in flight (R474). -/
def Mailbox.fits (b : Mailbox) (d : Nat) : Bool := match b.flight with | some k => decide (k ≤ d) | none => true

/-- No mailbox segment is large enough for the fragment in flight: the message is given up and will begin again (R474). -/
def Mailbox.giveUp (ds : List Nat) (b : Mailbox) : Mailbox :=
  if !b.aborting && b.flight.isSome && !ds.any b.fits then { b with aborting := true, flight := some 0, sent := 0, seq := (b.seq + 1) % 256 } else b

/-- What a mailbox segment of `d` data bytes will carry: the fragment in flight again, or the next one (R50, R473). -/
def Mailbox.load (d : Nat) (b : Mailbox) : Mailbox :=
  { b with
    flight := if b.aborting then some 0 else match b.outq with
      | [] => none
      | m :: _ => some (b.flight.getD (min d (m.bytes.length - b.sent)))
    ackNow := b.ackDue, ackDue := false }

/-- The downlink area of a mailbox segment of `d` data bytes (Table 2.12). -/
def Mailbox.downlink (d : Nat) (b : Mailbox) : List Byte :=
  let msg := match b.outq with | [] => [] | m :: _ => m.bytes
  let n := b.flight.getD 0
  let live := b.flight.isSome && !b.aborting
  le 1 b.seq ++ le 1 (b2n (live && b.sent == 0) + 2 * b2n (live && b.sent + n == msg.length) + 4 * b2n b.ackNow + 8 * b2n b.aborting) ++
    le 2 n ++ slice ((msg.drop b.sent).take n) 0 d

/-- The partner has acknowledged the fragment in flight (R473): the sender moves on; a whole message leaves the queue. -/
def Mailbox.acked (b : Mailbox) : Mailbox :=
  match b.flight with
  | none => b
  | some n =>
    let b := { b with flight := none, seq := (b.seq + 1) % 256 }
    if b.aborting then { b with aborting := false, sent := 0 }
    else match b.outq with
      | [] => b
      | m :: rest =>
        if m.bytes.length ≤ b.sent + n then
          { b with outq := rest, sent := 0, expect := b.expect + 1, awaiting := if m.waiter.isSome then b.awaiting ++ [m] else b.awaiting }
        else { b with sent := b.sent + n }

/-- An accepted uplink of a mailbox segment: its ACK, and its fragment, taken once for each MSEQ (R50, R473). -/
def Mailbox.uplink (up : List Byte) (b : Mailbox) : Mailbox :=
  let ctl := fld up 1 1
  let len := fld up 2 2
  let b := if bit ctl 2 then b.acked else b
  if bit ctl 0 || bit ctl 1 || bit ctl 3 || len != 0 then
    let seq := fld up 0 1
    if b.lastSeq = some seq then { b with ackDue := true }
    else
      let b := { b with lastSeq := some seq, ackDue := true }
      if bit ctl 3 then { b with partialMsg := [] }
      else
        let m := (if bit ctl 0 then [] else b.partialMsg) ++ slice up 4 len
        if bit ctl 1 then { b with partialMsg := [], inbox := b.inbox ++ [m], expect := b.expect - 1 } else { b with partialMsg := m }
  else b

/-! Path delays (R71, R73). -/

/-- Derive and hold a node's path delays from its measured Δ; the halves round freely (log 12). -/
def State.setDelays (s : State) (a : Nat) (delta : Int) : State :=
  let h := s.hnode a
  let l : Int := (s.r .RK_LOOP_L : Int) - claimFwd h.claim * 4096
  let (x, s) := s.freeDiv (l - delta) 2
  let (y, s) := s.freeDiv (l + delta) 2
  let s := s.updHnode a (fun h => { h with delta := some delta, pdX := x, pdY := y })
  { s with oldDelay := Tbl.set (0, 0) s.oldDelay (identKey (claimVendor h.claim) (claimSerial h.claim)) (x, y) }

/-- The body of PRELOAD (Table 3.5). -/
def State.preloadBody (s : State) (k a : Nat) : List Byte :=
  let m := s.sched k
  let own := m.segs.filter (fun g => g.ty != 5 && g.addr == a)
  let boxes := m.segs.filter (fun g => g.ty == 5)
  le 1 k ++ le 1 own.length ++ le 1 boxes.length ++ le 1 (b2n (m.keepers.contains a)) ++ le 4 m.period ++ le 2 m.tinLead ++ le 2 m.toutOfs ++
    le 2 m.pw ++ [0, 0] ++ leInt 4 (s.hnode a).pdX ++ leInt 4 (s.hnode a).pdY ++
    own.flatMap (fun g => le 2 g.off ++ le 2 g.len ++ le 1 g.ty ++ (if g.ty = 4 then [0, 0, 0] else le 1 g.pa ++ le 1 g.pb ++ le 1 g.pc)) ++
    boxes.flatMap (fun g => le 2 g.off ++ le 1 g.pa ++ [0])

/-- SW_STAT.PRELOADED (R77): a closed mode of which every present node has answered RESULT 0 and breaks no declaration. -/
def State.showPreloaded (s : State) : State :=
  s.w .SW_STAT_PRELOADED 0 (((List.range 8).filter (fun k =>
    let m := s.sched k
    m.phase == 2 && m.nodes.all (fun a => s.r .NODE_STATE_PRESENCE a != 1 || (m.loaded.contains a && !m.barred.contains a)))).foldl (fun v k => v + 2 ^ k) 0)

/-- Preload a mode into a node, unless it breaks what the node declared (R77). -/
def State.preloadInto (s : State) (k a : Nat) : State :=
  if (s.sched k).phase == 2 && (s.sched k).nodes.contains a && !(s.sched k).barred.contains a then s.mail a 0x10 (s.preloadBody k a) else s

/-- Preload the active mode and every other closed mode in which the node has a segment (R75). -/
def State.preloadNode (s : State) (a : Nat) : State :=
  let order := if s.cyclic then s.mode :: (List.range 8).filter (· != s.mode) else List.range 8
  order.foldl (fun u k => u.preloadInto k a) (s.updHnode a (fun h => { h with started := true }))

/-- A node's Δ has been measured (R73): it is preloaded, or corrected where a delay has moved by more than an eighth of the
precision window, which is 1,000 ns on kindling frames (R63). -/
def State.heardDelta (s : State) (a : Nat) (delta : Int) : State :=
  let h := s.hnode a
  let s := s.setDelays a delta
  let g := s.hnode a
  let eighth : Int := ((if s.cyclic then (s.sched s.mode).pw else 1000) * 65536 : Nat)
  if !h.started then (if h.confirmed then s.preloadNode a else s)
  else if eighth < 8 * (g.pdX - h.pdX).natAbs ∨ eighth < 8 * (g.pdY - h.pdY).natAbs then
    s.mail a 0x14 (leInt 4 g.pdX ++ leInt 4 g.pdY)
  else s

/-! Claims (R67 to R70). -/

/-- The modes that a node's declaration breaks are not preloaded into it, and NODE_CAPACITY names it (R77). -/
def State.checkDeclaration (s : State) (a : Nat) : State :=
  (List.range 8).foldl (fun u k =>
    let m := u.sched k
    if m.phase == 2 && m.nodes.contains a then
      if u.declarationHolds m a then u.updSched k (fun x => { x with barred := x.barred.filter (· != a) })
      else (u.updSched k (fun x => { x with barred := if x.barred.contains a then x.barred else x.barred ++ [a] })).raise .nodeCapacity 0xFF 2 a
        (claimBody (u.hnode a).claim)
    else u) s

/-- The number of nodes or the propagation has changed by what R472 names: every closed mode is planned again. -/
def State.replanIf (s : State) : State :=
  let prop := s.propagation
  let n := s.head.known.length
  if !(s.headIs .rollCall || s.headIs .cyclic) || !s.head.measured then s
  else if n != s.head.plannedNodes || decide (s.head.plannedProp + 1000 ≤ prop) || decide (prop + 1000 ≤ s.head.plannedProp) then
    (s.updHead (fun h => { h with plannedProp := prop, plannedNodes := n })).replan
  else s

/-- A claim in a returned roll-call window is recorded for its assignment; an identity that claims with two measured DELTA
values within 16 frames gets no address (R69). -/
def State.claimRx (s : State) (cycle : Nat) (data : List Byte) : State :=
  if fld data 0 1 ≠ 0x81 then s
  else
    let c := slice data 1 31
    let v := claimVendor c
    let n := claimSerial c
    let same (a b : Nat) : Bool := a == v && b == n
    let heard := s.head.heard.filter (fun h => decide (cycDiff cycle h.frame < 16))
    let dup : Bool := match claimDelta c with
      | some d => heard.any (fun h => same h.vendor h.serial && h.delta != d)
      | none => false
    let s := s.updHead (fun h => { h with
      claimSeen := true
      known := if h.known.any (fun k => same k.vendor k.serial) then h.known.map (fun k => if same k.vendor k.serial then { k with claim := c } else k)
        else h.known ++ [{ vendor := v, serial := n, claim := c }]
      heard := match claimDelta c with | some d => heard ++ [{ vendor := v, serial := n, delta := d, frame := cycle }] | none => heard })
    let s := s.replanIf
    if dup then
      let s' := s.updHead (fun h => { h with claims := h.claims.filter (fun k => !same k.vendor k.serial), dups := if h.dups.contains (v, n) then h.dups else h.dups ++ [(v, n)] })
      if s.head.dups.contains (v, n) then s' else s'.raise .nodeDupId 0xFF 2 0 (claimBody c)
    else if s.head.dups.contains (v, n) then s
    else s.updHead (fun h => { h with
      claims := h.claims.filter (fun k => !same k.vendor k.serial) ++ [{ vendor := v, serial := n, lastAddr := fld c 30 1, claim := c }] })

/-- The address a claim gets, by the first rule of R69 that applies. -/
def State.chooseAddr (s : State) (c : ClaimRec) : Option Nat :=
  match s.mapped? c.vendor c.serial with
  | some a => some a
  | none =>
    let last := c.lastAddr
    if last ≠ 0 ∧ last < 255 ∧ s.mapEntry last = none ∧ !s.head.given.contains last then some last
    else if s.rb .RK_CFG_ACCEPT_NEW then
      (List.range 255).find? (fun a => a != 0 && s.mapEntry a == none && s.r .NODE_STATE_PRESENCE a != 1 && !s.head.given.contains a)
    else none

/-- No address is left to give (R69). -/
def State.ringFull (s : State) : Bool :=
  (List.range 255).all (fun a => a == 0 || s.mapEntry a != none || s.r .NODE_STATE_PRESENCE a == 1 || s.head.given.contains a)

/-- An identity claims: an address that RING_ADDR_SET has taken from it is free from here on (Table 3.10). -/
def State.freeFormer (s : State) (v n : Nat) : State :=
  (List.range 255).foldl (fun u a =>
    match u.mapEntry a with
    | some e => if e.old && e.vendor == v && e.serial == n then (u.setMap a none).w .NODE_STATE_PRESENCE a 0 else u
    | none => u) s

/-- Give a claim its address: the assignment travels in the frame, the identity enters the map, and IDENT_REQ asks for its
confirmation (R69, R70). -/
def State.giveAddr (s : State) (c : ClaimRec) (a : Nat) : State :=
  let s := s.freeFormer c.vendor c.serial
  let e : MapEntry := match s.mapEntry a with | some x => x | none => { vendor := c.vendor, serial := c.serial }
  let s := s.setMap a (some e)
  let was := s.r .NODE_STATE_PRESENCE a
  let box := (s.hnode a).box
  let fresh : Mailbox :=
    { outq := { svc := 0x02, body := [] } :: box.outq.filter (fun m => m.waiter.isSome), awaiting := box.awaiting }
  let s := s.updHnode a (fun _ => { claim := c.claim, asking := true, back := decide (was = 1) || decide (was = 2), delta := claimDelta c.claim, box := fresh })
  let s := (s.w .NODE_STATE_PRESENCE a (if was = 2 then 2 else 3)).w .NODE_STATE_CLASS a (fld c.claim 0 1)
  let s := { s with scheds := (List.range 8).foldl (fun t k => Tbl.modify {} t k (fun m => { m with loaded := m.loaded.filter (· != a) })) s.scheds }
  let s := s.updHead (fun h => { h with
    assign := some (c.vendor, c.serial, a), given := if h.given.contains a then h.given else h.given ++ [a]
    waiting := h.waiting.filter (· != (c.vendor, c.serial)) })
  (s.checkDeclaration a).countNodes.showPreloaded

/-- Tell a node to wait, and say so once for each identity in a kindling (R69). -/
def State.tellWait (s : State) (c : ClaimRec) : State :=
  let id := (c.vendor, c.serial)
  let s' := (s.updHead (fun h => { h with
    assign := some (c.vendor, c.serial, 0), waiting := if h.waiting.contains id then h.waiting else h.waiting ++ [id] })).countNodes
  if s.head.waiting.contains id then s'
  else s'.raise (if s.ringFull then .ringFull else .nodeNew) 0xFF 2 0 (claimBody c.claim)

/-- The one assignment that a frame with a roll-call window carries (R69). -/
def State.assignOne (s : State) : State :=
  match s.head.claims with
  | [] => s.updHead (fun h => { h with assign := none })
  | c :: rest =>
    let s := s.updHead (fun h => { h with claims := rest })
    match s.chooseAddr c with
    | some a => s.giveAddr c a
    | none => s.tellWait c

/-- The downlink DATA of a roll-call window (Table 3.2). -/
def State.rollWindow (s : State) : List Byte :=
  let (v, n, a) := s.head.assign.getD (0, 0, 0)
  le 1 1 ++ le 1 (b2n s.head.assign.isSome) ++ le 1 (s.r .RK_CFG_PRIO) ++ [0] ++ le 8 (s.fuse .serial) ++ le 2 v ++ le 1 a ++ [0] ++ le 8 n ++ List.replicate 8 0

/-- A node's address is confirmed (R70, R75, R86): it is present; its empty-slot settings are sent again, its Δ is asked for, and it
is preloaded at once where its claim carried a measured Δ. -/
def State.confirm (s : State) (a : Nat) : State :=
  let h := s.hnode a
  let s := s.updHnode a (fun x => { x with confirmed := true, asking := false, mailTurns := 0, gone := 0, asked := s.now0 })
  let s := (s.w .NODE_STATE_PRESENCE a 1).countNodes
  let s := if h.back then s.raise .nodeBack 0xFF 2 a (claimBody h.claim) else s
  let s := [1, 2, 3].foldl (fun u ty => match Tbl.get [] u.empties (a * 8 + ty) with | [] => u | b => u.mail a 0x12 b) s
  let s := s.mail a 0x13 []
  (match h.delta with | some d => s.heardDelta a d | none => s).showPreloaded

/-! Mailbox partners (R67, R474). -/

/-- Whom the mailbox segments of a frame address: a fresh free choice for each segment among the partners that want one and fit,
none twice. The manual leaves the choice to the head (log 27). -/
def State.planBoxes (s : State) (frame : Nat) (segs : List (Nat × Nat)) : State :=
  let ds := segs.map (·.2)
  let s := { s with hnodes := s.hnodes.map (fun e => (e.1, { e.2 with box := e.2.box.giveUp ds })) }
  segs.foldl (fun u g =>
    let taken := (u.head.mailAt.filter (fun m => m.1 == frame)).map (·.2.2)
    let l := (u.hnodes.filter (fun e => e.2.box.wants && e.2.box.fits g.2 && !taken.contains e.1)).map (·.1)
    match l with
    | [] => u
    | a0 :: _ =>
      let (f, u) := u.fresh
      let a := l.getD (f % l.length) a0
      let u := u.updHnode a (fun h => { h with mailTurns := h.mailTurns + 1, box := h.box.load g.2 })
      u.updHead (fun h => { h with mailAt := h.mailAt ++ [(frame, g.1, a)] })) s

/-- Keep the partners of the last frames only, and plan those of a frame: `window` is its roll-call window. -/
def State.planMail (s : State) (frame : Nat) (window : Option Nat) (segs : List (Nat × Nat)) : State :=
  let s := s.updHead (fun h => { h with
    mailAt := h.mailAt.filter (fun m => decide (cycDiff frame m.1 ≤ 2)) ++ (match window with | some i => [(frame, i, 0)] | none => []) })
  s.planBoxes frame (segs.filter (fun g => some g.1 != window))

/-! Switches (R79 to R84). -/

/-- The body of SWITCH_DONE and SWITCH_ABORT. -/
def switchBody (old new result addr tick : Nat) : List Byte := le 1 old ++ le 1 new ++ le 1 result ++ le 1 addr ++ le 4 tick

/-- End an armed or pending switch without switching, with its RESULT (R81, R84). -/
def State.dropSwitch (s : State) (result addr : Nat) : State :=
  let body := switchBody s.mode (s.r .SW_STAT_NEXT_SM) result addr (s.r .SW_CYCLE_CYCLE)
  let s := (((s.wb .SW_STAT_ARMED 0 false).w .SW_STAT_RESULT 0 result).w .SW_STAT_NOACK_ADDR 0 addr).w .SW_CYCLE_CYCLE 0 0xFFFFFFFF
  (s.updHead (fun h => { h with armFrame := none, decided := false })).raise .switchAbort 0xFF 0 0 body

/-- A switch is armed or, in ROLL_CALL or until its first frame, pending (R70, R79). -/
def State.armSwitch (s : State) (m : Nat) : State :=
  let s := (((s.w .SW_STAT_NEXT_SM 0 m).wb .SW_STAT_ARMED 0 true).w .SW_STAT_RESULT 0 0).w .SW_CYCLE_CYCLE 0 0xFFFFFFFF
  s.updHead (fun h => { h with armFrame := none, decided := false })

/-- The first tick at or after a + ARM_LEAD whose TB1 is a whole multiple of both periods: `tb` is TB1 of frame a, in 10 ns, the
frames are `period` apart, `fuel` bounds the search by the number of frames in the common multiple. -/
def switchTick (period both : Nat) : Nat → Nat → Nat → Nat
  | 0, c, _ => c
  | fuel + 1, c, tb => if tb % both = 0 then c else switchTick period both fuel (cycAdd c 1) (tb + period)

/-- Fix the switch tick while frame a is built (R79). -/
def State.fixSwitch (s : State) (a tb period : Nat) : State :=
  let m := s.sched (s.r .SW_STAT_NEXT_SM)
  let lead := s.r .SW_CFG_ARM_LEAD
  let both := Nat.lcm period m.period
  let c := switchTick period both (both / max 1 period) (cycAdd a lead) (tb + lead * period)
  (s.w .SW_CYCLE_CYCLE 0 c).updHead (fun h => { h with armFrame := some a })

/-- The node whose acknowledgement is missing: in a mode's frame order, the first present one that has not acknowledged (R81, Table
3.6). -/
def State.missingAck (s : State) (d : Nat) : Option Nat :=
  if s.headIs .rollCall then
    let m := s.sched (s.r .SW_STAT_NEXT_SM)
    m.nodes.find? (fun a => s.r .NODE_STATE_PRESENCE a == 1 && !m.loaded.contains a)
  else
    (s.sched s.mode).nodes.find? (fun a => s.r .NODE_STATE_PRESENCE a == 1 &&
      !((s.hnode a).modeAck && decide (1 ≤ cycDiff d (s.hnode a).ackFrame) && decide (cycDiff d (s.hnode a).ackFrame ≤ 8)))

/-- The decision while frame d = s - 4 is built (R81). -/
def State.decideSwitch (s : State) (d : Nat) : State :=
  match s.missingAck d with
  | some a => s.dropSwitch 3 a
  | none => s.updHead (fun h => { h with decided := true })

/-- The decision is due for a frame: the switch is armed with its tick four frames on or closer, and not yet decided. -/
def State.decisionDue (s : State) (frame : Nat) : Bool :=
  s.rb .SW_STAT_ARMED && s.head.armFrame.isSome && !s.head.decided && decide (cycDiff (s.r .SW_CYCLE_CYCLE) frame ≤ 4)

/-- NODE_STATE's keeper bits (Table 3.9). -/
def State.showKeepers (s : State) : State :=
  (List.range 255).foldl (fun u a =>
    let k := u.cyclic && (u.sched u.mode).keepers.contains a
    (u.wb .NODE_STATE_KEEPER a k).wb .NODE_STATE_IN_SET a (k && !(u.hnode a).dropped)) s

/-- A mode takes force at its tick (R82): its times and its plan. -/
def State.takeMode (s : State) (k : Nat) : State :=
  let m := s.sched k
  let s := s.updHead (fun h => { h with prevMode := s.mode })
  let s := (((s.w .CYC_MODE_SM 0 k).w .CYC_PERIOD_PERIOD 0 m.period).w .CYC_TIMES_TIN_LEAD 0 m.tinLead).w .CYC_TIMES_TOUT_OFS 0 m.toutOfs
  ((s.wb .CYC_MODE_RUN 0 true).w .CYC_INDONE_INDONE 0 m.inDone).showPlan.showKeepers

/-- The switch takes effect at its tick: SWITCH_DONE (R81, R82). -/
def State.doSwitch (s : State) : State :=
  let old := s.mode
  let new := s.r .SW_STAT_NEXT_SM
  let body := switchBody old new 1 0 (s.r .SW_CYCLE_CYCLE)
  let s := (((s.wb .SW_STAT_ARMED 0 false).w .SW_STAT_RESULT 0 1).w .SW_STAT_NOACK_ADDR 0 0).w .SW_CYCLE_CYCLE 0 0xFFFFFFFF
  let s := s.updHead (fun h => { h with armFrame := none, decided := false })
  (s.takeMode new).raise .switchDone 0xFF 0 0 body

/-! Starting and stopping. -/

/-- A kindling begins anew (R61, R63, R66): what an earlier one assigned is no longer known; mapped nodes are not yet seen; what is
numbered by frames is forgotten. -/
def State.newKindling (s : State) : State :=
  let s := s.updHead (fun h => { h with
    kCycle := 0, rollFrames := 0, cleanRun := 0, returned := false, claimSeen := false, partnerHeard := false, claims := [], heard := []
    known := [], given := [], waiting := [], assign := none, measured := false, dups := [], mailAt := [], armFrame := none, decided := false
    stopping := false, reports := [], corrs := [], trailer := (0, 0), split := false, lagEnd := false, lagDue := false, loopFree := 0 })
  let s := { s with
    hnodes := s.hnodes.foldl (fun (t : Tbl HNode) (e : Nat × HNode) =>
      Tbl.set {} t e.1 { box := { outq := e.2.box.outq.filter (fun m => m.waiter.isSome), awaiting := e.2.box.awaiting } }) []
    scheds := (List.range 8).foldl (fun t k => Tbl.modify {} t k (fun m => { m with loaded := [], barred := [] })) s.scheds
    segIn := [], cmds := [], sentHist := [], posTab := [], posPrev := [], marksIn := [], insts := [] }
  let s := (List.range 255).foldl (fun u a =>
    let u := match u.mapEntry a with | some e => if e.old then u.setMap a none else u | none => u
    ((u.w .NODE_STATE_PRESENCE a (if u.mapEntry a = none then 0 else 3)).wb .NODE_STATE_LOCKED a false).w .NODE_DRIFT_CONSEC a 0) s
  let s := ((s.wb .RING_STAT_BROKEN 0 false).wb .RING_STAT_LAG 0 false).w .RK_LOOP_L 0 0
  s.countNodes.showPreloaded

/-- Leave OFF or CONFLICT for LISTEN (R61). -/
def State.goListen (s : State) : State :=
  (((s.newKindling).w .RING_STAT_GEN 0 (s.r .RK_CFG_GEN)).w .RING_STAT_TOPO 0 0).enterHead .listen

/-- The head goes to OFF: no more frames (R61); an armed switch is dropped (R84). -/
def State.goOff (s : State) : State :=
  let s := if s.rb .SW_STAT_ARMED then s.dropSwitch 4 0 else s
  let s := (s.updHead (fun h => { h with stopping := false })).wb .CYC_MODE_RUN 0 false
  (s.enterHead .off).showKeepers

/-- Kindling begins (R63): TB1 is counted in multiples of 250 us from here. -/
def State.goKindle (s : State) : State :=
  (s.updHead (fun h => { h with tickTb := s.now 1 / t10 25000 * t10 25000 })).enterHead .kindle

/-- Enter ROLL_CALL (R61, R70): a start mode is pending from here on. -/
def State.goRollCall (s : State) : State :=
  let s := (s.updHead (fun h => { h with rollFrames := 0, cleanRun := 0, returned := false, claimSeen := false })).enterHead .rollCall
  let k := s.r .RK_CFG_START_SM
  let s := if k < 8 ∧ (s.sched k).phase = 2 then s.armSwitch k else s
  s.replanIf

end Sys2Proof.Machine
end

