-- ==== Sys2Proof/Machine/Uplink.lean ====
section
/-! DEFINITION. Sys2Proof/Machine/Uplink.lean: what comes back from the ring: frames (R41, R42, R57, R72), segments (R22, R57, R92, R93), the
reports of power stages in them (R203 to R206), links (R34), and the timers of nodes (R70 to R75, R93). -/

namespace Sys2Proof.Machine

/-! The acceptance of a copy (R57). -/

/-- The deadline of a copy of frame n, in clocks from tick n: the cutoff of the first task that uses its inputs; none without such
a task. -/
def State.copyDeadline (s : State) (n : Nat) : Option Int :=
  let cyc := if s.rb .RING_STAT_LAG then cycAdd n 1 else n
  let shift : Int := if s.rb .RING_STAT_LAG then (s.period * 8 : Nat) else 0
  ([0, 1, 2, 3].flatMap (fun g => (s.dieDescs g).filterMap (fun d =>
    if partakes d.2 s.mode cyc && descCtr d.2 != 0xFFFF then some (s.cutoffOf d.2 cyc + shift) else none))).foldl
    (fun m c => some (match m with | none => c | some x => min x c)) none

/-- A copy of frame n of a cyclic ring has come in time. -/
def State.inTime (s : State) (n : Nat) : Bool :=
  match s.copyDeadline n with
  | none => true
  | some d => decide ((s.sinceTick n : Int) < d)

/-- Frame n is one whose copies may still return: the last one sent or the one before. -/
def State.onTheWay (s : State) (n : Nat) : Bool :=
  if s.cyclic then decide (cycDiff s.cycle n ≤ 1) else s.kindles && decide (1 ≤ cycDiff s.head.kCycle n) && decide (cycDiff s.head.kCycle n ≤ 2)

/-! Power-stage reports (R203 to R206). -/

/-- L(j) after the tick of a frame k, for j = k - back: tick j+1 plus T_out, in 2^-16 ns. -/
def State.applyInstant (s : State) (tick back : Nat) : Nat := tick + t10 (s.r .CYC_TIMES_TOUT_OFS) - (back - 1) * t10 s.period

/-- The time of a desaturation reported in frame k (R204): its TB1 instant and how many frames before k the one lies from whose
L it counts. -/
def State.desatTime (s : State) (tick dt : Nat) : Nat × Nat :=
  let d := min dt (s.period * 8 - 1)
  let back := if (d : Int) ≤ ((s.period : Int) - s.r .CYC_TIMES_TIN_LEAD - s.r .CYC_TIMES_TOUT_OFS) * 8 then 2 else 3
  (s.applyInstant tick back + d * 81920, back)

/-- The axes of a node: those bound to its servo blocks and to its stepper axes. -/
def State.nodeAxes (s : State) (addr : Nat) : List Nat :=
  (List.range 128).filter (fun a => s.rb .SV_STAT_BOUND a && s.r .SV_BIND_ADDR a == addr) ++
    ((List.range 512).filter (fun k => s.ru .stepBind k 0 1 == addr && addr != 0)).map (· + 128)

/-- A DC-link short of a node (Table 7.4): every axis of it is inhibited, and SAF is asked for STO. -/
def State.dcShort (s : State) (addr : Nat) : State :=
  let axes := (s.nodeAxes addr).filter (· < 128)
  let s := axes.foldl (fun u a => (u.setClass a 3 .psDclinkShort).wb .SV_DESAT_SHORT a true) s
  let blocks := ((s.hnode addr).desats.map (·.1)).eraseDups.foldl (fun v b => v + 2 ^ b) 0
  ({ s with dcShorts := if s.dcShorts.contains addr then s.dcShorts else s.dcShorts ++ [addr] }).raise .psDclinkShort 3 2 addr (le 1 blocks ++ [0, 0, 0])

/-- Desaturation on the legs `legs` of a block, reported in frame `n` whose tick lay at `tick`. -/
def State.desat (s : State) (addr blk n tick legs : Nat) (axis : Option Nat) (dt : Nat) : State :=
  let s := match axis with
    | none => s
    | some a =>
      let (at_, back) := s.desatTime tick dt
      let s := (((s.inc .SV_CNT_DESAT a).w .SV_DESAT_DESAT_T a dt).w .SV_DESAT_LEGS a legs)
      s.setFault a 3 .psDesat (timeBytes at_ ++ le 1 legs ++ [0] ++ le 2 dt ++ le 4 (cycAdd n (Config.cycleModulus - back))) (dt + legs * 65536)
  let s := s.updHnode addr (fun h => { h with
    desats := h.desats.filter (fun d => decide (cycDiff n d.2.2 ≤ 2)) ++ ((List.range 3).filter (bit legs)).map (fun l => (blk, l, n)) })
  if 2 ≤ ((s.hnode addr).desats.map (fun d => (d.1, d.2.1))).eraseDups.length then s.dcShort addr else s

/-- The PS byte of a block in the first accepted copy of frame n: its rising bits, and the unexpected inhibit (R206). -/
def State.psReport (s : State) (addr blk n tick : Nat) (old new : List Byte) : State :=
  let was := fld old 21 1
  let ps := fld new 21 1
  let rise (i : Nat) : Bool := bit ps i && !bit was i
  let axis := s.servoAxis addr blk
  let legs := b2n (rise 0) + 2 * b2n (rise 1) + 4 * b2n (rise 2)
  let s := if legs = 0 then s else s.desat addr blk n tick legs axis (fld new 22 2)
  match axis with
  | none => s
  | some a =>
    let s := if rise 3 || rise 4 || rise 5 then (s.inc .SV_CNT_UV a).setFault a 3 .psUndervolt else s
    let s := if rise 6 then s.setFault a 2 .psOvertemp else s
    let s := (s.updServo a (fun x => { x with ps := ps })).w .SV_STAT_LAST_PS a ps
    let sent (k : Nat) : Bool := (s.servo a).applied.contains (cycAdd n (Config.cycleModulus - k))
    if bit ps 7 && ps % 64 == 0 && sent 1 && sent 2 then
      let cases := (s.servo a).inhCases + 1
      let s := (s.updServo a (fun x => { x with inhCases := cases })).inc .SV_CNT2_INH_SEEN a
      if cases = s.svu a 14 1 then s.setFault a 3 .psInhibited else s
    else s.updServo a (fun x => { x with inhCases := 0 })

/-! Keepers (R90, R93). -/

/-- A keeper's segment in one copy of the present frame: its report, its last D, and whether it leaves the set. -/
def State.keeperRx (s : State) (addr : Nat) (first late : Bool) (data : List Byte) : State :=
  let dev := fldI data 0 4
  let old := if first then none else s.head.reports.find? (fun r => r.addr == addr)
  let r : KReport := match old with
    | some r => { r with devs := r.devs ++ [dev] }
    | none => { addr := addr, devs := [dev], rate := fldI data 4 4 }
  let (d, s) := s.freeDiv r.devs.sum r.devs.length
  let s := s.updHead (fun h => { h with
    reports := h.reports.filter (fun k => k.addr != addr) ++ [r], lastD := h.lastD.filter (fun k => k.1 != addr) ++ [(addr, d)] })
  let (shown, s) := s.freeDiv d 4096
  let s := s.wI .NODE_DRIFT_LAST_D addr (clampInt (-32768) 32767 shown)
  let pw : Nat := (s.sched s.mode).pw * 65536
  let s := s.updHnode addr (fun h => { h with lastD := d })
  if !(s.sched s.mode).keepers.contains addr then s
  else if !(s.hnode addr).dropped then
    if late || decide (pw < d.natAbs) then
      ((s.updHnode addr (fun h => { h with dropped := true, readmit := 0 })).wb .NODE_STATE_IN_SET addr false).raise .keeperDrop 0xFF 2 addr (leInt 4 d)
    else s
  else
    let good := bit (fld data 8 1) 1 && decide (2 * d.natAbs ≤ pw)
    s.updHnode addr (fun h => { h with readmit := if !good then 0 else if first then h.readmit + 1 else h.readmit })

/-! Segments. -/

/-- The safe containers of an uplink area go to SAF, with the cycle of their frame (R47); the last two stand until SAF takes them (R325). -/
def State.takeContainers (s : State) (g : Seg) (n : Nat) (data : List Byte) : State :=
  let at_ : List Nat := match g.ty with
    | 1 => (List.range g.pa).map (fun k => 36 * k + 24)
    | 2 => (List.range g.pb).map (fun k => 8 * g.pa + 12 * k)
    | 3 => (List.range g.pc).map (fun k => 4 * g.pb + 12 * k)
    | _ => []
  { s with contUp := (List.range at_.length).foldl (fun t k =>
      let b := Tbl.get [] t (blockKey g.addr g.ty k)
      Tbl.set [] t (blockKey g.addr g.ty k) (b.drop (b.length - 16) ++ le 4 n ++ slice data (at_.getD k 0) 12)) s.contUp }

/-- LATE_INSTANT in an accepted uplink (R93): at DRIFT_LIMIT every axis of the node enters FC2. -/
def State.driftRx (s : State) (addr : Nat) (late : Bool) : State :=
  if !late then (s.wb .NODE_STATE_LOCKED addr true).w .NODE_DRIFT_CONSEC addr 0
  else
    let n := min 65535 (s.r .NODE_DRIFT_CONSEC addr + 1)
    let s := ((s.inc .NODE_FLAGS_LATE_INST addr).wb .NODE_STATE_LOCKED addr false).w .NODE_DRIFT_CONSEC addr n
    if n = s.r .TK_DRIFT_DRIFT_LIMIT then
      (s.nodeAxes addr).foldl (fun u a => u.setFault a 2 .instantDrift (le 1 addr ++ [0, 0, 0])) s
    else s

/-- The arrival of an accepted segment (Tables 1.5, 2.17): the node's times, and the inputs-complete time in use once it is later
than planned. A break's later arrivals are planned for and do not raise it (R41; log 28). -/
def State.arrived (s : State) (addr arr : Nat) : State :=
  let s := s.w .NODE_ARR_LAST addr (min 65535 arr)
  let s := if s.r .NODE_ARR_MAX addr < arr then s.w .NODE_ARR_MAX addr (min 65535 arr) else s
  if s.cyclic && !s.rb .RING_STAT_BROKEN && decide (s.r .CYC_INDONE_INDONE < arr) then
    let m := s.sched s.mode
    let w : Int := (s.largestWcet s.mode m : Nat)
    let before := computeWindow m.period (s.r .CYC_INDONE_INDONE)
    let s := (s.w .CYC_INDONE_INDONE 0 arr).wI .CYC_WINDOW_WINDOW 0 (computeWindow m.period arr)
    if w ≤ before ∧ computeWindow m.period arr < w then s.raise .cycleMargin 0 else s
  else s

/-- The counters that wait for a segment are decremented: those of its own cycle, or of the next under the lag (R22, R42, R132). -/
def State.countArrival (s : State) (mode : Nat) (g : Seg) (n arr : Nat) (late : Bool) : State :=
  let c := if s.rb .RING_STAT_LAG then cycAdd n 1 else n
  (Tbl.get [] s.arrMap ((mode * 256 + g.addr) * 8 + g.ty)).foldl (fun u e =>
    u.decrement e.1 e.2 c (fun x => { x with late := x.late || late, arr := max x.arr (8 * arr) })) s

/-- The first accepted copy of a segment of frame n (R22, R57). -/
def State.acceptSegment (s : State) (g : Seg) (c : SegCopy) : State :=
  let n := c.cycle
  let key := g.addr * 8 + g.ty
  let mode := s.modeOf n
  let old := Tbl.get {} s.segIn key
  let late := bit c.ulf 1
  let tick := s.head.tickTb - (if n = s.cycle then 0 else t10 s.period)
  let s := { s with segIn := Tbl.set {} s.segIn key { old with
    stamp := n + 1, copies := 1, ulf := c.ulf, data := c.data, arr := c.arr, prevStamp := old.stamp, prevUlf := old.ulf, prevData := old.data } }
  let s := s.updHnode g.addr (fun h => { h with gone := 0, ackFrame := n, modeAck := bit c.ulf 4 })
  let s := (s.arrived g.addr c.arr).driftRx g.addr late
  let s := if bit c.ulf 2 then s.inc .NODE_FLAGS_DL_ERR g.addr else s
  let s := if g.ty = 1 then
      (List.range g.pa).foldl (fun u k => u.psReport g.addr k n tick (slice old.data (36 * k) 24) (slice c.data (36 * k) 24)) s
    else s
  let s := if g.ty = 4 ∧ n = s.cycle then s.keeperRx g.addr true late c.data else s
  let s := s.takeContainers g n c.data
  let tin := tick - t10 (s.r .CYC_TIMES_TIN_LEAD)
  let s := s.acqFeed (fun b => acqSkind b == 0 && fld b 16 1 == g.addr && fld b 17 1 == g.ty) tin
    (fun b => (ringValue b c.data).map (fun v => (v, if late then 32 else 0)))
  let s := if s.rb .RING_STAT_BROKEN then s.flueSend (8 + g.len) else s
  s.countArrival mode g n c.arr late

/-- The partner of a mailbox segment of a frame. -/
def State.mailPartner (s : State) (n index : Nat) : Option Nat := (s.head.mailAt.find? (fun m => m.1 == n && m.2.1 == index)).map (·.2.2)

/-- One accepted copy of a mailbox segment or roll-call window. Each copy of a window may carry another node's claim, so both are
read. -/
def State.acceptMail (s : State) (c : SegCopy) : State :=
  match s.mailPartner c.cycle c.index with
  | none => s
  | some 0 => if bit c.ulf 0 then s.claimRx c.cycle (slice c.data 4 32) else s
  | some a =>
    let key := a * 8 + 5
    let old := Tbl.get {} s.segIn key
    if !bit c.ulf 0 then s
    else if old.stamp = c.cycle + 1 then
      ({ s with segIn := Tbl.set {} s.segIn key { old with copies := 2 } }).inc .NODE_ERR_DUP a
    else
      let s := { s with segIn := Tbl.set {} s.segIn key { old with stamp := c.cycle + 1, copies := 1, ulf := c.ulf, data := c.data, arr := c.arr } }
      let s := s.acqFeed (fun b => acqSkind b == 0 && fld b 16 1 == a && fld b 17 1 == 5) (s.head.tickTb - t10 (s.r .CYC_TIMES_TIN_LEAD))
        (fun b => (ringValue b c.data).map (fun v => (v, 0)))
      s.updHnode a (fun h => { h with box := h.box.uplink c.data })

/-- The segment of a copy, in its frame's layout. -/
def State.copySeg (s : State) (c : SegCopy) : Option Seg :=
  if s.cyclic then (s.sched (s.modeOf c.cycle)).segs[c.index]? else some { addr := 0, ty := 5, pa := 64, pb := 0, pc := 0 }

/-- A segment of a returned copy (R22, R57): a bad CRC and a second copy are counted, an uplink that no node wrote is none. -/
def State.copyRx (s : State) (c : SegCopy) : State :=
  match s.copySeg c with
  | none => s
  | some g =>
    let owner := if g.ty = 5 then (s.mailPartner c.cycle c.index).getD 0 else g.addr
    if !c.crcOk then (if owner = 0 then s else s.inc .NODE_ERR_CRC_ERR owner)
    else if g.ty = 5 then s.acceptMail c
    else if !bit c.ulf 0 then s
    else
      let key := g.addr * 8 + g.ty
      let old := Tbl.get {} s.segIn key
      if old.stamp = c.cycle + 1 then
        let s := ({ s with segIn := Tbl.set {} s.segIn key { old with copies := 2 } }).inc .NODE_ERR_DUP g.addr
        if g.ty = 4 ∧ c.cycle = s.cycle then s.keeperRx g.addr false (bit c.ulf 1) c.data else s
      else s.acceptSegment g c

/-- SEGMENT_ARRIVAL (R22): a segment of a copy that R57 accepts; the segments of any other copy do nothing. -/
def execSegmentArrival (_port : Fin 2) (c : SegCopy) (s : State) : Host.Outcome State Fault Refusal :=
  .next (if s.onTheWay c.cycle && (!s.cyclic || s.inTime c.cycle) then s.copyRx c else s)

/-! Frames. -/

/-- The node that looped at an end lies, by its path delay from the address-0 end, at this distance. -/
def State.pathX (s : State) (a : Nat) : Int := (s.hnode a).pdX

/-- Nodes lie between two loops: at least one present node is strictly between the nodes that looped (Table 2.14; log 29). -/
def State.splitNow (s : State) : Bool :=
  let a := s.r .RING_STAT_LOOP_A
  let b := s.r .RING_STAT_LOOP_B
  a != 0 && b != 0 && (List.range 255).any (fun n => s.r .NODE_STATE_PRESENCE n == 1 && decide (s.pathX a < s.pathX n) && decide (s.pathX n < s.pathX b))

/-- A looped frame returns (R38, R41, R42): the break is in force. -/
def State.loopedRx (s : State) (port : Nat) (addr : Nat) : State :=
  let s := (s.inc .PORT_LOOPED_COUNT port).w (if port = 0 then .RING_STAT_LOOP_A else .RING_STAT_LOOP_B) 0 addr
  let s := s.updHead (fun h => { h with loopedNow := true })
  let s :=
    if s.rb .RING_STAT_BROKEN then s
    else
      let cls := s.r .RING_STAT_BRK_CLASS
      let s := (s.wb .RING_STAT_BROKEN 0 true).updHead (fun h => { h with lagDue := s.cyclic && cls == 1, split := false, loopFree := 0 })
      s.raise .ringBreak 0xFF 0 0 (le 1 port ++ le 1 addr ++ le 1 cls ++ [0])
  if s.splitNow && !s.head.split then
    (s.updHead (fun h => { h with split := true })).raise .ringSplit 0xFF 0 0 (le 1 (s.r .RING_STAT_LOOP_A) ++ le 1 (s.r .RING_STAT_LOOP_B) ++ [0, 0])
  else s

/-- L is measured (R71, R472). -/
def State.measureL (s : State) (l : Nat) : State :=
  ((s.w .RK_LOOP_L 0 (min (2 ^ 32 - 1) l)).updHead (fun h => { h with measured := true })).replanIf

/-- L and EPS of a twin line from both heads' arrivals (R72). -/
def State.measureTwin (s : State) (own other : Nat) : State :=
  let head := if s.isStandby then (other, own) else (own, other)
  let (l, s) := s.freeDiv ((head.1 + head.2 : Nat) : Int) 2
  let (e, s) := s.freeDiv ((head.2 : Int) - head.1) 2
  (s.wI .RK_HEADS_EPS 0 (clampInt (-(2 ^ 31)) (2 ^ 31 - 1) e)).measureL l.toNat

/-- An accepted frame: its trailer's check, its loop flags, and L. -/
def State.acceptFrame (s : State) (port : Nat) (h : FrameHdr) (arrival : Nat) : State :=
  let s := s.inc .PORT_FRAMES_RX_COUNT port
  let s := if h.tcrcOk then s else s.inc .PORT_TRL_ERR_COUNT port
  let s := s.updHead (fun x => { x with returned := true })
  if bit h.flags 1 then s.loopedRx port h.loopAddr
  else if s.r .TWIN_STAT_ROLE != 0 then
    let s := (s.wb .TWIN_STAT_PARTNER_RING 0 true).updTwin (fun t => { t with ownArr := some arrival, frameAt := some h.cycle })
    match s.twin.partnerArr with | some o => s.measureTwin arrival o | none => s
  else if port = 1 then s.measureL arrival
  else s

/-- FRAME_RETURN (R57): `arrival` is its time after its own tick, at the receive interface, in 2^-16 ns. A head that sends no
frames takes none. -/
def execFrameReturn (port : Fin 2) (h : FrameHdr) (arrival : Nat) (s : State) : Host.Outcome State Fault Refusal :=
  let p := port.val
  .next (
    if !(s.cyclic || s.kindles) then s
    else if !h.hcrcOk || !s.onTheWay h.cycle then s.inc .PORT_HDR_ERR_COUNT p
    else if s.cyclic && !s.inTime h.cycle then s.inc .PORT_STALE_COUNT p
    else s.acceptFrame p h arrival)

/-- The ring ports of the topology are up: both, and in a twin line RING-A, which alone takes part (R36). -/
def State.portsUp (s : State) : Bool := s.rb .RING_STAT_LINK_A && (s.r .RING_STAT_TOPO == 2 || s.rb .RING_STAT_LINK_B)

/-- INPUT_LAG_END (R42): 4,096 cycles have passed without a looped frame, with the ring ports up; the break ends at the next tick. -/
def execInputLagEnd (s : State) : Host.Outcome State Fault Refusal :=
  .next (if s.rb .RING_STAT_BROKEN && decide (4096 ≤ s.head.loopFree) && s.portsUp then
    s.updHead (fun h => { h with lagEnd := true }) else s)

/-! Links (R34). -/

def linkFld (p : Nat) : Fld := if p = 0 then .RING_STAT_LINK_A else .RING_STAT_LINK_B

/-- PORT_LINK_DOWN: `hiBer` tells that the BER monitor reports hi_ber, which counts of itself. -/
def execPortLinkDown (port : Fin 2) (hiBer : Bool) (s : State) : Host.Outcome State Fault Refusal :=
  let p := port.val
  let s := if hiBer then s.inc .PORT_HIBER_COUNT p else s
  .next (if s.rb (linkFld p) then (s.wb (linkFld p) 0 false).inc .PORT_LINK_DOWN_COUNT p else s)

/-- PORT_LINK_UP: the receiver has been locked for 10 ms and no remote fault comes. -/
def execPortLinkUp (port : Fin 2) (s : State) : Host.Outcome State Fault Refusal := .next (s.wb (linkFld port.val) 0 true)

/-! Other heads (R61 to R65). -/

/-- The versions and the safety-set CRC that R373 compares. -/
def State.ownImages (s : State) : List Nat := (List.range 4).map (fun k => s.fwVersion k) ++ [s.r .SAF_CRC_CRC]

/-- The listen time in microseconds (R62). -/
def State.listenUs (s : State) : Nat := 2000 + s.fuse .serial % 1024

/-- Another head outranks this one (R64). -/
def State.outranked (s : State) (k : HeadRank) : Bool :=
  decide (s.r .RK_CFG_PRIO < k.prio) || (s.r .RK_CFG_PRIO == k.prio && decide (s.fuse .serial < k.serial))

/-- The partner's serial (Table 13.4), its versions, and the end at which it sits, which leaves this head the other one (R36). -/
def State.hearPartner (s : State) (src : Nat) (k : HeadRank) : State :=
  (((s.w .TWIN_PSER_LO_SERIAL 0 k.serial).w .TWIN_PSER_HI_SERIAL 0 (k.serial / 2 ^ 32)).updTwin (fun t => { t with images := k.images })).updHead
    (fun h => { h with partnerHeard := true, noPartner := false, farEnd := src == 0 })

/-- Become standby, and join unless the images differ (R359, R373). -/
def State.joinLine (s : State) : State :=
  let s := (s.w .TWIN_STAT_ROLE 0 2).w .TWIN_STAT_JOIN_PCT 0 0
  let s := s.updTwin (fun t => { t with copied := 0, recs := [], pend := [], sentIn := [], tick := none, lateRun := 0 })
  if s.twin.images = s.ownImages then s.w .TWIN_STAT_SYNC 0 1 else (s.w .TWIN_STAT_SYNC 0 3).raise .twinMismatch

/-- Yield to a better head or a running ring (R61, R64, R280): FOLLOW in a twin line, with TB1 stepped to the winner's, or
CONFLICT. -/
def State.yieldTo (s : State) (src : Nat) (k : HeadRank) : State :=
  if s.r .RK_CFG_TOPO = 2 then
    let s := (s.hearPartner src k).enterHead .follow
    ((s.w .RING_STAT_TOPO 0 2).stepBase 1 (k.tb1 * 2 ^ 32) 3).joinLine
  else s.enterHead .conflict

/-- KINDLING_FRAME_RX (R61, R64): a frame of another head, kindling or cyclic. -/
def execKindlingFrameRx (port : Fin 2) (h : FrameHdr) (rank : HeadRank) (s : State) : Host.Outcome State Fault Refusal :=
  let kindling := bit h.flags 2
  .next (
    if !h.hcrcOk then (if s.cyclic || s.kindles then s.inc .PORT_HDR_ERR_COUNT port.val else s)
    else if rank.serial = s.fuse .serial then s
    else if s.headIs .listen || s.headIs .kindle then
      if !kindling || s.outranked rank then s.yieldTo h.src rank
      else
        let s := s.hearPartner h.src rank
        if s.headIs .listen then s.goKindle else s
    else if s.headIs .rollCall || s.headIs .cyclic then s.inc .PORT_DROPPED_COUNT port.val
    else s)

/-- LISTEN_TIMEOUT (R61, R62). -/
def execListenTimeout (s : State) : Host.Outcome State Fault Refusal :=
  .next (if s.headIs .listen && decide (s.head.since + usT s.listenUs ≤ s.now0) then s.goKindle else s)

/-- KINDLE_COMPLETE (R61): 2 ms of kindling have passed; `topo` is the topology that the head finds (0 where its frames do not
come back and no partner is heard). -/
def execKindleComplete (topo : Fin 3) (s : State) : Host.Outcome State Fault Refusal :=
  let t := topo.val
  .next (
    if !(s.headIs .kindle && decide (s.head.since + msT 2 ≤ s.now0)) then s
    else
      let s := s.w .RING_STAT_TOPO 0 t
      if t = 0 then s
      else if t ≠ s.r .RK_CFG_TOPO then
        if s.head.mismatch then s else (s.updHead (fun h => { h with mismatch := true })).raise .ringTopoMismatch
      else
        let s := s.updHead (fun h => { h with mismatch := false })
        if t = 2 then
          if !s.head.partnerHeard then s
          else ((s.w .TWIN_STAT_ROLE 0 1).w .TWIN_STAT_SYNC 0 1).goRollCall
        else s.goRollCall)

/-- NO_PARTNER_TIMEOUT (R65): a twin-line head has heard no partner within its listen time plus 2 ms. -/
def execNoPartnerTimeout (s : State) : Host.Outcome State Fault Refusal :=
  .next (if s.headIs .kindle && s.r .RK_CFG_TOPO == 2 && !s.head.partnerHeard && !s.head.mismatch && !s.head.noPartner &&
      decide (s.head.since + msT 2 ≤ s.now0) then
    (s.updHead (fun h => { h with noPartner := true })).raise .ringNoPartner else s)

/-- Both conditions of R70 for leaving ROLL_CALL hold. -/
def State.rollCallDone (s : State) : Bool := s.headIs .rollCall && decide (64 ≤ s.head.rollFrames) && decide (256 ≤ s.head.cleanRun)

/-- ROLL_CALL_COMPLETE (R70): the pending switch is armed with the next frame, unless its mode fails its re-plan (R472). -/
def execRollCallComplete (s : State) : Host.Outcome State Fault Refusal :=
  .next (if s.rollCallDone && s.rb .SW_STAT_ARMED && s.head.armFrame == none && !(s.sched (s.r .SW_STAT_NEXT_SM)).noFit then
    s.updHead (fun h => { h with armFrame := some h.kCycle }) else s)

/-! Timers of nodes. -/

/-- IDENT_TIMEOUT (R70): a node that has not answered within 64 mailbox turns loses its address and is released. -/
def execIdentTimeout (addr : Fin 255) (s : State) : Host.Outcome State Fault Refusal :=
  let a := addr.val
  let h := s.hnode a
  .next (
    if !(h.asking && decide (64 ≤ h.mailTurns)) then s
    else
      let fixed : Bool := match s.mapEntry a with | some e => e.fixed | none => false
      let s := if fixed then s else s.setMap a none
      let s := s.updHnode a (fun x => { x with asking := false, claim := [], back := false, mailTurns := 0, box := { outq := [{ svc := 0x1F, body := [] }], awaiting := x.box.awaiting } })
      (s.w .NODE_STATE_PRESENCE a (if fixed then 3 else 0)).countNodes.showPreloaded)

/-- DELTA_TIMEOUT (R73): after 64 mailbox turns without a measured Δ, the node is preloaded with the path delays last held for its
identity, or with those of Δ = 0. -/
def execDeltaTimeout (addr : Fin 255) (s : State) : Host.Outcome State Fault Refusal :=
  let a := addr.val
  let h := s.hnode a
  .next (
    if !(h.confirmed && !h.started && h.delta == none && decide (64 ≤ h.mailTurns)) then s
    else
      let k := identKey (claimVendor h.claim) (claimSerial h.claim)
      match s.oldDelay.find? (fun e => e.1 == k) with
      | some e => (s.updHnode a (fun x => { x with pdX := e.2.1, pdY := e.2.2 })).preloadNode a
      | none =>
        let l : Int := (s.r .RK_LOOP_L : Int) - claimFwd h.claim * 4096
        let (x, s) := s.freeDiv l 2
        (s.updHnode a (fun y => { y with pdX := x, pdY := x })).preloadNode a)

/-- DELAY_POLL (R73): the head asks a present node for Δ while the ring is cyclic. -/
def execDelayPoll (addr : Fin 255) (s : State) : Host.Outcome State Fault Refusal :=
  let a := addr.val
  .next (if s.cyclic && s.r .NODE_STATE_PRESENCE a == 1 then (s.updHnode a (fun h => { h with asked := s.now0 })).mail a 0x13 [] else s)

/-- NODE_GONE (R74): no copy of any segment of a present node for 1,024 cycles; a switch that waits for its decision is aborted
(Table 3.6). -/
def execNodeGone (addr : Fin 255) (s : State) : Host.Outcome State Fault Refusal :=
  let a := addr.val
  .next (
    if !(s.r .NODE_STATE_PRESENCE a == 1 && decide (1024 ≤ (s.hnode a).gone)) then s
    else
      let s := ((s.w .NODE_STATE_PRESENCE a 2).countNodes.showPreloaded).raise .nodeGone 0xFF 2 a (claimBody (s.hnode a).claim)
      if s.cyclic && s.rb .SW_STAT_ARMED && s.head.armFrame.isSome && !s.head.decided && (s.sched s.mode).nodes.contains a then s.dropSwitch 3 a else s)

/-- KEEPER_READMIT (R93). -/
def execKeeperReadmit (addr : Fin 255) (s : State) : Host.Outcome State Fault Refusal :=
  let a := addr.val
  .next (if (s.hnode a).dropped && decide (s.r .TK_DRIFT_READMIT ≤ (s.hnode a).readmit) then
    (s.updHnode a (fun h => { h with dropped := false, readmit := 0 })).showKeepers else s)

end Sys2Proof.Machine
end

