-- ==== Sys2Proof/Machine/Depart.lean ====
section
/-! DEFINITION. Sys2Proof/Machine/Depart.lean: the frame builder: what a segment carries as it leaves (R21, R45, R46, R201, R207), empty and void
slots (R28, R31, R364), and the history of sent commands (R181, R365). -/

namespace Sys2Proof.Machine

/-! The gate-parameter channel (R201, Table 7.3). -/

/-- The value of gate parameter `i` of a power-stage record. -/
def gateParam (ps : List Byte) (i : Nat) : Nat :=
  match i with
  | 1 => fld ps 2 2
  | 2 => fld ps 4 2
  | 3 => fld ps 6 2
  | 4 => fld ps 8 2
  | 5 => fld ps 10 2
  | _ => fld ps 0 1 % 2

/-- AUX of frame n. -/
def auxWord (ps : List Byte) (n : Nat) : Nat :=
  let i := n % 7 + 1
  i * 4096 + (if i = 7 then ([1, 2, 3, 4, 5, 6].map (gateParam ps)).sum else gateParam ps i) % 4096

/-! Bootstrap refresh (R207). -/

/-- The intervals of a command and their states, in 1.25 ns from its L, for a cycle of `len`. -/
def cmdSpans (b : List Byte) (len : Nat) : List (Nat × Nat × Nat) :=
  let s0 := fld b 0 2 % 4096
  let s1 := fld b 2 2 % 4096
  let s2 := fld b 4 2 % 4096
  let o1 := fld b 6 2
  let o2 := fld b 8 2
  match bits (fld b 2 2) 13 12 with
  | 0 => [(0, len, s0)]
  | 1 => [(0, o1, s0), (o1, len, s1)]
  | _ => [(0, o1, s0), (o1, o2, s1), (o2, len, s2)]

/-- CMD is APPLY (Table 2.8). -/
def isApply (b : List Byte) : Bool := bits (fld b 0 2) 15 12 == 0

/-- One leg over the intervals of a command: t0 and the beginning of a refreshing interval in progress. -/
def legTrack (mask least : Nat) (npc : Bool) (leg base : Nat) (spans : List (Nat × Nat × Nat)) (x : Option Nat × Option Nat) :
    Option Nat × Option Nat :=
  spans.foldl (fun x p =>
    let stop := base + p.2.1 * clockT
    if bit mask (legCode npc p.2.2 leg) then
      let r := x.2.getD (base + p.1 * clockT)
      (if r + least ≤ stop then some stop else x.1, some r)
    else (x.1, none)) x

/-- A leg's tracking as it stands, and after a command of frame n whose L lies at `base`. -/
def State.legState (s : State) (a leg : Nat) : Option Nat × Option Nat :=
  (Tbl.get none (s.servo a).boot leg, Tbl.get none (s.servo a).boot (4 + leg))

def State.legAfter (s : State) (a leg base : Nat) (b : List Byte) : Option Nat × Option Nat :=
  legTrack (s.ru .ps a 16 2) (s.ru .ps a 14 2 * clockT) (s.npc a) leg base (cmdSpans b s.cycleN) (s.legState a leg)

/-- L of the frame in progress: the next tick plus T_out (R17, R182), in 2^-16 ns of TB1. -/
def State.frameL (s : State) : Nat := s.head.tickTb + t10 (s.period + s.r .CYC_TIMES_TOUT_OFS)

/-- A committed APPLY must give way to a refresh; a supply that has not been refreshed yet is due. -/
def State.refreshDue (s : State) (a : Nat) (b : List Byte) : Bool :=
  s.ru .ps a 12 2 != 0 && [0, 1, 2].any (fun leg =>
    match (s.legAfter a leg s.frameL b).1 with
    | none => true
    | some t0 => decide (t0 + usT (s.ru .ps a 12 2) < s.frameL + t10 s.period))

/-- The history records what a frame carried for a servo block, and the builder's tracking follows it; none is an empty slot. -/
def State.noteSent (s : State) (a n : Nat) (cmd : Option (List Byte)) : State :=
  let apply : Bool := match cmd with | some b => isApply b | none => false
  s.updServo a (fun x => { x with
    applied := if apply then (n :: x.applied).take 4 else x.applied
    boot := [0, 1, 2].foldl (fun (t : Tbl (Option Nat)) leg =>
      let y := if apply then s.legAfter a leg s.frameL (cmd.getD []) else ((s.legState a leg).1, none)
      Tbl.set none (Tbl.set none t leg y.1) (4 + leg) y.2) x.boot })

/-- Push an entry into the sent-command history of a block (R181). -/
def State.pushHist (s : State) (key : Nat) (cmd : List Byte) (sent : Nat) : State :=
  { s with sentHist := Tbl.modify [] s.sentHist key (fun h => (slice h 0 64).drop 16 ++ slice cmd 0 12 ++ le 1 sent ++ [0, 0, 0]) }

/-- Replace the newest entry of a block's history (R365). -/
def State.mendHist (s : State) (key : Nat) (cmd : List Byte) : State :=
  { s with sentHist := Tbl.modify [] s.sentHist key (fun h => patch (slice h 0 64) 48 (slice cmd 0 12 ++ le 4 0)) }

/-! Blocks. -/

/-- What the builder has for a block: the axis if it has one, whether the block is a slot, the command with SENT's bits 1 and 2,
none where the slot is empty. -/
structure BlockOut where
  axis : Option Nat := none
  slot : Bool := true
  cmd : Option (List Byte × Nat) := none
  deriving DecidableEq, Repr

/-- The committed command of a block for frame n (R27, R145). -/
def State.committed (s : State) (key n : Nat) : Option (List Byte) :=
  let c := Tbl.get {} s.cmds key
  if c.valid && c.frame == n then some c.bytes else none

/-- The builder writes pulse inhibit for an axis in frame n: it stands in FC3 or FC4, from the frame after the one that left empty
on (R12, R31, R123, R206). -/
def State.builderInhibits (s : State) (a n : Nat) : Bool := decide (3 ≤ s.fc a) && (s.axis a).noInhibit != some n

/-- A node's DC-link short inhibits every block of it (Table 7.4): the classes of its axes do, and a block without an axis has no
command. -/
def State.servoOut (s : State) (addr blk n : Nat) : BlockOut :=
  let staged := s.committed (blockKey addr 1 blk) n
  match s.servoAxis addr blk with
  | none => { cmd := staged.map (fun b => (b, 0)) }
  | some a =>
    let aux := le 2 (auxWord (s.cfg .ps a) n)
    if s.builderInhibits a n then { axis := some a, cmd := some (le 2 0x1000 ++ le 8 0 ++ aux, 2) }
    else match staged with
      | none => { axis := some a }
      | some b =>
        if isApply b && s.refreshDue a b then { axis := some a, cmd := some (le 2 (s.ru .ps a 18 2 % 4096) ++ le 8 0 ++ aux, 4) }
        else { axis := some a, cmd := some (patch b 10 aux, 0) }

/-- A stepper block: inhibit is a block of zeros with SFL.INHIBIT. -/
def State.stepOut (s : State) (g : Seg) (blk n : Nat) : BlockOut :=
  match s.stepAxis g.addr (n % max 1 g.pc * g.pa + blk) with
  | none => { slot := false, cmd := some (le 8 0, 0) }
  | some a =>
    if s.builderInhibits a n then { axis := some a, cmd := some (le 7 0 ++ [2], 2) }
    else { axis := some a, cmd := (s.committed (blockKey g.addr 2 blk) n).map (fun b => (b, 0)) }

/-- The blocks of a segment; the data of an I/O segment is one block. -/
def State.blocksOut (s : State) (g : Seg) (n : Nat) : List BlockOut :=
  match g.ty with
  | 1 => (List.range g.pa).map (fun k => s.servoOut g.addr k n)
  | 2 => (List.range g.pa).map (fun k => s.stepOut g k n)
  | 3 => if g.pa = 0 then [] else [{ cmd := (s.committed (blockKey g.addr 3 0) n).map (fun b => (b, 0)) }]
  | _ => []

/-- The length of a block's command. -/
def Seg.cmdBytes (g : Seg) : Nat :=
  match g.ty with
  | 1 => 12
  | 2 => 8
  | 3 => 4 * g.pa
  | _ => 0

/-! Void copies (R364). -/

/-- Every task of cycle n - 1 with a slot in a segment has equal digests in hand (R363). -/
def State.digestsAgree (s : State) (g : Seg) (n : Nat) : Bool :=
  let c := cycAdd n (Config.cycleModulus - 1)
  [0, 1, 2, 3].all (fun d => (s.dieDescs d).all (fun e =>
    !(partakes e.2 s.mode c && descSlot e.2 && descAddr e.2 == g.addr && descType e.2 == g.ty) ||
      match digestOf s.twin.mine c d e.1, digestOf s.twin.theirs c d e.1 with
      | some x, some y => x == y
      | _, _ => descCtr e.2 == 0xFFFF))

/-- The standby may send a segment's slots valid in frame n (Table 13.2, R360, R363, R367). -/
def State.standbyMaySend (s : State) (g : Seg) (n : Nat) : Bool :=
  !s.twin.timeOut && !s.twin.tickLate && !(s.twin.tick != some n && decide (800 < s.sinceTick n)) &&
    (s.r .TWIN_STAT_SYNC == 4 || (s.r .TWIN_STAT_SYNC == 2 && s.digestsAgree g n))

/-- The segment goes out as a void copy: in a twin line, where a slot is empty or withheld. -/
def State.voided (s : State) (g : Seg) (n : Nat) (l : List BlockOut) : Bool :=
  s.r .TWIN_STAT_ROLE != 0 && l.any (·.slot) && (l.any (fun b => b.cmd.isNone) || (s.isStandby && !s.standbyMaySend g n))

/-! The segment. -/

/-- A downlink container for a frame (R47): zeros where SAF has given none. -/
def State.containerFor (s : State) (key n : Nat) : List Byte :=
  let b := Tbl.get [] s.contDown key
  if b ≠ [] ∧ fld b 0 4 = n then slice b 4 12 else List.replicate 12 0

/-- The number of containers of a segment in each direction. -/
def Seg.containers (g : Seg) : Nat :=
  match g.ty with
  | 1 => g.pa
  | 2 => g.pb
  | 3 => g.pc
  | _ => 0

/-- The bytes of a block's command as they leave. -/
def BlockOut.bytes (b : BlockOut) (len : Nat) (void : Bool) : List Byte :=
  match b.cmd with
  | some c => if void then List.replicate len 0 else slice c.1 0 len
  | none => List.replicate len 0

/-- The downlink area; `far` tells that the frame enters at the far end, which a keeper's PDELAY depends on (Table 2.11). -/
def State.downArea (s : State) (g : Seg) (index n : Nat) (l : List BlockOut) (void far : Bool) : List Byte :=
  let boxes (k : Nat) : List Byte := s.containerFor (blockKey g.addr g.ty k) n
  let cmd (b : BlockOut) : List Byte := b.bytes g.cmdBytes void
  match g.ty with
  | 1 => (List.range g.pa).flatMap (fun k => cmd (l.getD k {}) ++ boxes k)
  | 4 => leInt 4 (if far then (s.hnode g.addr).pdY else (s.hnode g.addr).pdX) ++ le 4 0
  | 5 =>
    match s.mailPartner n index with
    | some 0 => slice (le 4 0 ++ s.rollWindow) 0 g.down
    | some a => (s.hnode a).box.downlink (4 * g.pa)
    | none => List.replicate g.down 0
  | _ => l.flatMap cmd ++ (List.range g.containers).flatMap boxes

/-- DLF: EMPTY for each empty servo block, and bit 0 for the whole downlink of another segment (Table 2.6). -/
def dlfOf (ty : Nat) (l : List BlockOut) (void : Bool) : Nat :=
  if void then 0
  else if ty = 1 then ((List.range l.length).map (fun k => if (l.getD k {}).cmd.isNone then 2 ^ k else 0)).sum
  else b2n (l.any (fun b => b.cmd.isNone))

/-- A segment as it leaves a port (R45): header, downlink area, zeros for the uplink, CRC-32C, inverted in a void copy. -/
def segmentBytes (addr ty dlf : Nat) (down : List Byte) (up : Nat) (void : Bool) : List Byte :=
  let b := le 1 addr ++ le 1 ty ++ le 1 dlf ++ [0] ++ down ++ List.replicate up 0
  b ++ le 4 (if void then crc32c b ^^^ 0xFFFFFFFF else crc32c b)

/-- What a block's departure leaves behind: the history, the tracking of R206 and R207, and what the axis's update sent. A void copy
whose partner's SENT has not come is settled when it comes (R365). -/
def State.settleBlock (s : State) (g : Seg) (n blk : Nat) (b : BlockOut) (void : Bool) : State :=
  let key := blockKey g.addr g.ty blk
  let partner := (s.partnerSent n g.addr g.ty).bind (fun l => (l.find? (fun e => e.1 == blk)).map (·.2))
  let own := if void then none else b.cmd
  let sent := own.orElse (fun _ => if s.r .TWIN_STAT_ROLE = 0 then none else partner.map (fun c => (c, 0)))
  let s := match sent with
    | some c => s.pushHist key c.1 c.2
    | none => s.pushHist key [] 1
  let refresh : Bool := match own with | some c => c.2 == 4 | none => false
  match b.axis with
  | none => s
  | some a =>
    if g.ty = 1 then
      let s := (if refresh then s.inc .SV_CNT2_REFRESH a else s).wb .SV_STAT_REFRESHED a refresh
      if sent.isNone && s.r .TWIN_STAT_ROLE != 0 && !s.twin.silent && (s.partnerSent n g.addr g.ty).isNone then s
      else s.noteSent a n (sent.map (·.1))
    else
      let on : Bool := match sent with | some c => fld c.1 7 1 % 4 == 1 | none => false
      s.updStepper (a - 128) (fun x => { x with enabled := (on :: x.enabled).take 4 })

/-- A segment of the frame in progress leaves (R21). -/
def State.depart (s : State) (index : Nat) (g : Seg) : State :=
  let n := s.cycle
  let l := s.blocksOut g n
  let void := s.voided g n l
  let far := s.r .RING_STAT_TOPO == 2 && s.head.farEnd
  let down := s.downArea g index n l void far
  let owner := if g.ty = 5 then (s.mailPartner n index).getD 0 else g.addr
  let bytes (d : List Byte) : List Byte := segmentBytes owner g.ty (dlfOf g.ty l void) d g.up void
  let other := if s.r .RING_STAT_TOPO = 2 then [] else bytes (s.downArea g index n l void true)
  let s := s.updHead (fun h => { h with departed := h.departed ++ [index], lastSent := bytes down, lastSentB := other })
  let s := (List.range l.length).foldl (fun u k => u.settleBlock g n k (l.getD k {}) void) s
  let slots := l.filter (·.slot)
  let s :=
    if void then
      slots.foldl (fun u b => match b.axis with | some a => u.inc .TWIN_AX_VOID a | none => u) (s.inc .TWIN_CNT_VOIDED 0 slots.length)
    else s.inc .NODE_LOST_EMPTY_TX g.addr (slots.filter (fun b => b.cmd.isNone)).length
  let s := if l = [] then s else s.flueSend (8 + (if void then 0 else g.cmdBytes * (l.filter (fun b => b.cmd.isSome)).length))
  s.acqDefer (fun b => acqSkind b == 1 && fld b 16 1 == owner && fld b 17 1 == g.ty) s.frameL
    (fun b =>
      let blk := if g.ty = 1 then fld b 18 2 / 24 else 0
      let empty := if g.ty = 1 then (l.getD blk {}).cmd.isNone else l.any (fun x => x.cmd.isNone)
      (ringValue b down).map (fun v => if empty && l != [] then (0, 128) else (v, 0)))

/-- SEGMENT_DEPARTURE (R21): segment `index` of the frame in progress leaves at its time after the tick, once. -/
def execSegmentDeparture (index : Nat) (s : State) : Host.Outcome State Fault Refusal :=
  .next (match (s.sched s.mode).segs[index]? with
    | none => s
    | some g =>
      if s.cyclic && !s.head.departed.contains index && decide (s.departure g ≤ s.sinceTick s.cycle * 125) then s.depart index g else s)

end Sys2Proof.Machine
end

