-- ==== Sys2Proof/Machine/Cycle.lean ====
section
/-! DEFINITION. Sys2Proof/Machine/Cycle.lean: the tick (R14): ring-time corrections (R90, R91), what became of the frame before (R58, R74), breaks and
the input lag (R42), the HUB's tables (R286, R317), register marks (R233), the frame's mail (R67), the twin's own part
(R360, R367, R372), kindling ticks (R63) and switches (R79 to R82). -/

namespace Sys2Proof.Machine

/-- Time passes until TB1 has reached a value, in 2^-16 ns; none where it has. -/
def State.runTo (s : State) (target : Nat) : State :=
  let b := s.tb 1
  s.clocks (divCeil (target * 2 ^ 32 - b.value) (max 1 b.inc))

/-! Ring time. -/

/-- The correction of OFS_CORR's kind that a standby adds for EPS (R360). -/
def State.epsCorr (s : State) : Int × State :=
  if s.isStandby then
    let (q, s) := s.freeDiv (-(s.rI .RK_HEADS_EPS)) 8
    (clampInt (-(s.r .TK_CFG_SLEW * 4096 : Nat)) (s.r .TK_CFG_SLEW * 4096 : Nat) q, s)
  else (0, s)

/-- At tick c the corrections that are due take force: RATE_CORR stays in TB1's rate, OFS_CORR is spread over the cycle (R91). -/
def State.correctTime (s : State) (c period : Nat) : State :=
  let due := s.head.corrs.filter (fun k => decide (cycDiff c k.cycle < 2 ^ 31))
  let (eps, s) := s.epsCorr
  let ofs : Int := (due.map (·.ofs)).sum + eps
  let (x, s) := s.freeDiv (ofs * (2 ^ 32 : Nat)) (period * 8)
  let was := s.head.extraInc
  let s := s.updTb 1 (fun b => { b with inc := ((b.inc : Int) - was + (due.map (·.rate)).sum * 0x14000 + x).toNat })
  s.updHead (fun h => { h with extraInc := x, corrs := h.corrs.filter (fun k => decide (2 ^ 31 ≤ cycDiff c k.cycle)) })

/-- The fault-tolerant mean of R90: the `f` highest and lowest are left out. -/
def State.faultMean (s : State) (f : Nat) (l : List Int) : Int × State :=
  let rest := ((orderBy (fun a b => decide (a ≤ b)) l).drop f).take (l.length - 2 * f)
  s.freeDiv rest.sum rest.length

/-- The keepers of the frame before give M_off and M_rate (R90). -/
def State.keeperMeans (s : State) : State :=
  let m := s.sched s.mode
  let inSet (a : Nat) : Bool := m.keepers.contains a && !(s.hnode a).dropped
  let rs := s.head.reports.filter (fun r => inSet r.addr)
  let used := s.head.lastD.filter (fun d => rs.any (fun r => r.addr == d.1))
  let ds := used.map (·.2)
  let k := rs.length
  let f := (k - 1) / 3
  let (off, s) := if k < 3 then (0, s) else s.faultMean f ds
  let (rate, s) := if k < 3 then (0, s) else s.faultMean f (rs.map (·.rate))
  let held := s.rb .TK_STAT_HOLD
  let s := (((s.w .TK_STAT_K 0 k).w .TK_STAT_F 0 f).wb .TK_STAT_HOLD 0 (decide (k < 3)))
  let s := (s.wI .TK_MOFF_MOFF 0 (clampInt (-(2 ^ 31)) (2 ^ 31 - 1) off)).wI .TK_MRATE_MRATE 0 (clampInt (-(2 ^ 31)) (2 ^ 31 - 1) rate)
  let s := s.updHead (fun h => { h with reports := [], lastD := [], usedD := used })
  if k < 3 ∧ !held then s.raise .keeperFew 0 else s

/-- The trailer of frame c, and the correction it brings two ticks later (R91). -/
def State.setTrailer (s : State) (c : Nat) (ofs rate : Int) : State :=
  s.updHead (fun h => { h with trailer := (ofs, rate), corrs := h.corrs ++ [{ cycle := cycAdd c 2, ofs := ofs, rate := rate }] })

/-- OFS_CORR and RATE_CORR from the means; a standby takes them from TICK (R360). -/
def State.makeTrailer (s : State) (c : Nat) : State :=
  if s.isStandby then s
  else
    let slew : Int := (s.r .TK_CFG_SLEW * 4096 : Nat)
    let step : Int := s.r .TK_CFG_RSTEP
    let (o, s) := s.freeDiv (s.rI .TK_MOFF_MOFF) 2
    let (r, s) := s.freeDiv (s.rI .TK_MRATE_MRATE) 16
    s.setTrailer c (clampInt (-slew) slew o) (clampInt (-step) step r)

/-! The frame before. -/

/-- A segment of frame f of a node was accepted in no copy: it counts once (R58). -/
def State.loseSegment (s : State) (f addr ty : Nat) : State :=
  let key := addr * 8 + ty
  if ((Tbl.get {} s.segIn key).of f).isSome || (Tbl.get {} s.segIn key).lostAt == f + 1 then s
  else ({ s with segIn := Tbl.modify {} s.segIn key (fun y => { y with lostAt := f + 1 }) }).inc .NODE_LOST_LOST addr

/-- The mailbox segments of frame f, each of the node that it addresses. -/
def State.countMail (s : State) (f : Nat) : State :=
  (s.head.mailAt.filter (fun m => m.1 == f && m.2.2 != 0)).foldl (fun u m => u.loseSegment f m.2.2 5) s

/-- Segments of frame f of which no copy was accepted count once, and so do the cycles of a node without any (R58, R74). -/
def State.countFrame (s : State) (f mode : Nat) : State :=
  let m := s.sched mode
  let own := m.segs.filter (fun g => g.ty != 5)
  let got (u : State) (g : Seg) : Bool := ((Tbl.get {} u.segIn (g.addr * 8 + g.ty)).of f).isSome
  let s := (own.foldl (fun u g => u.loseSegment f g.addr g.ty) s).countMail f
  m.nodes.foldl (fun u a =>
    if u.r .NODE_STATE_PRESENCE a == 1 && !own.any (fun g => g.addr == a && got u g) then u.updHnode a (fun h => { h with gone := h.gone + 1 }) else u) s

/-- The frames whose copies can come no more at tick c: c - 1, or c - 2 while the lag held, and c - 1 too where it ends. -/
def State.countFrames (s : State) (c : Nat) : State :=
  let f1 := cycAdd c (Config.cycleModulus - 1)
  let f2 := cycAdd c (Config.cycleModulus - 2)
  if s.rb .RING_STAT_LAG then
    let s := s.countFrame f2 s.head.prevMode
    if s.head.lagEnd then s.countFrame f1 s.mode else s
  else s.countFrame f1 s.mode

/-! Breaks (R42). -/

/-- At a tick: the break ends, or its lag begins, and looped frames are counted out. Ready entries of the cycle that begins still hold
the inputs of the last lagged frame, which are not used. -/
def State.breakTick (s : State) (c : Nat) : State :=
  let loop := s.head.loopedNow
  let s := s.updHead (fun h => { h with loopedNow := false, loopFree := if loop || !s.portsUp then 0 else h.loopFree + 1 })
  if s.head.lagEnd then
    let lagged := s.rb .RING_STAT_LAG
    let s := ((s.wb .RING_STAT_BROKEN 0 false).wb .RING_STAT_LAG 0 false).updHead (fun h => { h with lagEnd := false, lagDue := false, split := false })
    if lagged then
      { s with grates := s.grates.map (fun (e : Nat × Grate) => (e.1, { e.2 with ready := e.2.ready.filter (fun r => !(r.cycle == c && r.inst != c)) })) }
    else s
  else s

/-- Where the lag begins, the tasks of the cycle that begins use the frame before, of which some segments may have come (R42). -/
def State.armLag (s : State) (c : Nat) : State :=
  if !s.head.lagDue then s
  else
    let s := (s.wb .RING_STAT_LAG 0 true).updHead (fun h => { h with lagDue := false })
    let f := cycAdd c (Config.cycleModulus - 1)
    [0, 1, 2, 3].foldl (fun u g =>
      ((u.dieDescs g).filter (fun d => partakes d.2 u.mode c && descCtr d.2 != 0xFFFF)).foldl (fun v d =>
        let ctr := descCtr d.2
        let here := (v.arrMap.filter (fun e => e.1 / 2048 == v.mode && e.2.contains (g, ctr) && ((Tbl.get {} v.segIn (e.1 % 2048)).of f).isSome)).length
        (v.updInst g ctr c (fun _ => { armed := true, value := Tbl.get 0 v.reload (g * 1024 + ctr) - here, cycle := c, desc := d.1 })).zeroInst g ctr c) u) s

/-! The HUB's tables. -/

/-- Write bytes of the read-only area of every loop die, readable at once. -/
def State.hubPut (s : State) (addr : Nat) (b : List Byte) : State :=
  [0, 1, 2, 3].foldl (fun u g => u.updSram g (fun m => { m with base := m.base.writeN addr b })) s

/-- A base extrapolated at its present rate over a span of TB1, rounded half up (R286). -/
def State.extrapolate (s : State) (t span : Nat) : Nat :=
  (divRound (((s.tb t).value * (s.tb 1).inc + span * 2 ^ 32 * (s.tb t).inc : Nat) : Int) (2 ^ 32 * max 1 (s.tb 1).inc)).toNat

/-- The time table (Table 10.3). -/
def State.timeTable (s : State) (c : Nat) : List Byte :=
  let span := t10 (3 * s.period + s.r .CYC_TIMES_TOUT_OFS)
  let flags := b2n (s.rb .TB_STAT_HOLDOVER 2) + 2 * b2n (s.rb .TB_STAT_HOLDOVER 3) + 4 * b2n (s.tb 2).steppedTick + 8 * b2n (s.tb 3).steppedTick
  le 4 c ++ le 4 flags ++ timeBytes (s.head.tickTb + span) ++ timeBytes (s.extrapolate 2 span) ++ timeBytes (s.extrapolate 3 span) ++ le 20 0

/-- A bit for each channel that passes. -/
def chanBits (f : Nat → Bool) : Nat := ((List.range 24).map (fun c => if f c then 2 ^ c else 0)).sum

/-- The field table (R317). -/
def State.fieldTable (s : State) : List Byte :=
  le 4 (s.r .FIO_IN_STATE) ++ le 4 (chanBits (fun c => s.rb .FIO_CH_STAT_BREAK c)) ++ le 4 (s.r .FIO_OUT_ON) ++ le 4 (chanBits s.chIsInput)

/-- Write both tables at a tick; a standby takes them from TICK (R361). -/
def State.writeTables (s : State) (c : Nat) : State :=
  let s := if s.isStandby then s else (s.hubPut 0x3F8000 (s.timeTable c)).hubPut 0x3F8040 s.fieldTable
  [0, 1, 2, 3].foldl (fun u t => u.updTb t (fun b => { b with steppedTick := false })) s

/-! Register marks (R233). -/

/-- The marks of a record that lie before an instant. -/
def AcqRec.marksBefore (x : AcqRec) (t : Nat) : List Nat := x.marks.filter (fun m => decide (m < t))

/-- Present to each follower the marks before T_in of its input frame, at most four; they leave their records then. -/
def State.presentMarks (s : State) : State :=
  let tin := s.head.tickTb - t10 (s.r .CYC_TIMES_TIN_LEAD + (if s.rb .RING_STAT_LAG then s.period else 0))
  let s := { s with marksIn := if s.isStandby then s.marksIn else [] }
  let s := if s.isStandby then s else
    (List.range 128).foldl (fun u a =>
      if u.regOn a then
        let l := (u.acq (u.flu a 2 1)).marksBefore tin
        ({ u with marksIn := Tbl.set [] u.marksIn a (l.take 4) }).inc .MO_REG_CNT_OVER a (l.length - 4)
      else u) s
  { s with recBufs := s.recBufs.foldl (fun (t : Tbl AcqRec) (e : Nat × AcqRec) =>
      Tbl.set {} t e.1 { e.2 with marks := e.2.marks.filter (fun m => decide (tin ≤ m)) }) [] }

/-! Mail and ports. -/

/-- The mailbox segments of the mode in force: index and data bytes. -/
def State.boxes (s : State) : List (Nat × Nat) :=
  let l := (s.sched s.mode).segs
  (List.range l.length).filterMap (fun i => match l[i]? with | some g => if g.ty = 5 then some (i, 4 * g.pa) else none | none => none)

/-- The roll-call window of frame c (R67). -/
def State.windowAt (s : State) (c : Nat) : Option Nat :=
  if s.rb .SW_CFG_RC_OFF || c % 2 ^ s.r .SW_CFG_RC_EXP != 0 then none else (s.boxes.find? (fun b => decide (32 ≤ b.2))).map (·.1)

/-- The mail of frame c: its window with one assignment, and its partners. -/
def State.mailTick (s : State) (c : Nat) : State :=
  let w := s.windowAt c
  let s := if w.isSome then s.assignOne else s
  s.planMail c w s.boxes

/-- A frame leaves each port whose link is up; in a twin line RING-A alone (R37). -/
def State.sendFrame (s : State) : State :=
  let s := if s.rb .RING_STAT_LINK_A then s.inc .PORT_FRAMES_TX_COUNT 0 else s
  if s.rb .RING_STAT_LINK_B && s.r .RING_STAT_TOPO != 2 then s.inc .PORT_FRAMES_TX_COUNT 1 else s

/-! The twin's part of a tick. -/

/-- The load of the Flue over the last cycle, in percent of 6,000 MB/s, half with one lane (R367). -/
def State.flueLoad (s : State) : State :=
  let lanes := b2n (s.rb .TWIN_STAT_LANE0) + b2n (s.rb .TWIN_STAT_LANE1)
  let load := min 255 (if lanes = 0 then 0 else s.twin.bytes * 100 / max 1 (s.period * 30 * lanes))
  let was := s.r .TWIN_LOAD_LAST
  let s := (s.w .TWIN_LOAD_LAST 0 load).w .TWIN_LOAD_MAX 0 (max load (s.r .TWIN_LOAD_MAX))
  let s := s.updTwin (fun t => { t with bytes := 0 })
  if 90 < load ∧ was ≤ 90 then s.raise .flueLoad 0 else s

/-- A standby's EPS leaves its limit, or has kept half of it for 64 cycles (R360). -/
def State.epsTick (s : State) : State :=
  let eps := (s.rI .RK_HEADS_EPS).natAbs
  let lim := s.r .TWIN_CFG_EPS_MAX * 65536
  if lim < eps then
    let s' := s.updTwin (fun t => { t with timeOut := true, timeOk := 0 })
    if s.twin.timeOut then s' else s'.raise .twinTime
  else if s.twin.timeOut then
    let n := if 2 * eps ≤ lim then s.twin.timeOk + 1 else 0
    s.updTwin (fun t => { t with timeOut := decide (n < 64), timeOk := n })
  else s

/-- The standby stops computing (R367). -/
def State.detach (s : State) : State :=
  ((s.w .TWIN_STAT_SYNC 0 3).updTwin (fun t => { t with pend := [], lateRun := 0 })).raise .twinDetached

/-- The cycle before was Flue-late (R367). -/
def State.flueLateTick (s : State) (prev : Nat) : State :=
  if !(s.isStandby && s.synced) then s
  else if s.twin.lateNow || s.twin.tickLate || s.twin.tick != some prev then
    let n := s.twin.lateRun + 1
    let s := (s.inc .TWIN_CNT2_FLUE_LATE).updTwin (fun t => { t with lateRun := n })
    if n = s.r .TWIN_CFG_LATE_LIMIT then s.detach else s
  else s.updTwin (fun t => { t with lateRun := 0 })

/-- The roles are exchanged (R372). -/
def State.swapRoles (s : State) : State :=
  let s := s.updTwin (fun t => { t with swapAt := none, tick := none, lateRun := 0 })
  (s.w .TWIN_STAT_ROLE 0 (3 - s.r .TWIN_STAT_ROLE)).inc .TWIN_CNT3_ROLE_CHANGES

/-- The bytes of the state copy of R373. -/
def joinBytes : Nat := 21233664

/-- The twin's bookkeeping as cycle c begins. How far the copy of a joining standby has come depends on the active's load; its
progress is free (log 30). -/
def State.twinTick (s : State) (c : Nat) : State :=
  if s.r .TWIN_STAT_ROLE = 0 then s
  else
    let s := s.flueLateTick (cycAdd c (Config.cycleModulus - 1))
    let s := if s.isStandby then s.epsTick else s
    let s := if s.twin.swapAt = some c then s.swapRoles else s
    let s := if s.isStandby && s.r .TWIN_STAT_SYNC == 1 && decide (joinBytes ≤ s.twin.copied) then (s.w .TWIN_STAT_SYNC 0 2).w .TWIN_STAT_JOIN_PCT 0 100
      else if s.isStandby && s.r .TWIN_STAT_SYNC == 1 then
        s.fresh.2.w .TWIN_STAT_JOIN_PCT 0 (min 99 (s.r .TWIN_STAT_JOIN_PCT + s.fresh.1 % 100))
      else s
    let recent (k : Nat) : Bool := decide (cycDiff c k ≤ 2)
    let owed := s.twin.lateOwed.filter (fun e => !recent e.2.1)
    let s := s.updTwin (fun t => { t with
      tickLate := false, lateNow := false, mine := t.mine.filter (fun d => recent d.1), theirs := t.theirs.filter (fun d => recent d.1)
      recs := t.recs.filter (fun d => recent d.1), sentIn := t.sentIn.filter (fun d => recent d.frame)
      lateOwed := t.lateOwed.filter (fun e => recent e.2.1) })
    let s := owed.foldl (fun u e => u.countLate e.1 e.2.1 e.2.2) s
    s.flueLoad

/-- TICK goes to the partner: 432 bytes, and what its marks take, which the manual does not state. -/
def State.sendTick (s : State) : State :=
  if !s.isActive then s
  else
    let (k, s) := if s.marksIn = [] then (0, s) else s.fresh
    s.flueSend (432 + k)

/-! The tick. -/

/-- Switches at tick c, while frame c is built: the decision, the switch itself, and the arming that fixes its tick (R79, R81). A
standby switches as the active's frames told it. -/
def State.switchAt (s : State) (c : Nat) : State :=
  if s.isStandby then (if s.rb .SW_STAT_ARMED && s.r .SW_CYCLE_CYCLE == c then s.doSwitch else s)
  else
  let s := if s.decisionDue c then s.decideSwitch c else s
  let s := if s.rb .SW_STAT_ARMED && s.head.armFrame.isSome && s.head.decided && s.r .SW_CYCLE_CYCLE == c then s.doSwitch else s
  if s.rb .SW_STAT_ARMED && s.head.armFrame.isNone then s.fixSwitch c (s.head.tickTb / t10 1) s.period else s

/-- Cycle c begins (R14). -/
def State.tickTo (s : State) (c period : Nat) : State :=
  let s := s.runTo (s.head.tickTb + t10 period)
  let was := s.cyclic
  let s := if was then (s.keeperMeans.countFrames c).makeTrailer c else s.countMail (cycAdd c (Config.cycleModulus - 1))
  let s := s.w .CYC_NOW_CYCLE 0 c
  let s := s.updHead (fun h => { h with tickTb := h.tickTb + t10 period, tickClk := s.clk, prevMode := s.mode, departed := [] })
  let s := s.switchAt c
  let s := if was then s else s.enterHead .cyclic
  let s := (s.correctTime c s.period).breakTick c
  let s := s.recsTick
  let s := { s with sram := s.sram.foldl (fun (t : Tbl SharedSram) (e : Nat × SharedSram) => Tbl.set {} t e.1 (e.2.age c)) [] }
  let s := (s.twinTick c).writeTables c
  let s := (s.armLag c).grateTick c
  let s := (s.acqTick c).acqRelease.emuTick.presentMarks
  ((s.mailTick c).sendFrame).sendTick

/-- The next cycle number. -/
def State.nextCycle (s : State) : Nat := cycAdd s.cycle 1

/-- The first tick of cyclic operation is due: in ROLL_CALL the pending switch has been decided for the next frame (R70, R81). -/
def State.startDue (s : State) : Bool :=
  s.headIs .rollCall && s.rb .SW_STAT_ARMED && s.head.armFrame.isSome && s.head.decided && s.r .SW_CYCLE_CYCLE == s.head.kCycle

/-- The tick of a cyclic ring, of the start of one, or its stop (R61). -/
def State.tick (s : State) : State :=
  if s.cyclic then (if s.head.stopping then (s.runTo (s.head.tickTb + t10 s.period)).goOff else s.tickTo s.nextCycle s.period)
  else if s.startDue then s.tickTo s.head.kCycle 25000
  else s

/-- TICK (R14): a tick boundary of a cyclic ring, or the one at which a ring becomes cyclic; time passes until it. -/
def execTick (s : State) : Host.Outcome State Fault Refusal := .next s.tick

/-- A kindling frame is built (R63, R67): its roll-call window is segment 0, its eight mailboxes carry 256 bytes each. -/
def State.kindleTo (s : State) : State :=
  let s := s.runTo (s.head.tickTb + t10 25000)
  let n := s.head.kCycle
  let s := s.countMail (cycAdd n (Config.cycleModulus - 1))
  let roll := s.headIs .rollCall
  let s := s.updHead (fun h => { h with
    tickTb := h.tickTb + t10 25000, tickClk := s.clk
    rollFrames := if roll then h.rollFrames + 1 else 0
    cleanRun := if roll && h.returned && !h.claimSeen then h.cleanRun + 1 else 0
    returned := false, claimSeen := false, kCycle := cycAdd n 1 })
  let s := if s.head.armFrame = some n ∧ s.r .SW_CYCLE_CYCLE = 0xFFFFFFFF then s.fixSwitch n (s.head.tickTb / t10 1) 25000 else s
  let s := if s.decisionDue n then s.decideSwitch n else s
  let s := if roll then s.assignOne else s
  (s.planMail n (some 0) ((List.range 8).map (fun k => (k + 1, 256)))).sendFrame

/-- KINDLING_TICK (R63): a multiple of 250 us of TB1 in KINDLE or ROLL_CALL. -/
def execKindlingTick (s : State) : Host.Outcome State Fault Refusal :=
  .next (if s.kindles then (if s.head.stopping then (s.runTo (s.head.tickTb + t10 25000)).goOff else if s.startDue then s.tick else s.kindleTo) else s)

/-- SWITCH_DECISION (R81): frame d is about to be built. -/
def execSwitchDecision (s : State) : Host.Outcome State Fault Refusal :=
  let d := if s.cyclic then s.nextCycle else s.head.kCycle
  .next (if (s.cyclic || s.kindles) && s.decisionDue d then s.decideSwitch d else s)

/-- SWITCH_TICK (R82): the tick at which a decided switch takes effect. -/
def execSwitchTick (s : State) : Host.Outcome State Fault Refusal :=
  .next (if s.startDue || (s.cyclic && s.rb .SW_STAT_ARMED && s.head.decided && s.r .SW_CYCLE_CYCLE == s.nextCycle) then s.tick else s)

end Sys2Proof.Machine
end

