-- ==== Sys2Proof/Machine/Field.lean ====
section
/-! DEFINITION. Sys2Proof/Machine/Field.lean: the field channels: samples, wire breaks, output faults, the field supplies, test pulses,
and the opcodes of Table 11.6. -/

namespace Sys2Proof.Machine

/-- The raw state under the thresholds of Table 11.2, in mV, with their hysteresis. -/
def rawState (mode : Nat) (was : Bool) (mv : Nat) : Bool :=
  let rise := if mode = 1 then 11000 else 9000
  let fall := if mode = 1 then 9000 else 7000
  if was then decide (fall < mv) else decide (rise ≤ mv)

/-- An input reference of a motion record names a local channel (Table 8.3). -/
def refNames (v c : Nat) : Bool := v % 256 == 0xFF && bits v 18 8 == c

/-- The axes whose motion record names a channel. -/
def State.axesNaming (s : State) (c : Nat) : List Nat :=
  (List.range 640).filter (fun a =>
    refNames (s.ru .motion a 48 4) c || refNames (s.ru .motion a 52 4) c || refNames (s.ru .motion a 56 4) c)

/-- A change of the filtered state is counted, and raised where the channel asks for it (R307). -/
def State.fieldChange (s : State) (c : Nat) (active : Bool) : State :=
  let s := (s.setFio .FIO_IN_STATE c active).inc .FIO_CH_CNT_CHANGES c
  if s.chFlag c 7 then s.raise .fieldChange else s

/-- A wire break (R308). -/
def State.wireBreak (s : State) (c : Nat) : State :=
  let s := (s.wb .FIO_CH_STAT_BREAK c true).inc .FIO_CH_CNT_BREAKS c
  let s := s.updChan c (fun x => { x with count := 0 })
  let s := if s.fioBit .FIO_IN_STATE c then s.fieldChange c false else s
  match s.axesNaming c with
  | [] => s.raise .fieldWirebreak
  | l => l.foldl (fun u a => u.setFault a 2 .fieldWirebreak) s

/-- One step of the up/down counter (R307, R218): the new count and filtered state. -/
def filterStep (limit count : Nat) (was raw : Bool) : Nat × Bool :=
  let n := if raw then min limit (count + 1) else count - 1
  (n, if n = limit then true else if n = 0 then false else was)

/-- The wire-break measurement of a sample (R308, R309): the state after it, and whether the filter takes the sample. -/
def State.wireSample (s : State) (c microAmps vfield : Nat) : State × Bool :=
  if !s.chFlag c 1 then (s, true)
  else if vfield < 18000 then (s, !s.rb .FIO_CH_STAT_BREAK c)
  else if microAmps < 300 then
    let n := min 255 ((s.chan c).breaks + 1)
    let s := s.updChan c (fun x => { x with breaks := n })
    if s.ru .field c 3 1 ≤ n ∧ s.rb .FIO_CH_STAT_BREAK c = false then (s.wireBreak c, false)
    else (s, !s.rb .FIO_CH_STAT_BREAK c)
  else ((s.updChan c (fun x => { x with breaks := 0 })).wb .FIO_CH_STAT_BREAK c false, true)

/-- A sample of an input (R304 to R309, R315): the pin in mV, the sink current in microamperes and VFIELD in mV. -/
def State.sampleInput (s : State) (c mv microAmps vfield : Nat) : State :=
  let raw := rawState (s.chMode c) (s.fioBit .FIO_RAW_RAW c) mv
  let s := (s.setFio .FIO_RAW_RAW c raw).w .FIO_CH_STAT_MEAS c (min 65535 microAmps)
  let s := s.w (if c < 12 then .FIO_SUPPLY_VF0 else .FIO_SUPPLY_VF1) 0 (min 255 (vfield / 200))
  let (s, take) := s.wireSample c microAmps vfield
  let src := s.ru .field c 10 1
  let excluded := s.chFlag c 6 && (decide (s.now0 < (s.chan c).exclude) ||
    match (s.chan src).pulse with | some p => p.off | none => false)
  if !take || excluded then s
  else
    let (n, active) := filterStep (s.ru .field c 2 1) (s.chan c).count (s.fioBit .FIO_IN_STATE c) raw
    let s := s.updChan c (fun x => { x with count := n })
    if active = s.fioBit .FIO_IN_STATE c then s else s.fieldChange c active

/-- FIELD_INPUT_SAMPLE: nothing happens on a channel that is no input of the host's. -/
def execFieldInputSample (ch : Fin 24) (mv microAmps vfield : Nat) (s : State) : Host.Outcome State Fault Refusal :=
  .next (if s.chIsInput ch.val && !s.rb .FIO_CH_STAT_OWNER ch.val then s.sampleInput ch.val mv microAmps vfield else s)

/-! Output faults (R311, R312): 1 SHORT, 2 THERMAL, 3 READBACK. -/

/-- An output fault: it turns off, counts and is raised; it latches, or pauses for 20 ms under RETRY. -/
def State.outFault (s : State) (c fault : Nat) : State :=
  let times := s.now0 :: ((s.chan c).faults.filter (fun t => s.now0 < t + msT 1000))
  let latch := fault == 3 || !s.chFlag c 3 || decide (8 ≤ times.length)
  let s := (s.w .FIO_CH_STAT_FAULT c fault).inc .FIO_CH_CNT2_OUT_FAULTS c
  let s := s.updChan c (fun x => { x with
    faults := if fault = 3 then x.faults else times
    retry := if latch then none else some (s.now0 + msT 20)
    pulse := x.pulse.map (fun p => { p with aborted := true }) })
  let s := if latch then s.wb .FIO_CH_STAT_LATCHED c true else s
  (s.setOut c false).raise .fieldOutFault

/-- FIELD_SHORT_TIMEOUT (R311): 200 microseconds in current limit. -/
def execFieldShortTimeout (ch : Fin 24) (s : State) : Host.Outcome State Fault Refusal :=
  .next (if s.fioBit .FIO_OUT_ON ch.val then s.outFault ch.val 1 else s)

/-- FIELD_THERMAL_TRIP (R311). -/
def execFieldThermalTrip (ch : Fin 24) (s : State) : Host.Outcome State Fault Refusal :=
  .next (if s.chMode ch.val == 3 && !s.rb .FIO_CH_STAT_LATCHED ch.val && (s.chan ch.val).retry.isNone then s.outFault ch.val 2 else s)

/-- FIELD_READBACK_SAMPLE (R311): the level of the pin; none is taken during a test pulse or within 50 microseconds of a
switching, and three in a row that disagree with the demand are a fault. -/
def execFieldReadbackSample (ch : Fin 24) (high : Bool) (s : State) : Host.Outcome State Fault Refusal :=
  let c := ch.val
  if s.chMode c != 3 || (s.chan c).pulse.isSome || decide (s.now0 < (s.chan c).switched + usT 50) then .next s
  else if high = s.fioBit .FIO_OUT_ON c then .next (s.updChan c (fun x => { x with readback := 0 }))
  else if s.rb .FIO_CH_STAT_LATCHED c then .next s
  else
    let n := (s.chan c).readback + 1
    let s := s.updChan c (fun x => { x with readback := n })
    if n < 3 then .next s
    else
      let stuck := high && !s.fioBit .FIO_OUT_ON c
      let s := (s.updChan c (fun x => { x with readback := 0 })).outFault c 3
      .next (if stuck then s.raise .fieldStuckOn else s)

/-- FIELD_RETRY_END (R312): after 20 ms the output follows its demand again. -/
def execFieldRetryEnd (ch : Fin 24) (s : State) : Host.Outcome State Fault Refusal :=
  let c := ch.val
  match (s.chan c).retry with
  | some t =>
    .next (if t ≤ s.now0 then ((s.updChan c (fun x => { x with retry := none, pulse := none })).w .FIO_CH_STAT_FAULT c 0).drive c else s)
  | none => .next s

/-- The channels of a group of twelve. -/
def groupChans (g : Nat) : List Nat := (List.range 12).map (· + 12 * g)

/-- FIELD_SUPPLY_UV (R313): VFIELD has stayed below 18.0 V for 1 ms; every output of the group is off. -/
def execFieldSupplyUv (group : Fin 2) (vfield : Nat) (s : State) : Host.Outcome State Fault Refusal :=
  if 18000 ≤ vfield then .next s
  else
    let s := if group.val = 0 then (s.wb .FIO_SUPPLY_UV0 0 true).w .FIO_SUPPLY_VF0 0 (vfield / 200)
      else (s.wb .FIO_SUPPLY_UV1 0 true).w .FIO_SUPPLY_VF1 0 (vfield / 200)
    .next ((groupChans group.val).foldl (fun u c => u.drive c) s)

/-- FIELD_SUPPLY_RECOVER (R313): it has stayed above 19.0 V for 10 ms. -/
def execFieldSupplyRecover (group : Fin 2) (vfield : Nat) (s : State) : Host.Outcome State Fault Refusal :=
  if vfield ≤ 19000 then .next s
  else
    let s := if group.val = 0 then (s.wb .FIO_SUPPLY_UV0 0 false).w .FIO_SUPPLY_VF0 0 (min 255 (vfield / 200))
      else (s.wb .FIO_SUPPLY_UV1 0 false).w .FIO_SUPPLY_VF1 0 (min 255 (vfield / 200))
    .next ((groupChans group.val).foldl (fun u c => u.drive c) s)

/-! Test pulses (R314 to R316). -/

/-- TEST_PULSE_START (R314): an off-test with demand on, an on-test with demand off and TP_ON. -/
def execTestPulseStart (ch : Fin 24) (s : State) : Host.Outcome State Fault Refusal :=
  let c := ch.val
  let period := msT (s.ru .field c 8 2)
  let width := usT (s.ru .field c 6 2)
  let due := decide ((s.now0 + period - msT (c % s.ru .field c 8 2)) % period < clockWindow)
  if !(s.chFlag c 4 && s.chAllowed c && (s.chan c).pulse.isNone && due) then .next s
  else
    let begin (off : Bool) : State :=
      (s.updChan c (fun x => { x with pulse := some { start := s.now0, stop := s.now0 + width, off := off } })).setOut c (!off)
    .next (if s.chDemand c then begin true else if s.chFlag c 5 then begin false else s)
where
  /-- One system clock in 2^-16 ns, at the nominal increment. -/
  clockWindow : Nat := 81920

/-- A failed check of a channel (R314): two in a row are a READBACK fault of an output. -/
def State.checkFailed (s : State) (c : Nat) : State :=
  let n := (s.chan c).checks + 1
  let s := ((s.wb .FIO_CH_STAT_TP_FAIL c true).inc .FIO_CH_CNT2_TP_FAILS c).raise .fieldTpFail
  if n = 2 then
    let s := s.updChan c (fun x => { x with checks := 0 })
    if s.chMode c = 3 then s.outFault c 3 else s.w .FIO_CH_STAT_FAULT c 3
  else s.updChan c (fun x => { x with checks := n })

/-- TEST_PULSE_CHECK (R314, R315): at TP_WIDTH - 20 microseconds the output, or an input that takes its power from it, is
read; an aborted pulse is not checked. -/
def execTestPulseCheck (ch : Fin 24) (high : Bool) (s : State) : Host.Outcome State Fault Refusal :=
  let c := ch.val
  let live (o : Nat) : Option Pulse := (s.chan o).pulse.filter (fun p => !p.aborted)
  if s.chMode c = 3 then
    match live c with
    | some p => .next (if high = p.off then s.checkFailed c else s.updChan c (fun x => { x with checks := 0 }))
    | none => .next s
  else if s.chIsInput c && s.chFlag c 6 then
    match live (s.ru .field c 10 1) with
    | some p => .next (if p.off && high then s.checkFailed c else s.updChan c (fun x => { x with checks := 0 }))
    | none => .next s
  else .next s

/-- TEST_PULSE_END (R314 to R316): at the scheduled end the output goes to its demand, and the inputs it powers stay excluded
for 100 microseconds more. -/
def execTestPulseEnd (ch : Fin 24) (s : State) : Host.Outcome State Fault Refusal :=
  let c := ch.val
  match (s.chan c).pulse with
  | some p =>
    if p.stop ≤ s.now0 then
      let s := (s.updChan c (fun x => { x with pulse := none })).drive c
      .next (if p.off then (List.range 24).foldl (fun u i =>
        if u.chIsInput i && u.chFlag i 6 && u.ru .field i 10 1 == c then u.updChan i (fun x => { x with exclude := s.now0 + usT 100 })
        else u) s else s)
    else .next s
  | none => .next s

/-! Configuration (R302, R305, R315, R318). -/

/-- Flags fit the mode: output flags RETRY, TP_EN and TP_ON; input flags PULSED, WB_EN, SCLK, TP_CHECK and EVENT (R318). -/
def fieldFlagsFit (mode flags : Nat) : Bool :=
  match mode with
  | 0 => flags == 0
  | 3 => flags &&& 0xC7 == 0
  | _ => flags &&& 0x38 == 0

/-- Put a channel record in force. -/
def State.fieldApply (s : State) (c : Nat) (b : List Byte) : State := (s.recSet .field c b).w .FIO_CH_STAT_MODE c (fld b 0 1)

/-- The channel turns OFF: its output and its input state go. -/
def State.fieldOff (s : State) (c : Nat) : State :=
  let s := (s.w .FIO_CH_STAT_MODE c 0).setFio .FIO_OUT_ON c false
  ((s.setFio .FIO_IN_STATE c false).wb .FIO_CH_STAT_BREAK c false).updChan c (fun x => { x with
    host := false, count := 0, breaks := 0, readback := 0, checks := 0, retry := none, pulse := none })

/-- Take a new record: a change of MODE passes through OFF for 100 microseconds. -/
def State.fieldSet (s : State) (c : Nat) (b : List Byte) : State :=
  if fld b 0 1 = s.ru .field c 0 1 ∧ (s.chan c).change.isNone then s.fieldApply c b
  else
    let s := (s.recSet .field c b).fieldOff c
    s.updChan c (fun x => { x with change := some (s.now0 + usT 100, b) })

/-- FIELD_MODE_OFF_END (R318): the 100 microseconds are over and the new MODE takes effect. -/
def execFieldModeOffEnd (ch : Fin 24) (s : State) : Host.Outcome State Fault Refusal :=
  let c := ch.val
  match (s.chan c).change with
  | some (t, b) => .next (if t ≤ s.now0 then (s.updChan c (fun x => { x with change := none })).fieldApply c b else s)
  | none => .next s

/-- The record a FIELD_CONFIG_SET asks for: zero fields keep the present values (R318). -/
def State.fieldRecord (s : State) (p : Pkt) : List Byte :=
  let old := s.cfg .field (p.u 0 1)
  [(2, 1), (3, 1), (4, 2), (6, 2), (8, 2)].foldl (fun b f => keepZero old b f.1 f.2) (slice p.params 4 16)

/-- The resource of a channel (Table 14.2). -/
def chanRes (c : Nat) : Nat := 0x600 + c

/-- FIELD_CONFIG_SET. -/
def execFieldConfigSet (p : Pkt) (s : State) : Host.Outcome State Fault Refusal :=
  let c := p.u 0 1
  let b := s.fieldRecord p
  let src := fld b 10 1
  .next (hostCmd 0x0601 p s
    { plen := p.len == 20, need := .owns (decide (c < 24)) [chanRes c], fwd := true,
      checks :=
        [(decide (p.u 1 1 < 2) && zeroBytes p.params 2 2 && decide (fld b 0 1 < 4) && decide (10 ≤ fld b 4 2) &&
            decide (fld b 4 2 ≤ 10000) && decide (50 ≤ fld b 6 2) && decide (fld b 6 2 ≤ 1000) && decide (src < 24) &&
            (fld b 11 1 == 0 || fld b 11 1 == 2) && decide (fld b 12 2 < 640) && zeroBytes b 14 2, .badParam),
         (fieldFlagsFit (fld b 0 1) (fld b 1 1), .badParam),
         (!bit (fld b 1 1) 6 || (s.ru .field src 0 1 == 3 && s.chFlag src 4), .badParam),
         (!s.rb .FIO_CH_STAT_OWNER c, .badState),
         (!(bit (fld b 1 1) 2 && !s.chFlag c 2) || (s.axesNaming c).isEmpty, .badState)] }
    fun s => ((s.fieldSet c b).recFlash .field c b (bit (p.u 1 1) 0), []))

/-- FIELD_CONFIG_GET. -/
def execFieldConfigGet (p : Pkt) (s : State) : Host.Outcome State Fault Refusal :=
  let c := p.u 0 1
  .next (hostCmd 0x0602 p s { plen := p.len == 1, checks := [(decide (c < 24), .badParam)] } fun s => (s, s.cfg .field c))

/-- The channels of a mask. -/
def maskChans (m : Nat) : List Nat := (List.range 32).filter (fun c => bit m c)

/-- FIELD_OUT_SET (R310): the host values of the channels in MASK. -/
def execFieldOutSet (p : Pkt) (s : State) : Host.Outcome State Fault Refusal :=
  let m := p.u 0 4
  let v := p.u 4 4
  .next (hostCmd 0x0603 p s
    { plen := p.len == 8, need := .owns (decide (m < 2 ^ 24)) ((maskChans m).map chanRes),
      checks := [((maskChans m).all (fun c => s.ru .field c 0 1 == 3 && !s.rb .FIO_CH_STAT_OWNER c), .badState)] }
    fun s =>
      ((maskChans m).foldl (fun u c =>
        let u := u.updChan c (fun x => { x with host := bit v c && !(u.ru .field c 11 1 == 2 && decide (3 ≤ u.fc (u.ru .field c 12 2))) })
        if bit v c then u.drive c else u.driveOff c) s, []))

/-- FIELD_OUT_CLEAR (R312). -/
def execFieldOutClear (p : Pkt) (s : State) : Host.Outcome State Fault Refusal :=
  let c := p.u 0 1
  .next (hostCmd 0x0604 p s
    { plen := p.len == 1, need := .owns (decide (c < 24)) [chanRes c], checks := [(!s.rb .FIO_CH_STAT_OWNER c, .badState)] }
    fun s =>
      if s.rb .FIO_CH_STAT_LATCHED c then
        ((((s.wb .FIO_CH_STAT_LATCHED c false).w .FIO_CH_STAT_FAULT c 0).updChan c
          (fun x => { x with faults := [], pulse := none })).drive c, [])
      else (s, []))

end Sys2Proof.Machine
end

