-- ==== Sys2Proof/Machine/Host.lean ====
section
/-! DEFINITION. Sys2Proof/Machine/Host.lean: sessions, leases, departure, ownership and the device opcodes (R376 to R386, R402 to R405,
R471). -/

namespace Sys2Proof.Machine

/-! Departure (R386). -/

/-- What stays of a context when its session ends: the SESSION values it has used and the unconsumed event-ring entries. -/
def Ctx.closed (x : Ctx) : Ctx := { used := x.used, ring := x.ring.map (fun _ => none) }

/-- The ON_DEPART action of a resource (Table 14.3). -/
def State.departAction (s : State) (id mode : Nat) : State :=
  if id < 0x280 then (if mode = 2 then s else s.setFault id (mode + 1) .hostLost)
  else if id < 0x288 then (if mode = 2 then s else s.queueMotion id (.stop (mode == 1)))
  else if 0x400 ≤ id ∧ id < 0x420 then (if mode = 2 then s else s.acqStop (id - 0x400) 1)
  else if 0x508 ≤ id ∧ id < 0x510 then (if mode = 2 then s else s.toutConfig (id - 0x508) (s.toutIdle (id - 0x508)))
  else if 0x600 ≤ id then
    (if mode = 2 then s else (s.updChan (id - 0x600) (fun x => { x with host := false })).driveOff (id - 0x600))
  else s

/-- The claims of a context, in the order of their identifiers, with their ON_DEPART. -/
def State.claimsOf (s : State) (c : Nat) : List (Nat × Nat) :=
  s.claims.filterMap (fun (e : Nat × Option Claim) =>
    match e.2 with
    | some k => if k.ctx = c then some (e.1, k.onDepart) else none
    | none => none)

/-- Release every claim of a context. -/
def State.dropClaims (s : State) (c : Nat) : State :=
  { s with claims := s.claims.filter (fun (e : Nat × Option Claim) => !(match e.2 with | some k => k.ctx == c | none => false)) }

/-- End the safety session of a context (R348). -/
def State.safeEnd (s : State) (c : Nat) : State :=
  if s.rb .SAF_STAT_SESSION && s.r .SAF_STAT_SESSION_CTX == c then (s.wb .SAF_STAT_SESSION 0 false).w .SAF_STAT_SESSION_CTX 0 0 else s

/-- A session departs (R386, SESSION_DEPART). -/
def State.endSession (s : State) (c : Nat) : State :=
  if !(s.ctx c).isOpen then s
  else
    let claims := s.claimsOf c
    let s := (s.dropClaims c).updCtx c Ctx.closed
    let s := { s with cfgLease := if s.cfgLease = some c then none else s.cfgLease }
    let s := claims.foldl (fun t k => t.departAction k.1 k.2) s
    let s := (s.safeEnd c).dropUpdate c
    let s := [0, 1].foldl (fun t q => if t.rb .PTP_STAT_BOUND q && t.r .PTP_STAT_OWNER q == c then t.ptpUnbind q else t) s
    s.raise .hostLeft

/-- LEASE_EXPIRY (R381, R382). -/
def execLeaseExpiry (ctx : Fin 8) (s : State) : Host.Outcome State Fault Refusal :=
  .next (if s.hmpRun && decide ((s.ctx ctx.val).leaseEnd ≤ s.now0) then s.endSession ctx.val else s)

/-! Opening and resuming (R378 to R380). -/

/-- A login-table entry admits a HOST_ID from a source address, an IPv6 address as a number of 128 bits (Table 14.9). -/
def loginAdmits (b : List Byte) (hostId addr : Nat) : Bool :=
  fld b 0 8 == hostId && hostId != 0 && beNat (slice b 12 16) / 2 ^ (128 - fld b 9 1) == addr / 2 ^ (128 - fld b 9 1)

/-- The rights of a UDP login, by the first entry that admits it; with an empty table CONFIG, CLAIM and UPDATE, and none for HC7
(R378). -/
def State.udpRights (s : State) (hostId addr ctxReq : Nat) : Option Nat :=
  let entries := ((List.range 16).map (fun i => s.cfg .loginTable i)).filter (fun b => fld b 0 8 != 0)
  if entries.isEmpty then (if ctxReq = 7 then none else some 7)
  else
    match entries.find? (fun b => loginAdmits b hostId addr) with
    | none => none
    | some b => if ctxReq = 7 && !bit (fld b 8 1) 3 then none else some (fld b 8 1)

/-- The live session that a LOGIN with RESUME finds (R380). -/
def State.resumable (s : State) (p : Pkt) : Option Nat :=
  if !bit (p.u 12 1) 0 then none
  else
    (match p.port with
      | .pcie0 => [0]
      | .pcie1 => [1]
      | .sspi => [6]
      | _ => [2, 3, 4, 5, 7]).find? (fun c =>
        (s.ctx c).isOpen && !s.twinPath c && (s.ctx c).hostId == p.u 0 8 && decide (s.now0 < (s.ctx c).leaseEnd))

/-- The context of a LOGIN that opens a session, or why there is none (R379). -/
def State.loginCtx (s : State) (p : Pkt) : Except Status Nat :=
  match p.port with
  | .pcie0 => .ok 0
  | .pcie1 => .ok 1
  | .sspi => .ok 6
  | _ =>
    let q := p.u 13 1
    if q = 0xFF then
      match [2, 3, 4, 5].find? (fun c => !(s.ctx c).isOpen) with
      | some c => .ok c
      | none => .error .refusedFull
    else if s.twinPath q || ((s.ctx q).isOpen && (s.ctx q).hostId != p.u 0 8) then .error .badState
    else .ok q

/-- A SESSION value: free, nonzero, and none of the context's last 16 (R379). -/
def State.newSession (s : State) (c : Nat) : Nat × State :=
  let (v, s) := s.fresh
  let pick := ((List.range 18).map (fun i => (v + i) % 2 ^ 32)).find? (fun n => n != 0 && !(s.ctx c).used.contains n)
  (pick.getD 0, s)

/-- The reply of LOGIN (Table 14.13). -/
def Ctx.loginReply (x : Ctx) (c : Nat) (resumed : Bool) : List Byte :=
  le 1 c ++ le 1 (b2n resumed) ++ le 2 x.nextSeq ++ le 4 x.session ++ le 2 x.lastSeq ++ le 2 x.evNext ++
    le 2 ((x.events.head?.map (fun e => e.seq)).getD x.evNext) ++ le 1 x.rights ++ [0]

/-- Send every held event of a context again, oldest first (R380, R391). -/
def State.resendEvents (s : State) (c : Nat) : State :=
  if c < 2 then (s.updCtx c (fun x => { x with toSend := x.events.map (fun e => e.seq) })).pumpEvents c 512
  else if c = 6 then s
  else
    let x := s.ctx c
    let s := s.updCtx c (fun y => { y with evSent := s.now0 })
    { s with sent := match x.events.getLast? with | some e => some (x.eventPacket c e) | none => s.sent }

/-- Open a session (R379). -/
def State.openSession (s : State) (p : Pkt) (c rights : Nat) : State :=
  let s := s.endSession c
  let s := if p.port.eth.isSome then
      [0, 1, 2, 3, 4, 5, 6, 7].foldl (fun t d => if (t.ctx d).hostId = p.u 0 8 && !t.twinPath d then t.endSession d else t) s
    else s
  let s := s.raise .hostJoin
  let (v, s) := s.newSession c
  let s := s.updCtx c (fun x =>
    { isOpen := true, session := v, used := (v :: x.used).take 16, ring := x.ring, hostId := p.u 0 8, rights := rights,
      leaseMs := p.u 8 2, leaseEnd := s.now0 + msT (p.u 8 2), nextSeq := (p.seq + 1) % 65536, lastSeq := p.seq,
      evPort := p.u 10 2, port := p.port, addr := p.addr, udpPort := p.udpPort })
  s.emit (replyPacket p p.ctx 0x0001 .ok ((s.ctx c).loginReply c false))

/-- Resume a session, once every command accepted under it has executed (R380). -/
def State.resumeSession (s : State) (p : Pkt) (c rights : Nat) : State :=
  let (v, s) := s.newSession c
  let s := s.updCtx c (fun x =>
    { x with
      session := v, used := (v :: x.used).take 16, rights := rights, leaseMs := p.u 8 2, leaseEnd := s.now0 + msT (p.u 8 2)
      nextSeq := (p.seq + 1) % 65536, history := [], evPort := p.u 10 2, port := p.port, addr := p.addr, udpPort := p.udpPort
      resuming := false })
  (s.emit (replyPacket p p.ctx 0x0001 .ok ((s.ctx c).loginReply c true))).resendEvents c

/-- The rights of a LOGIN by its port (Table 14.1), if it is admitted. -/
def State.loginRights (s : State) (p : Pkt) (ctxReq : Nat) : Option Nat :=
  if p.port.eth.isSome then s.udpRights (p.u 0 8) p.addr ctxReq else some 7

/-- LOGIN (R379, R380): a resuming LOGIN waits behind the commands already accepted. -/
def execLogin (p : Pkt) (s : State) : Host.Outcome State Fault Refusal :=
  .next (if p.port = .flue then s else
    match s.take p with
    | none => s
    | some s =>
      let refuse (st : Status) : State := s.emit (replyPacket p p.ctx 0x0001 st [])
      let q := p.u 13 1
      if p.session ≠ 0 then refuse .noSession
      else if p.len ≠ 14 then refuse .badParam
      else if p.u 8 2 < 10 ∨ 60000 < p.u 8 2 ∨ 2 ≤ p.u 12 1 then refuse .badParam
      else if p.port.eth.isSome && !(q = 0xFF || (decide (2 ≤ q) && decide (q ≤ 5)) || q = 7) then refuse .badParam
      else
        match s.resumable p with
        | some c =>
          match s.loginRights p c with
          | none => refuse .authFail
          | some rights =>
            if (s.ctx c).busy then s.updCtx c (fun x => { x with held := x.held ++ [(0x0001, p)], resuming := true })
            else s.resumeSession p c rights
        | none =>
          match s.loginCtx p with
          | .error st => refuse st
          | .ok c =>
            match s.loginRights p q with
            | none => refuse .authFail
            | some rights => s.openSession p c rights)

/-- LOGOUT (R381): answers, then departs. -/
def execLogout (p : Pkt) (s : State) : Host.Outcome State Fault Refusal :=
  .next (hostCmd 0x0002 p s { plen := p.len == 0, after := fun s => s.endSession p.ctx } fun s => (s, []))

/-- KEEPALIVE (R381). -/
def execKeepalive (p : Pkt) (s : State) : Host.Outcome State Fault Refusal :=
  .next (hostCmd 0x0003 p s { plen := p.len == 0 } fun s => (s, []))

/-- SEQ_GET. -/
def execSeqGet (p : Pkt) (s : State) : Host.Outcome State Fault Refusal :=
  .next (hostCmd 0x0004 p s { plen := p.len == 0 } fun s =>
    let x := s.ctx p.ctx
    (s, le 2 x.nextSeq ++ le 2 x.lastSeq ++ le 2 x.evNext ++ le 2 ((x.events.head?.map (fun e => e.seq)).getD x.evNext)))

/-- EVENT_MASK_SET (R402). -/
def execEventMaskSet (p : Pkt) (s : State) : Host.Outcome State Fault Refusal :=
  .next (hostCmd 0x0005 p s { plen := p.len == 4, checks := [(bits (p.u 0 2) 14 11 == 0 && zeroBytes p.params 2 2, .badParam)] }
    fun s => (s.updCtx p.ctx (fun x => { x with mask := p.u 0 2 }), []))

/-! The device record (Table 14.10). -/

/-- A context is free: no session and no twin path. -/
def State.ctxFree (s : State) (c : Nat) : Bool := !(s.ctx c).isOpen && !s.twinPath c

/-- The 48 bytes of the device record. -/
def State.deviceRecord (s : State) : List Byte :=
  le 8 (s.fuse .serial) ++ [0x44, 0x53, 0x31, 0x32, 0x38, 0, 0, 0] ++ le 4 (s.fwVersion 0) ++ le 1 (s.r .TWIN_STAT_ROLE) ++
    le 1 (s.r .TWIN_STAT_SYNC) ++ le 1 (s.r .RK_STAT_STATE) ++
    le 1 (((List.range 8).filter s.ctxFree).foldl (fun v c => v + 2 ^ c) 0) ++ le 4 s.cycle ++
    le 1 (s.r .ETH_STAT_LINK 0 + 2 * s.r .ETH_STAT_LINK 1) ++ le 1 s.addressSet ++ be 6 (s.fuse .mac0) ++ le 12 0

/-- DISCOVER (R403): answered from any source, at most once per source address in 100 ms. -/
def execDiscover (p : Pkt) (s : State) : Host.Outcome State Fault Refusal :=
  .next (if p.port = .flue then s else
    match s.take p with
    | none => s
    | some s =>
      let last := Tbl.get 0 s.discovered p.addr
      if last ≠ 0 ∧ s.now0 + 1 < last + msT 100 then s
      else
        let s := { s with discovered := Tbl.set 0 s.discovered p.addr (s.now0 + 1) }
        if p.len ≠ 0 then s.emit (replyPacket p p.ctx 0 .badParam []) else s.emit (replyPacket p p.ctx 0 .ok s.deviceRecord))

/-- DEVICE_INFO_GET. -/
def execDeviceInfoGet (p : Pkt) (s : State) : Host.Outcome State Fault Refusal :=
  .next (hostCmd 0x0006 p s { plen := p.len == 0 } fun s => (s, s.deviceRecord))

/-- A record of HOSTS_GET. -/
def State.hostRecord (s : State) (c : Nat) : List Byte :=
  let x := s.ctx c
  le 1 c ++ le 1 (if s.twinPath c then 2 else b2n x.isOpen) ++ le 1 (if s.twinPath c then 7 else x.rights) ++ le 1 (b2n (s.cfgLease == some c)) ++
    le 2 x.leaseMs ++ le 2 (s.claimsOf c).length ++ le 8 x.hostId ++ be 16 x.addr

/-- HOSTS_GET. -/
def execHostsGet (p : Pkt) (s : State) : Host.Outcome State Fault Refusal :=
  .next (hostCmd 0x0007 p s { plen := p.len == 0 } fun s => (s, (List.range 8).flatMap s.hostRecord))

/-! Ownership (R383 to R385). -/

/-- The identifiers that CLAIM and RELEASE name. -/
def claimIds (p : Pkt) : List Nat := (List.range (p.u 0 2)).map (fun k => p.u (4 + 2 * k) 2)

/-- CLAIM (R384). -/
def execClaim (p : Pkt) (s : State) : Host.Outcome State Fault Refusal :=
  let ids := claimIds p
  .next (hostCmd 0x0008 p s
    { plen := decide (4 ≤ p.len) && p.len == 4 + 2 * p.u 0 2, right := some 1, need := .claim ids,
      checks :=
        [(decide (p.u 0 2 ≤ 818) && decide (p.u 2 1 ≤ 2) && p.u 3 1 == 0, .badParam),
         (ids.all (fun id => !(decide (0x600 ≤ id) && s.rb .FIO_CH_STAT_OWNER (id - 0x600))), .badState)] }
    fun s => ({ s with claims := ids.foldl (fun t id => Tbl.set none t id (some { ctx := p.ctx, onDepart := p.u 2 1 })) s.claims }, []))

/-- RELEASE (R384). -/
def execRelease (p : Pkt) (s : State) : Host.Outcome State Fault Refusal :=
  let ids := claimIds p
  .next (hostCmd 0x0009 p s
    { plen := decide (4 ≤ p.len) && p.len == 4 + 2 * p.u 0 2, need := .owns true ids, checks := [(zeroBytes p.params 2 2, .badParam)] }
    fun s => ({ s with claims := ids.foldl (fun t id => Tbl.set none t id none) s.claims }, []))

/-- CLAIMS_GET. -/
def execClaimsGet (p : Pkt) (s : State) : Host.Outcome State Fault Refusal :=
  let c := p.u 0 1
  .next (hostCmd 0x000A p s { plen := p.len == 1, checks := [(decide (c < 8), .badParam)] } fun s =>
    let l := s.claimsOf c
    (s, le 2 l.length ++ [0, 0] ++ l.flatMap (fun k => le 2 k.1 ++ le 1 k.2 ++ [0])))

/-- CONFIG_LEASE (R385). -/
def execConfigLease (p : Pkt) (s : State) : Host.Outcome State Fault Refusal :=
  let take := p.u 0 1
  let c := p.ctx
  .next (hostCmd 0x000B p s
    { plen := p.len == 1, right := if take = 1 then some 0 else none,
      checks := [(decide (take < 2), .badParam), (take == 0 || s.cfgLease == none || s.cfgLease == some c, .badState)] }
    fun s => ({ s with cfgLease := if take = 1 then some c else if s.cfgLease = some c then none else s.cfgLease }, []))

/-! FAULT_CLEAR (R9, R471). -/

/-- The node of an axis, 0 for none. -/
def State.axisNode (s : State) (a : Nat) : Nat :=
  if a < 128 then (if s.rb .SV_STAT_BOUND a then s.r .SV_BIND_ADDR a else 0) else if a < 640 then s.ru .stepBind (a - 128) 0 1 else 0

/-- A standing cause has not gone (Table 0.8); every other cause is momentary. -/
def State.causeStands (s : State) (a : Nat) (e : Ev) : Bool :=
  match e with
  | .lateLimit => s.r .AX_LATE_CONSEC a != 0
  | .encFault => s.rb .FB_STAT_BRIDGED a || !(s.fb a).stepOk
  | .commFault => (s.fb a).hallBad != 0
  | .psUndervolt => bits (s.servo a).ps 5 3 != 0
  | .psOvertemp => bit (s.servo a).ps 6
  | .motorHot =>
    (match (s.servo a).heat with
     | none => false
     | some h => decide ((s.svu a 54 1 * 65536 : Int) ≤ h))
  | .instantDrift => decide (s.r .TK_DRIFT_DRIFT_LIMIT ≤ s.r .NODE_DRIFT_CONSEC (s.axisNode a))
  | .fieldWirebreak => (List.range 24).any (fun c => s.rb .FIO_CH_STAT_BREAK c && (s.axesNaming c).contains a)
  | .stepOvercurrent => bit (s.stepper (a - 128)).stat 0
  | .stepOvertemp => bit (s.stepper (a - 128)).stat 1
  | .stepOpenPhase => bit (s.stepper (a - 128)).stat 2
  | _ => false

/-- Clear every pending cause of FC0 to FC3 (R471) and raise FAULT_CLEARED. -/
def State.clearFaults (s : State) (a : Nat) : State :=
  if (s.axis a).causes = [] ∧ s.fc a = 0 then s
  else
    let u := s.updAxis a (fun x => { x with fc := 0, causes := [] })
    (if 3 ≤ s.fc a then u.leaveInhibit a else u).raise .faultCleared 0 1 a

/-- FAULT_CLEAR. -/
def execFaultClear (p : Pkt) (s : State) : Host.Outcome State Fault Refusal :=
  let a := p.u 0 2
  .next (hostCmd 0x000C p s
    { plen := p.len == 2, need := .owns (decide (a < 648)) [a],
      checks := [(s.fc a != 4 && (s.axis a).causes.all (fun k => !s.causeStands a k.1), .badState)] }
    fun s => (s.clearFaults a, []))

/-! Network records and the login table (R378, R398). -/

/-- A network record is inside Table 14.8. -/
def netOk (b : List Byte) : Bool :=
  decide (fld b 0 1 < 8) && decide (fld b 1 1 ≤ 32) && decide (fld b 2 2 ≤ 4094) && decide (fld b 12 1 ≤ 128) && zeroBytes b 14 2

/-- NET_CONFIG_SET. -/
def execNetConfigSet (p : Pkt) (s : State) : Host.Outcome State Fault Refusal :=
  let i := p.u 0 1 * 2 + p.u 1 1
  let b := slice p.params 4 32
  .next (hostCmd 0x000F p s
    { plen := p.len == 36, need := .lease, fwd := true,
      checks := [(decide (p.u 0 1 < 2) && decide (p.u 1 1 < 2) && decide (p.u 2 1 < 2) && p.u 3 1 == 0 && netOk b, .badParam)] }
    fun s => ((s.recSet .net i b).recFlash .net i b (bit (p.u 2 1) 0), []))

/-- NET_CONFIG_GET. -/
def execNetConfigGet (p : Pkt) (s : State) : Host.Outcome State Fault Refusal :=
  .next (hostCmd 0x0010 p s { plen := p.len == 2, checks := [(decide (p.u 0 1 < 2) && decide (p.u 1 1 < 2), .badParam)] }
    fun s => (s, s.cfg .net (p.u 0 1 * 2 + p.u 1 1)))

/-- A login-table entry is inside Table 14.9, or all zero. -/
def loginEntryOk (b : List Byte) : Bool :=
  zeroBytes b 0 32 ||
    (fld b 0 8 != 0 && decide (fld b 8 1 < 16) && decide (fld b 9 1 ≤ 128) && zeroBytes b 10 2 && zeroBytes b 28 4)

/-- LOGIN_TABLE_SET. -/
def execLoginTableSet (p : Pkt) (s : State) : Host.Outcome State Fault Refusal :=
  let i := p.u 0 1
  let b := slice p.params 4 32
  .next (hostCmd 0x0011 p s
    { plen := p.len == 36, need := .lease, fwd := true,
      checks := [(decide (i < 16) && decide (p.u 1 1 < 2) && zeroBytes p.params 2 2 && loginEntryOk b, .badParam)] }
    fun s => ((s.recSet .loginTable i b).recFlash .loginTable i b (bit (p.u 1 1) 0), []))

/-- LOGIN_TABLE_GET. -/
def execLoginTableGet (p : Pkt) (s : State) : Host.Outcome State Fault Refusal :=
  .next (hostCmd 0x0012 p s { plen := p.len == 0 } fun s => (s, (List.range 16).flatMap (fun i => s.cfg .loginTable i)))

end Sys2Proof.Machine
end

