-- ==== Sys2Proof/Machine/HostPorts.lean ====
section
/-! DEFINITION. Sys2Proof/Machine/HostPorts.lean: what the ports do beside taking commands: packets that no command comes of (R388),
events sent again (R391), the endpoint queues (R396, R397), the Ethernet ports (R398, R399, R403) and SSPI (R400). -/

namespace Sys2Proof.Machine

/-! Packets that fail (R388, R393, R396). -/

/-- BAD_PACKET (R388): on Ethernet and SSPI a failing packet is discarded and counted; on PCIe the entry is consumed and answered BAD_PARAM
with its SEQ and OPCODE, E standing (R396), and a bad CRC is ignored. A packet with an opcode outside the index is answered after SESSION
and SEQ (R393). -/
def execBadPacket (p : Pkt) (op : Nat) (why : PacketFault) (s : State) : Host.Outcome State Fault Refusal :=
  .next (
    match why with
    | .opcode => hostCmd op p s { plen := true, known := false } fun s => (s, [])
    | _ =>
      match p.port with
      | .pcie0 | .pcie1 =>
        if why = .crc then s
        else match s.take p with
          | none => s
          | some s => s.emit (replyPacket p p.ctx op .badParam [])
      | .eth0 | .eth1 =>
        let e := p.port.eth.getD 0
        if !s.rb .ETH_STAT_LINK e then s else if why = .crc then s.inc .ETH_ERR_CRC_ERR e else s.inc .ETH_ERR_BAD_FRAME e
      | .sspi => if s.sspiRx then { s with sspiRx := false, sspiDrops := s.sspiDrops + 1 } else s
      | .flue => s.inc .TWIN_CNT2_FLUE_ERR)

/-- EVENT_RESEND (R391): the oldest held event of a UDP session has waited 50 ms, and they were last sent 50 ms ago. -/
def execEventResend (ctx : Fin 8) (s : State) : Host.Outcome State Fault Refusal :=
  let x := s.ctx ctx.val
  .next (
    match x.events with
    | e :: _ =>
      if x.isOpen && x.port.eth.isSome && decide (max e.time x.evSent + msT 50 ≤ s.now0) then s.resendEvents ctx.val else s
    | [] => s)

/-! The endpoint queues (R396, R397). -/

/-- COMMAND_DOORBELL: Q_PROD_0; the commands of the new entries follow as room allows (R396), and the lease restarts (R381). -/
def execCommandDoorbell (endpoint : Fin 2) (index : Nat) (s : State) : Host.Outcome State Fault Refusal :=
  let e := endpoint.val
  let s := s.w .Q_PROD_IDX (e * 3) index
  .next (if (s.ctx e).isOpen then s.restartLease e else s)

/-- REPLY_RING_CONSUME: Q_CONS_1 frees reply entries. -/
def execReplyRingConsume (endpoint : Fin 2) (index : Nat) (s : State) : Host.Outcome State Fault Refusal :=
  .next (s.w .Q_CONS_IDX (endpoint.val * 3 + 1) index)

/-- EVENT_RING_CONSUME: advancing Q_CONS_2 past events acknowledges them (R391) and makes room for more. -/
def execEventRingConsume (endpoint : Fin 2) (index : Nat) (s : State) : Host.Outcome State Fault Refusal :=
  let e := endpoint.val
  let n := (index + 65536 - s.r .Q_CONS_IDX (e * 3 + 2)) % 65536
  let gone := ((s.ctx e).ring.take n).filterMap (fun q => q)
  let s := s.updCtx e (fun x => { x with ring := x.ring.drop n, events := x.events.filter (fun ev => !gone.contains ev.seq) })
  .next ((s.w .Q_CONS_IDX (e * 3 + 2) index).pumpEvents e 512)

/-- Rings stop with an error (R396): vector 3. -/
def State.ringError (s : State) (e : Nat) : State :=
  (((s.wb .CTX_CTRL_ENABLE e false).wb .CTX_STAT_RUN e false).wb .CTX_STAT_ERR e true).msi e 3

/-- CTX_ENABLE: ENABLE is written; rings start where every Q_SIZE is 2 to 8, and ERR is set otherwise (Table 14.7). -/
def execCtxEnable (endpoint : Fin 2) (enable : Bool) (s : State) : Host.Outcome State Fault Refusal :=
  let e := endpoint.val
  .next (
    if !enable then (s.wb .CTX_CTRL_ENABLE e false).wb .CTX_STAT_RUN e false
    else if s.rb .CTX_CTRL_ENABLE e then s
    else if [0, 1, 2].all (fun q => decide (2 ≤ s.r .Q_SIZE_LOG2 (e * 3 + q)) && decide (s.r .Q_SIZE_LOG2 (e * 3 + q) ≤ 8)) then
      ((s.wb .CTX_CTRL_ENABLE e true).wb .CTX_STAT_RUN e true).pumpEvents e 512
    else s.ringError e)

/-- CTX_RESET: the session ends as a departure, the indices are zeroed, ENABLE and ERR clear (Table 14.7). -/
def execCtxReset (endpoint : Fin 2) (s : State) : Host.Outcome State Fault Refusal :=
  let e := endpoint.val
  let s := (s.endSession e).updCtx e (fun x => { x with ring := [], toSend := [] })
  let s := [0, 1, 2].foldl (fun t q => (t.w .Q_PROD_IDX (e * 3 + q) 0).w .Q_CONS_IDX (e * 3 + q) 0) s
  .next (((s.wb .CTX_CTRL_ENABLE e false).wb .CTX_STAT_RUN e false).wb .CTX_STAT_ERR e false)

/-- CTX_BEAT: any write restarts the lease (R381). -/
def execCtxBeat (endpoint : Fin 2) (s : State) : Host.Outcome State Fault Refusal :=
  .next (if (s.ctx endpoint.val).isOpen then s.restartLease endpoint.val else s)

/-- PCIE_LINK_EVENT: link down, hot reset, Function Level Reset or Bus Master Enable cleared (R381). -/
def execPcieLinkEvent (endpoint : Fin 2) (s : State) : Host.Outcome State Fault Refusal := .next (s.endSession endpoint.val)

/-- DMA_ERROR (R396): the session departs when its lease runs out. -/
def execDmaError (endpoint : Fin 2) (s : State) : Host.Outcome State Fault Refusal := .next (s.ringError endpoint.val)

/-! SSPI (R400). -/

/-- SSPI_WRITE: a packet fills the receive buffer, or is discarded and counted where the buffer is not free. -/
def execSspiWrite (s : State) : Host.Outcome State Fault Refusal :=
  .next (if s.sspiRx then { s with sspiDrops := s.sspiDrops + 1 } else { s with sspiRx := true })

/-- The empty packet: KIND 3, PLEN 0. -/
def sspiNothing : Packet := { port := .sspi, ctx := 6, kind := 3, opcode := 0, seq := 0 }

/-- SSPI_READ: a reply, else an event, else the empty packet. A packet read whole is done with, and an event is acknowledged (R391);
`whole` is false where the transaction ends early. -/
def execSspiRead (whole : Bool) (s : State) : Host.Outcome State Fault Refusal :=
  .next (
    match s.sspiReplies with
    | k :: rest => { s with sent := some k, sspiReplies := if whole then rest else s.sspiReplies }
    | [] =>
      match (s.ctx 6).events with
      | e :: rest =>
        let s := { s with sent := some ((s.ctx 6).eventPacket 6 e) }
        if whole then s.updCtx 6 (fun x => { x with events := rest }) else s
      | [] => { s with sent := some sspiNothing })

/-- SSPI_STATUS: four bits. -/
def execSspiStatus (s : State) : Host.Outcome State Fault Refusal :=
  let x := s.ctx 6
  .next { s with readOut := BitVec.ofNat 32 (b2n (!s.sspiRx) + 2 * b2n (s.sspiReplies != []) + 4 * b2n (x.events != []) +
    8 * b2n (x.events.any Event.urgent)) }

/-! The Ethernet ports (R398, R399, R403). -/

/-- ETH_NEIGHBOUR_ANSWER: ARP, neighbour solicitations and echo requests to the port's own addresses are answered and change nothing;
everything else that the port does not handle is dropped and counted. -/
def execEthNeighbourAnswer (port : Fin 2) (own : Bool) (s : State) : Host.Outcome State Fault Refusal :=
  .next (if own || !s.rb .ETH_STAT_LINK port.val then s else s.inc .ETH_DROP_COUNT port.val)

/-- UDP_REASSEMBLY_TIMEOUT (R399): a first fragment opens one of the port's eight reassemblies, the last fragment ends the oldest (its packet is
a command of its own), and one not complete within 10 ms is dropped and counted. -/
def execUdpReassemblyTimeout (port : Fin 2) (part : Fragment) (s : State) : Host.Outcome State Fault Refusal :=
  let mine := s.reassembly.filter (fun r => r.port == port.val)
  .next (
    match part with
    | .first =>
      if !s.rb .ETH_STAT_LINK port.val then s
      else if mine.length < 8 then { s with reassembly := s.reassembly ++ [{ port := port.val, since := s.now0 }] }
      else s.inc .ETH_DROP_COUNT port.val
    | .last =>
      match mine with
      | r :: _ => { s with reassembly := s.reassembly.erase r }
      | [] => s
    | .late =>
      match mine with
      | r :: _ =>
        if r.since + msT 10 ≤ s.now0 then { s with reassembly := s.reassembly.erase r }.inc .ETH_ERR_BAD_FRAME port.val else s
      | [] => s)

/-- ETH_LINK_DOWN: LINK clears; what stands on the port stays (R398). -/
def execEthLinkDown (port : Fin 2) (s : State) : Host.Outcome State Fault Refusal :=
  .next { s.wb .ETH_STAT_LINK port.val false with reassembly := s.reassembly.filter (fun r => r.port != port.val) }

/-- ANNOUNCE (R403): at link up (`up`, with the speed, 1 for 10GBASE-R) and every ANNOUNCE seconds of the port's record in use, a port sends the
device record. -/
def execAnnounce (port : Fin 2) (up : Bool) (speed : Fin 2) (s : State) : Host.Outcome State Fault Refusal :=
  let e := port.val
  let s := if up then (s.wb .ETH_STAT_LINK e true).w .ETH_STAT_SPEED e speed.val else s
  let every := s.ru .net (e * 2 + s.addressSet) 13 1
  let due : Bool := up || decide (Tbl.get 0 s.announced e + msT (1000 * every) ≤ s.now0)
  .next (
    if every ≠ 0 && s.rb .ETH_STAT_LINK e && due then
      { s with
        announced := Tbl.set 0 s.announced e s.now0
        sent := some { port := if e = 0 then .eth0 else .eth1, ctx := 0xFF, kind := 1, opcode := 0, seq := 0, params := s.deviceRecord } }
    else s)

end Sys2Proof.Machine
end

