-- ==== Sys2Proof/Machine/NodeOps.lean ====
section
/-! DEFINITION. Sys2Proof/Machine/NodeOps.lean: what a node on the ring holds and does, as the obligations on it state: its layouts and
claim (R67, R68, R78), its mailbox (R50, R473, R474), its outputs and their reactions (R85 to R87), and its power stage (R48,
R200 to R205). -/

namespace Sys2Proof.Machine

def State.node (s : State) (u : Nat) : Node := Tbl.get {} s.nodes u
def State.updNode (s : State) (u : Nat) (f : Node → Node) : State := { s with nodes := Tbl.modify {} s.nodes u f }

/-! Identity and layouts. -/

/-- The claim of 32 bytes (Table 3.3). -/
def Node.claim (x : Node) : List Byte :=
  le 1 0x81 ++ patch (patch (slice x.decl 0 31) 19 (leInt 4 (x.delta.getD (-0x80000000)))) 30 (le 1 x.lastAddr)

def Node.vendor (x : Node) : Nat := fld x.decl 1 2
def Node.serial (x : Node) : Nat := fld x.decl 3 8
def Node.threeLevel (x : Node) : Bool := bit (fld x.decl 17 2) 1
def Node.keeper (x : Node) : Bool := bit (fld x.decl 17 2) 0
def Node.modes (x : Node) : Nat := fld x.decl 29 1

/-- The preload of a mode, if the node holds it. -/
def Node.preload (x : Node) (m : Nat) : List Byte := Tbl.get [] x.preloads m

/-- The preload of the mode in force. -/
def Node.layout (x : Node) : List Byte := match x.mode with | some m => x.preload m | none => []

/-- The node's own segments in a preload (Table 3.5). -/
def preloadSegs (b : List Byte) : List Seg :=
  (List.range (fld b 1 1)).map (fun i =>
    { addr := 0, off := fld b (24 + 8 * i) 2, len := fld b (26 + 8 * i) 2, ty := fld b (28 + 8 * i) 1, pa := fld b (29 + 8 * i) 1
      pb := fld b (30 + 8 * i) 1, pc := fld b (31 + 8 * i) 1 })

/-- The data bytes of a preload's mailbox segments. -/
def preloadBoxes (b : List Byte) : List Nat := (List.range (fld b 2 1)).map (fun i => 4 * fld b (26 + 8 * fld b 1 1 + 4 * i) 1)

/-- The precision window in 2^-16 ns: that of the mode, and 1,000 ns on kindling frames (R63). -/
def Node.window (x : Node) : Nat := (if x.layout = [] then 1000 else fld x.layout 12 2) * 65536

/-- P of the mode in force, in 10 ns. -/
def Node.period (x : Node) : Nat := fld x.layout 4 4

/-- The node's segment of a type in the mode in force. -/
def Node.seg (x : Node) (ty : Nat) : Option Seg := (preloadSegs x.layout).find? (fun g => g.ty == ty)

/-- REACT and HOLD of a segment type; a REACT outside Table 3.7 is 0, a HOLD above its range is the top of it (R86). -/
def Node.react (x : Node) (ty : Nat) : Nat × Nat :=
  let b := Tbl.get [] x.empties ty
  let r := fld b 1 1
  let h := fld b 2 1
  match ty with
  | 1 => if r = 1 then (1, min h 8) else (0, h)
  | _ => if r ≤ 2 then (r, h) else (0, h)

/-- Count up to a 32-bit limit (Table 3.4). -/
def countUp (n : Nat) : Nat := satAdd 0xFFFFFFFF n 1

/-! Outputs. -/

/-- The legs of a switch state, each of 2 bits, or of 4 in a three-level stage (Table 2.8). -/
def nodeLeg (three : Bool) (sw leg : Nat) : Nat := if three then sw / 16 ^ leg % 16 else sw / 4 ^ leg % 4

/-- A leg code the stage can take safely: never both switches of a half-bridge, never S1 with S3 or S2 with S4 (R200). -/
def legSafe (three : Bool) (c : Nat) : Bool :=
  if three then !(bit c 0 && bit c 2) && !(bit c 1 && bit c 3) else c != 3

/-- A state of three legs that the stage can take. -/
def stateSafe (three : Bool) (sw : Nat) : Bool :=
  (three || decide (sw < 64)) && (List.range 3).all (fun l => legSafe three (nodeLeg three sw l))

/-- A step between two states puts no leg of a three-level stage directly from P to N or back (R193). -/
def stepSafe (three : Bool) (a b : Nat) : Bool :=
  !three || (List.range 3).all (fun l =>
    !((nodeLeg true a l == 3 && nodeLeg true b l == 12) || (nodeLeg true a l == 12 && nodeLeg true b l == 3)))

/-- A command is valid (R48, R193): `sw` is the state in force, `n` the period in 1.25 ns. -/
def commandValid (three : Bool) (n sw : Nat) (c : List Byte) : Bool :=
  let s0 := fld c 0 2 % 4096
  let s1 := fld c 2 2 % 4096
  let s2 := fld c 4 2 % 4096
  let ntr := fld c 2 2 / 4096 % 4
  decide (ntr ≤ 2) && stateSafe three s0 && stepSafe three sw s0 &&
    (ntr == 0 || (stateSafe three s1 && stepSafe three s0 s1 && decide (fld c 6 2 < n))) &&
    (ntr != 2 || (stateSafe three s2 && stepSafe three s1 s2 && decide (fld c 8 2 < n) && decide (fld c 6 2 < fld c 8 2)))

/-- The switches of the legs in a bit set off. -/
def legsOff (three : Bool) (sw legs : Nat) : Nat :=
  (List.range 3).foldl (fun v l => if bit legs l then (if three then setBits v (4 * l + 3) (4 * l) 0 else setBits v (2 * l + 1) (2 * l) 0) else v) sw

/-- All switches off. -/
def NodeBlock.off (b : NodeBlock) : NodeBlock := { b with sw := 0, inhibited := true, cmd := [] }

/-- Take a switch state, with the legs held off that a latch or a low gate supply holds. -/
def NodeBlock.drive (three : Bool) (sw : Nat) (b : NodeBlock) : NodeBlock :=
  if b.tripped then b.off else
  let v := legsOff three sw (b.legOff ||| b.uv)
  { b with sw := v, inhibited := v == 0 }

/-- The AUX word of an accepted command updates the held set; index 7 checks it (R202). -/
def NodeBlock.aux (w : Nat) (b : NodeBlock) : NodeBlock :=
  let i := w / 4096
  let v := w % 4096
  if 1 ≤ i ∧ i ≤ 6 then { b with held := Tbl.set 0 b.held i v, got := if b.got.contains i then b.got else b.got ++ [i] }
  else if i = 7 then
    let set := (List.range 6).map (fun k => Tbl.get 0 b.held (k + 1))
    if b.got.length = 6 ∧ set.sum % 4096 = v then { b with ready := some set } else b
  else b

/-- At T_out a checked set is activated: at once where it equals the active one, otherwise while the block is inhibited (R202). -/
def NodeBlock.activate (b : NodeBlock) : NodeBlock :=
  match b.ready with
  | none => b
  | some set => if b.inhibited || b.active = some set then { b with active := some set, ready := none } else b

/-- The stage may be commanded: it has an active set whose NPC flag agrees with it (R202). -/
def NodeBlock.usable (three : Bool) (b : NodeBlock) : Bool :=
  match b.active with
  | some set => bit (set.getD 5 0) 0 == three
  | none => false

/-- An accepted command takes force at T_out (R48, R200, R203): an INHIBIT followed by an APPLY clears the latches. -/
def NodeBlock.apply (three : Bool) (n : Nat) (c : List Byte) (b : NodeBlock) : NodeBlock :=
  let b := { b with empties := 0 }
  if fld c 0 2 / 4096 ≠ 0 then { b.off with inhSeen := true }
  else
    let b := if b.inhSeen then { b with inhSeen := false, desat := 0, legOff := b.uv } else b
    if b.usable three && commandValid three n b.sw c then { (b.drive three (fld c 0 2 % 4096)) with cmd := c } else b.off

/-- The zero vector: all low sides, or every leg at the neutral point (Table 3.7). -/
def zeroVector (three : Bool) : Nat := if three then 0x666 else 0x2A

/-- The empty-slot reaction of a servo block (Table 3.7). -/
def NodeBlock.react (three : Bool) (react hold : Nat) (b : NodeBlock) : NodeBlock :=
  let b := { b with empties := b.empties + 1 }
  if react = 1 ∧ b.empties ≤ hold ∧ b.usable three ∧ !b.inhibited then { (b.drive three (zeroVector three)) with cmd := [] } else b.off

/-- The PS byte (Table 2.9). -/
def NodeBlock.ps (b : NodeBlock) : Nat := b.desat + 8 * b.uv + 64 * b2n b.ot + 128 * b2n b.inhibited

/-- A stepper block takes its update (Table 2.10). -/
def NodeStep.apply (c : List Byte) (_ : NodeStep) : NodeStep :=
  { va := fldI c 0 2, vb := fldI c 2 2, dang := fldI c 4 2, ilim := fld c 6 1, sfl := fld c 7 1 }

/-- The empty-slot reaction of a stepper axis in an update round it is served in. -/
def NodeStep.react (react hold : Nat) (x : NodeStep) : NodeStep :=
  let x := { x with empties := x.empties + 1 }
  match react with
  | 0 => if x.empties ≤ hold then x else { x with dang := 0 }
  | 1 => { x with dang := 0 }
  | _ => { x with dang := 0, sfl := x.sfl ||| 2 }

/-- The I/O outputs of an empty cycle. -/
def Node.ioReact (x : Node) : Node :=
  let (r, h) := x.react 3
  let x := { x with ioEmpties := x.ioEmpties + 1 }
  match r with
  | 1 => if x.ioEmpties ≤ h then x else { x with out := List.replicate x.out.length 0 }
  | 2 => { x with out := (Tbl.get [] x.empties 3).drop 4 }
  | _ => { x with out := List.replicate x.out.length 0 }

/-- Every output in its class's frame-timeout state (R87). -/
def Node.timeoutOutputs (x : Node) : Node :=
  { x with
    blocks := x.blocks.map (fun e => (e.1, e.2.off))
    steps := x.steps.map (fun e => (e.1, { e.2 with dang := 0, sfl := e.2.sfl ||| 2 }))
    out := if (x.react 3).1 = 2 then (Tbl.get [] x.empties 3).drop 4 else List.replicate x.out.length 0 }

/-- What kindling and RELEASE discard: address, preloads and empty-slot settings; outputs take their frame-timeout state (R66, R87). The
gate-parameter indices must be accepted anew (R202). -/
def Node.discard (x : Node) : Node :=
  let x := { x with addr := 0, preloads := [], mode := none, prevMode := none, armed := none, empties := [], box := {} }
  Node.timeoutOutputs { x with blocks := x.blocks.map (fun e => (e.1, { e.2 with got := [], ready := none })) }

/-- A node accepts a kindling frame anew (R66). -/
def Node.kindled (cycle : Nat) (prio serial : Nat) (x : Node) : Node :=
  { x.discard with
    lastAcc := [], accepted := [], cycle := some cycle, pdX := 0, pdY := 0, pdNext := none, corrs := [], fresh := false, timedOut := false
    cyclic := false, head := some (prio, serial), lockRun := 0, locked := false }

/-- A head of (PRIO, SERIAL) is better than the one that assigned the address (R66). -/
def Node.better (x : Node) (prio serial : Nat) : Bool :=
  match x.head with
  | some (p, n) => decide (p < prio) || (p == prio && decide (n < serial))
  | none => false

/-! The mailbox of a node. -/

/-- Answer the oldest message received: SVC and body. -/
def Node.answer (x : Node) (svc : Nat) (body : List Byte) : Node :=
  { x with box := { x.box with inbox := x.box.inbox.tail, outq := x.box.outq ++ [{ svc := svc, body := body }] } }

/-- The oldest message received is of a service. -/
def Node.asked (x : Node) (svc : Nat) : Bool := match x.box.inbox with | m :: _ => fld m 0 1 == svc | [] => false

/-- The body of the oldest message received. -/
def Node.body (x : Node) : List Byte := match x.box.inbox with | m :: _ => (m.drop 4).take (fld m 2 2) | [] => []

/-- The mailbox segment of a frame addressed to the node: it reads the fragment once in a cycle, and writes its own (R50, R473). -/
def Node.mailbox (x : Node) (cycle : Nat) (kindling : Bool) (m : NodeMail) : Node :=
  if x.mailAt = some cycle then x
  else
    let ds := if kindling then [256] else preloadBoxes x.layout
    let b := if m.crcOk then { Mailbox.uplink m.down x.box with expect := 0, awaiting := [] } else x.box
    let b := (b.giveUp ds).load m.size
    { x with box := b, mailUp := b.downlink m.size, mailAt := if m.crcOk then some cycle else none }

/-- The roll-call window of a frame (R67, R70): an unaddressed node claims in it while no node has, and takes its assignment. -/
def Node.rollCall (x : Node) (cycle : Nat) (m : NodeMail) : Node :=
  let d := m.down.drop 4
  let x := if x.addr = 0 ∧ !m.taken ∧ x.wait = 0 then { x with mailUp := [0, 3] ++ le 2 32 ++ x.claim } else x
  let x := if x.wait ≠ 0 ∧ x.winAt ≠ some cycle then { x with wait := x.wait - 1, winAt := some cycle } else x
  if m.crcOk && fld d 0 1 == 1 && bit (fld d 1 1) 0 && fld d 12 2 == x.vendor && fld d 16 8 == x.serial then
    if fld d 14 1 = 0 then { x with wait := 4096, winAt := some cycle }
    else { x with addr := fld d 14 1, lastAddr := fld d 14 1, head := some (fld d 2 1, fld d 4 8), wait := 0 }
  else x

end Sys2Proof.Machine
end

