-- ==== Sys2Proof/Machine/Node.lean ====
section
/-! DEFINITION. Sys2Proof/Machine/Node.lean: the commands of a node on the ring: frames, instants, the power stage, mailbox services and
its safety part. What a node decides by its own hardware is the command's operand. -/

namespace Sys2Proof.Machine

/-! Frames (R52 to R56, R66, R80, R83, R88, R92). -/

/-- The window of a kindling frame as it shows the sender's PRIO and SERIAL (Table 3.2). -/
def copyRank (c : NodeCopy) : Nat × Nat :=
  match c.mails.find? (fun m => m.addr == 0 && m.crcOk && fld m.down 4 1 == 1) with
  | some m => (fld m.down 6 1, fld m.down 8 8)
  | none => (0, 0)

/-- A frame's header is accepted: its kindling, its arrival, and its trailer's corrections. -/
def Node.accept (clk port : Nat) (c : NodeCopy) (x : Node) : Node :=
  let n := c.hdr.cycle
  let x :=
    if bit c.hdr.flags 2 then
      (if x.cyclic || x.timedOut || x.fresh || x.better (copyRank c).1 (copyRank c).2 then x.kindled n (copyRank c).1 (copyRank c).2 else x)
    else { x with cyclic := true, fresh := false }
  let first := x.cycle != some n || x.devs == []
  let keeps := bit (fld x.layout 3 1) 0
  let dev := c.arr - (if port = 0 then x.pdX else x.pdY)
  let devs := if first then [dev] else x.devs ++ [dev]
  let arrs := Tbl.set none (if first then [] else x.arrs) port (some c.arr)
  let delta := match Tbl.get none arrs 0, Tbl.get none arrs 1 with | some a, some b => some (b - a) | _, _ => x.delta
  let corr : List Corr :=
    if first && !keeps then
      [{ cycle := (n + 2) % Config.cycleModulus, ofs := if c.hdr.tcrcOk then c.hdr.ofsCorr else 0, rate := if c.hdr.tcrcOk then c.hdr.rateCorr else 0 }]
    else []
  { x with cycle := some n, frameClk := clk, devs := devs, arrs := arrs, delta := delta, corrs := x.corrs ++ corr }

/-- The layout a frame names, and the armed switch it carries (R79 to R83): false where the node does not hold the mode. -/
def Node.follow (h : FrameHdr) (x : Node) : Node × Bool :=
  let m := h.mode % 8
  let n := h.cycle
  let x :=
    if x.mode = some m ∨ x.preload m = [] then x
    else if x.swAt = some n ∧ x.prevMode = some m then { x with mode := some m, prevMode := none, lateAt := some n }
    else if x.armed = some (m, n) then { x with prevMode := x.mode, mode := some m }
    else { x with prevMode := x.mode, mode := some m, lateAt := some n }
  let x := { x with armed := if bit h.mode 6 then some (h.mode / 8 % 8, h.switchCycle) else none }
  (x, x.preload m != [])

/-- LATE_INSTANT for the frame (R92). -/
def Node.late (n : Nat) (x : Node) : Bool :=
  decide (x.devs.length * x.window < x.devs.sum.natAbs) || !x.locked || x.lateAt == some n || x.sampledAt != some n

/-- ULF of a segment's uplink (Table 2.6, R80, R85). In the second copy of a frame whose first was accepted, what it says of the
cycle before stands as the first copy has it. -/
def Node.ulf (n ty : Nat) (x : Node) : Nat :=
  let prev := (n + Config.cycleModulus - 1) % Config.cycleModulus
  let had := Tbl.get none x.lastAcc ty
  let old := (Tbl.get (0, []) x.wrote ty).1
  let lost := if had = some n then bit old 2 else had != some prev
  let seen := if had = some n then bit old 3 else lost || (Tbl.get (0, []) x.accepted ty).1 != 0
  let ack := match x.armed with | some (m, _) => x.preload m != [] | none => false
  1 + 2 * b2n (x.late n) + 4 * b2n lost + 8 * b2n seen + 16 * b2n ack

/-- The commands of a downlink area without its containers: what T_out latches. -/
def downCommands (g : Seg) (area : List Byte) : List Byte :=
  match g.ty with
  | 1 => (List.range g.pa).flatMap (fun j => slice area (24 * j) 12)
  | 2 => slice area 0 (8 * g.pa)
  | 3 => slice area 0 (4 * g.pa)
  | _ => slice area 0 4

/-- Accept a segment's downlink: it waits for T_out, and the AUX words of servo commands are taken (R52, R56, R202). -/
def Node.acceptSeg (n : Nat) (g : NodeSeg) (x : Node) : Node :=
  let own := (x.seg g.ty).getD { addr := 0, ty := g.ty, pa := 0, pb := 0, pc := 0 }
  let cmds := downCommands own g.down
  let x := { x with lastAcc := Tbl.set none x.lastAcc g.ty (some n), accepted := Tbl.set (0, []) x.accepted g.ty (g.dlf, cmds) }
  match g.ty with
  | 1 => { x with blocks := (List.range own.pa).foldl (fun t j =>
      if bit g.dlf j then t else Tbl.modify {} t j (NodeBlock.aux (fld cmds (12 * j + 10) 2))) x.blocks }
  | 4 => x
  | _ => x

/-- A keeper's uplink: DEV of this copy, RATE, KST. The node's oscillator sets RATE and HOLDOVER: they are free, and the same in both
copies of a frame (R88). -/
def State.keeperUp (s : State) (x : Node) : List Byte × State :=
  let old := (Tbl.get (0, []) x.wrote 4).2
  let again := decide (1 < x.devs.length) && old != []
  let (r, s) := if again then (fld old 4 4, s) else s.fresh
  let (h, s) := if again then (b2n (bit (fld old 8 1) 2), s) else s.fresh
  (leInt 4 (x.devs.getLastD 0) ++ le 4 (r % 2 ^ 32) ++
    le 1 (b2n x.locked + 2 * b2n (!decide (x.devs.length * x.window < x.devs.sum.natAbs)) + 4 * (h % 2)) ++ [0, 0, 0], s)

/-- One of the node's own segments in a copy with a valid header (R52, R56, Table 2.14). -/
def State.nodeSeg (s : State) (u n : Nat) (g : NodeSeg) : State :=
  if !g.addrOk then s.updNode u (fun x => { x with segErr := countUp x.segErr })
  else
    let x := s.node u
    let (data, s) := if g.ty = 4 then s.keeperUp x else (Tbl.get [] x.sampled g.ty, s)
    let s := s.updNode u (fun y => { y with wrote := Tbl.set (0, []) y.wrote g.ty (x.ulf n g.ty, data) })
    if !g.crcOk then s
    else
      let d := (n + 2 ^ 32 - (Tbl.get none x.lastAcc g.ty).getD 0) % 2 ^ 32
      if Tbl.get none x.lastAcc g.ty = none ∨ (1 ≤ d ∧ d ≤ 2 ^ 31) then s.updNode u (Node.acceptSeg n g)
      else s.updNode u (fun y => { y with dups := countUp y.dups })

/-- A mailbox segment or roll-call window of a copy. -/
def Node.mail (n : Nat) (kindling : Bool) (m : NodeMail) (x : Node) : Node :=
  if m.addr = 0 then x.rollCall n m
  else if m.addr = x.addr ∨ m.addr = x.releasing then
    let y := x.mailbox n kindling m
    if y.box.outq = [] then { y with releasing := 0 } else y
  else x

/-- NODE_FRAME_RX: a passing copy, entered at port X (0) or Y (1). -/
def execNodeFrameRx (node : Nat) (port : Fin 2) (c : NodeCopy) (s : State) : Host.Outcome State Fault Refusal :=
  let x := s.node node
  let onwardDown := x.looping.contains (1 - port.val)
  .next (
    if !c.clanor || (bit c.hdr.flags 1 && onwardDown) then s.updNode node (fun x => { x with replaced := countUp x.replaced })
    else if bit c.hdr.flags 1 then s
    else if !(c.hdr.hcrcOk && c.hdr.ver == 2) then s.updNode node (fun x => { x with hdrErr := countUp x.hdrErr })
    else
      let kindling := bit c.hdr.flags 2
      let s := s.updNode node (Node.accept s.clk port.val c)
      let (y, holds) := (s.node node).follow c.hdr
      let s := if kindling then s.updNode node (fun x => { x with armed := y.armed }) else s.updNode node (fun _ => y)
      let s := if kindling || !holds then s else c.segs.foldl (fun t g => t.nodeSeg node c.hdr.cycle g) s
      c.mails.foldl (fun t m => t.updNode node (Node.mail c.hdr.cycle kindling m)) s)

/-- NODE_KINDLING_ACCEPT (R66). -/
def execNodeKindlingAccept (node : Nat) (cycle : Nat) (prio : Nat) (serial : Nat) (s : State) : Host.Outcome State Fault Refusal :=
  let x := s.node node
  .next (if x.cyclic || x.timedOut || x.fresh || x.better prio serial then s.updNode node (Node.kindled cycle prio serial) else s)

/-- NODE_LOOP_BACK (R38): the port has gone down. -/
def execNodeLoopBack (node : Nat) (port : Fin 2) (s : State) : Host.Outcome State Fault Refusal :=
  .next (s.updNode node (fun x => { x with looping := if x.looping.contains port.val then x.looping else x.looping ++ [port.val] }))

/-- NODE_LOOP_END (R40): the port has been up for 10 ms without remote fault. -/
def execNodeLoopEnd (node : Nat) (port : Fin 2) (s : State) : Host.Outcome State Fault Refusal :=
  .next (s.updNode node (fun x => { x with looping := x.looping.filter (· != port.val) }))

/-! The common instants (R16, R17, R85 to R92). -/

/-- A node disciplines its clock from D of the frame before (R88, R89): the slew lies within Table 3.8, where it lies is the node's own. -/
def State.discipline (s : State) (u n : Nat) : State :=
  let x := s.node u
  if x.devs = [] then s
  else
    let (d, s) := s.freeDiv x.devs.sum x.devs.length
    let keeps := bit (fld x.layout 3 1) 0
    let lo := d / (if keeps then 256 else 8)
    let hi := d / (if keeps then 64 else 2)
    let (f, s) := s.fresh
    let slew := min lo hi + ((f % ((max lo hi - min lo hi).toNat + 1) : Nat) : Int)
    let ok := !decide (x.devs.length * x.window < x.devs.sum.natAbs)
    let run := if ok then x.lockRun + 1 else 0
    let due := x.corrs.filter (fun k => k.cycle == n)
    let pd := x.pdNext.getD (x.pdX, x.pdY)
    s.updNode u (fun y => { y with
      d := d, slew := slew, lockRun := run, locked := decide (64 ≤ run), devs := [], pdX := pd.1, pdY := pd.2, pdNext := none
      ofs := (due.map Corr.ofs).sum, rate := y.rate + (due.map Corr.rate).sum, corrs := y.corrs.filter (fun k => k.cycle != n) })

/-- Write one container's uplink of a safety part (R331, R333): its SEQ counts on. -/
def NodeSafe.up (env : List Byte) (x : NodeSafe) : List Byte × NodeSafe :=
  let send (ctl : Nat) (data : List Byte) : List Byte × NodeSafe :=
    let b := le 2 x.seqOut ++ le 1 ctl ++ slice data 0 5
    (b ++ le 4 (crcReflected 0xC8DF352F (le 4 (x.connId + 2 ^ 31) ++ b)), { x with seqOut := (x.seqOut + 1) % 65536 })
  match x.state with
  | 1 => if x.adopted then send 2 [] else (le 12 0, x)
  | 2 => send 0 env
  | 3 => send 4 []
  | _ => (le 12 0, x)

/-- The containers of some places, in order. -/
def Node.containers (env : List (Nat × List Byte)) (places : List Nat) (x : Node) : List (List Byte) × Node :=
  places.foldl (fun (r : List (List Byte) × Node) k =>
    let p := Tbl.get {} r.2.safe k
    let (b, q) := p.up (((env.find? (fun e => e.1 == k)).map (·.2)).getD [])
    (r.1 ++ [b], { r.2 with safe := Tbl.set {} r.2.safe k q })) ([], x)

/-- The place of a container: that of a servo block, of a stepper segment (8), or of an I/O segment (16 on). -/
def safePlaces (g : Seg) : List Nat :=
  match g.ty with
  | 1 => List.range g.pa
  | 2 => if g.pb = 1 then [8] else []
  | 3 => (List.range g.pc).map (· + 16)
  | _ => []

/-- The 24 bytes of a servo block's inputs, with its index latch and PS byte (Table 2.9). -/
def NodeBlock.inputs (raw : List Byte) (b : NodeBlock) : List Byte :=
  let raw := slice raw 0 24
  let raw := patch (patch (patch raw 14 (le 2 b.qidx)) 16 (le 2 b.isin)) 18 (le 2 b.icos)
  patch (patch (patch raw 20 (le 1 (setBit (fld raw 20 1 % 32) 3 b.idx))) 21 (le 1 b.ps)) 22 (le 2 b.desatT)

/-- The uplink area of a segment as sampled (Tables 2.9, 2.10). -/
def Node.sample (g : Seg) (n : Nat) (raw : List Byte) (conts : List (List Byte)) (x : Node) : List Byte :=
  match g.ty with
  | 1 => (List.range g.pa).flatMap (fun j => (Tbl.get {} x.blocks j).inputs (raw.drop (24 * j)) ++ conts.getD j (le 12 0))
  | 2 => (List.range g.pa).flatMap (fun j =>
      let b := slice raw (8 * j) 8
      patch b 4 (le 1 (setBit (fld b 4 1 % 16) 3 (bit (Tbl.get {} x.steps (n % max 1 g.pc * g.pa + j)).sfl 1)))) ++ conts.flatten
  | 3 => slice raw 0 (4 * g.pb) ++ conts.flatten
  | _ => []

/-- NODE_TIN_SAMPLE: T_in of frame `cycle` (R16). `inputs` are the raw inputs by segment type, `safe` what each safety part reads. -/
def execNodeTinSample (node : Nat) (cycle : Nat) (inputs : List (Nat × List Byte)) (safe : List (Nat × List Byte)) (s : State) :
    Host.Outcome State Fault Refusal :=
  let s := s.discipline node cycle
  .next (s.updNode node (fun x =>
    let x := match x.armed with
      | some (m, k) => if k = cycle ∧ x.preload m ≠ [] then { x with prevMode := x.mode, mode := some m, swAt := some cycle, armed := none } else x
      | none => x
    let x := (preloadSegs x.layout).foldl (fun y g =>
      let (cs, y) := y.containers safe (safePlaces g)
      { y with sampled := Tbl.set [] y.sampled g.ty (y.sample g cycle (((inputs.find? (fun e => e.1 == g.ty)).map (·.2)).getD []) cs) }) x
    { x with sampledAt := some cycle, blocks := x.blocks.map (fun e => (e.1, { e.2 with idx := false })) }))

/-- The layout of a frame: the old one for the last frame before the switch (R82). -/
def Node.layoutOf (n : Nat) (x : Node) : List Byte :=
  if x.swAt = some ((n + 1) % Config.cycleModulus) then (match x.prevMode with | some m => x.preload m | none => []) else x.layout

/-- The safety part of a block removes its gate-drive energy (R336). -/
def Node.stoOf (k : Nat) (x : Node) : Bool := let p := Tbl.get {} x.safe k; p.kind != 0 && p.sto

/-- Latch one segment at T_out: its command, or its reaction (R17, R86). A node in its frame timeout resumes at a valid command
once it is locked (R87). -/
def Node.latch (n : Nat) (g : Seg) (x : Node) : Node :=
  let got := Tbl.get none x.lastAcc g.ty == some n
  let (dlf, cmds) := Tbl.get (0, []) x.accepted g.ty
  let x := if g.ty = 4 then x else
    if !got then { x with noCopy := countUp x.noCopy } else if dlf != 0 then { x with emptyRx := countUp x.emptyRx } else x
  let live (j : Nat) : Bool := got && !bit dlf j && (!x.timedOut || x.locked)
  let x := if x.timedOut && (List.range (if g.ty = 1 then g.pa else 1)).any live then { x with timedOut := false } else x
  if x.timedOut then x
  else
    let (r, h) := x.react g.ty
    match g.ty with
    | 1 =>
      { x with blocks := (List.range g.pa).foldl (fun t j => Tbl.modify {} t j (fun b =>
          let b := b.activate
          let b := if live j then b.apply x.threeLevel (x.period * 8) (slice cmds (12 * j) 12) else b.react x.threeLevel r h
          if x.stoOf j then b.off else b)) x.blocks }
    | 2 =>
      { x with steps := (List.range g.pa).foldl (fun t j => Tbl.modify {} t (n % max 1 g.pc * g.pa + j) (fun e =>
          let e := if live 0 then e.apply (slice cmds (8 * j) 8) else e.react r h
          if x.stoOf 8 then { e with sfl := e.sfl ||| 2 } else e)) x.steps }
    | 3 => if live 0 then { x with out := cmds, ioEmpties := 0 } else x.ioReact
    | _ => x

/-- NODE_TOUT_LATCH: T_out of frame `cycle`. Every stepper axis turns by its step. -/
def execNodeToutLatch (node : Nat) (cycle : Nat) (s : State) : Host.Outcome State Fault Refusal :=
  .next (s.updNode node (fun x =>
    let x := { x with latches := x.latches + 1, steps := x.steps.map (fun (e : Nat × NodeStep) => (e.1, { e.2 with rot := e.2.rot + e.2.dang })) }
    let x := (preloadSegs (x.layoutOf cycle)).foldl (fun y g => y.latch cycle g) x
    { x with steps := Tbl.canon {} x.steps, blocks := Tbl.canon {} x.blocks }))

/-- NODE_TRANSITION: the first or second transition of the command in force (R200). -/
def execNodeTransition (node : Nat) (block : Fin 4) (second : Bool) (s : State) : Host.Outcome State Fault Refusal :=
  .next (s.updNode node (fun x => { x with blocks := Tbl.modify {} x.blocks block.val (fun b =>
    if b.cmd = [] ∨ fld b.cmd 2 2 / 4096 % 4 < (if second then 2 else 1) ∨ x.stoOf block.val then b
    else b.drive x.threeLevel (fld b.cmd (if second then 4 else 2) 2 % 4096)) }))

/-- NODE_EMPTY_HOLD_END: the final step of a reaction (Table 3.7). `limit`: a phase current or UDC has passed the node's own limit. -/
def execNodeEmptyHoldEnd (node : Nat) (ty : Nat) (index : Nat) (limit : Bool) (s : State) : Host.Outcome State Fault Refusal :=
  .next (s.updNode node (fun x =>
    let (r, h) := x.react ty
    match ty with
    | 1 => { x with blocks := Tbl.modify {} x.blocks index (fun b => if b.empties ≠ 0 ∧ (h ≤ b.empties ∨ limit) then b.off else b) }
    | 2 => { x with steps := Tbl.modify {} x.steps index (fun e => if r = 0 ∧ e.empties ≠ 0 ∧ h ≤ e.empties then { e with dang := 0 } else e) }
    | _ => if r = 1 ∧ x.ioEmpties ≠ 0 ∧ h ≤ x.ioEmpties then { x with out := List.replicate x.out.length 0 } else x))

/-- NODE_FRAME_TIMEOUT (R87): no frame accepted for the longer of 1 ms and 8 P. -/
def execNodeFrameTimeout (node : Nat) (s : State) : Host.Outcome State Fault Refusal :=
  let x := s.node node
  .next (if x.frameClk + max 800000 (64 * x.period) ≤ s.clk then
    s.updNode node (fun x => let y := { x with timedOut := true }.timeoutOutputs; { y with steps := Tbl.canon {} y.steps, blocks := Tbl.canon {} y.blocks }) else s)

/-! The power stage (R203, R205, R151). -/

/-- Update one axis block of a node. -/
def State.updBlock (s : State) (u k : Nat) (f : NodeBlock → NodeBlock) : State :=
  s.updNode u (fun x => { x with blocks := Tbl.modify {} x.blocks k f })

/-- Hold a leg off. -/
def NodeBlock.holdLeg (three : Bool) (legs : Nat) (b : NodeBlock) : NodeBlock :=
  let v := legsOff three b.sw legs
  { b with legOff := b.legOff ||| legs, sw := v, inhibited := v == 0 }

/-- NODE_DESAT_DETECT: `after` counts from the latest T_out, in 1.25 ns. A second leg within the same or the next latch cycle turns every
leg of the node off. -/
def execNodeDesatDetect (node : Nat) (block : Fin 4) (leg : Fin 3) (after : W16) (s : State) : Host.Outcome State Fault Refusal :=
  let x := s.node node
  let second := match x.desatAt with
    | some (l, b, g) => decide (x.latches ≤ l + 1) && !(b == block.val && g == leg.val)
    | none => false
  let s := s.updBlock node block.val (fun b =>
    { b.holdLeg x.threeLevel (2 ^ leg.val) with desat := b.desat ||| 2 ^ leg.val, desatT := if b.desat = 0 then after.toNat else b.desatT })
  let s := s.updNode node (fun y => { y with desatAt := some (y.latches, block.val, leg.val) })
  .next (if second then s.updNode node (fun y => { y with blocks := y.blocks.map (fun (e : Nat × NodeBlock) => (e.1, e.2.holdLeg x.threeLevel 7)) }) else s)

/-- NODE_GATE_UNDERVOLT: a leg's gate supply is below UV_LVL. -/
def execNodeGateUndervolt (node : Nat) (block : Fin 4) (leg : Fin 3) (s : State) : Host.Outcome State Fault Refusal :=
  let three := (s.node node).threeLevel
  .next (s.updBlock node block.val (fun b => { b.holdLeg three (2 ^ leg.val) with uv := b.uv ||| 2 ^ leg.val }))

/-- NODE_GATE_SUPPLY_RECOVER: the bit clears; the leg stays off. -/
def execNodeGateSupplyRecover (node : Nat) (block : Fin 4) (leg : Fin 3) (s : State) : Host.Outcome State Fault Refusal :=
  .next (s.updBlock node block.val (fun b => { b with uv := setBit b.uv leg.val false }))

/-- NODE_OVERTEMP: `trip` tells that the node inhibits the block at its own trip temperature. -/
def execNodeOvertemp (node : Nat) (block : Fin 4) (hot : Bool) (trip : Bool) (s : State) : Host.Outcome State Fault Refusal :=
  .next (s.updBlock node block.val (fun b =>
    let b := { b with ot := hot, tripped := hot && (trip || b.tripped) }
    if hot && trip then b.off else b))

/-- NODE_INDEX_LATCH (R151). -/
def execNodeIndexLatch (node : Nat) (block : Fin 4) (qcnt : W16) (sin : W16) (cos : W16) (s : State) : Host.Outcome State Fault Refusal :=
  .next (s.updBlock node block.val (fun b => { b with qidx := qcnt.toNat, isin := sin.toNat, icos := cos.toNat, idx := true }))

/-! Mailbox services (R76, Table 3.4). -/

/-- Serve the oldest message, if it is of the service. -/
def State.serve (s : State) (u svc : Nat) (f : Node → Node) : State := if (s.node u).asked svc then s.updNode u f else s

/-- IDENT_REQ. -/
def execIdentReq (node : Nat) (s : State) : Host.Outcome State Fault Refusal :=
  .next (s.serve node 0x02 (fun x => x.answer 0x82 (x.claim.drop 1)))

/-- RESULT of PRELOAD (Table 3.4). -/
def Node.preloadResult (b : List Byte) (x : Node) : Nat :=
  if !(preloadSegs b).all (capacityHolds x.decl) then 2
  else if x.preload (fld b 0 1) = [] ∧ x.modes ≤ x.preloads.length then 1
  else 0

/-- PRELOAD (R78): a stored preload brings its path delays. -/
def execPreload (node : Nat) (s : State) : Host.Outcome State Fault Refusal :=
  .next (s.serve node 0x10 (fun x =>
    let b := x.body
    let r := x.preloadResult b
    let y := if r = 0 then { x with preloads := Tbl.set [] x.preloads (fld b 0 1) b, pdNext := some (fldI b 16 4, fldI b 20 4) } else x
    y.answer 0x90 (le 1 (fld b 0 1) ++ le 1 r)))

/-- UNLOAD. -/
def execUnload (node : Nat) (s : State) : Host.Outcome State Fault Refusal :=
  .next (s.serve node 0x11 (fun x => { x with preloads := Tbl.set [] x.preloads (fld x.body 0 1) [] }.answer 0x91 []))

/-- EMPTY_CFG (R86). -/
def execEmptyCfg (node : Nat) (s : State) : Host.Outcome State Fault Refusal :=
  .next (s.serve node 0x12 (fun x => { x with empties := Tbl.set [] x.empties (fld x.body 0 1) x.body }.answer 0x92 []))

/-- DELAY (R71, R73). -/
def execDelay (node : Nat) (s : State) : Host.Outcome State Fault Refusal :=
  .next (s.serve node 0x13 (fun x => x.answer 0x93 (leInt 4 (x.delta.getD (-0x80000000)) ++ slice x.decl 15 2)))

/-- PDELAY_SET: from the next tick. -/
def execPdelaySet (node : Nat) (s : State) : Host.Outcome State Fault Refusal :=
  .next (s.serve node 0x14 (fun x => { x with pdNext := some (fldI x.body 0 4, fldI x.body 4 4) }.answer 0x94 []))

/-- COUNTERS (R85). -/
def execCounters (node : Nat) (s : State) : Host.Outcome State Fault Refusal :=
  .next (s.serve node 0x15 (fun x =>
    x.answer 0x95 (le 4 x.emptyRx ++ le 4 x.noCopy ++ le 4 x.hdrErr ++ le 4 x.segErr ++ le 4 x.dups ++ le 4 x.replaced)))

/-- MAILBOX_RELEASE (Table 3.4, R87): the answer is still sent under the address given up. -/
def execMailboxRelease (node : Nat) (s : State) : Host.Outcome State Fault Refusal :=
  .next (s.serve node 0x1F (fun x =>
    let y := x.discard
    { y with releasing := x.addr, blocks := Tbl.canon {} y.blocks, steps := Tbl.canon {} y.steps }.answer 0x9F []))

/-- A service of Table 3.4 that every node knows. -/
def knownService (svc : Nat) : Bool := [0x02, 0x10, 0x11, 0x12, 0x13, 0x14, 0x15, 0x1F].contains svc

/-- UNKNOWN_SERVICE. -/
def execUnknownService (node : Nat) (s : State) : Host.Outcome State Fault Refusal :=
  let x := s.node node
  .next (match x.box.inbox with
    | m :: _ => if knownService (fld m 0 1) then s else s.updNode node (fun x => x.answer 0xFF (le 1 (fld m 0 1)))
    | [] => s)

/-! The safety part (R329 to R336). -/

/-- The safe state. -/
def NodeSafe.toSafe (x : NodeSafe) : NodeSafe := { x with sto := true, brake := true, data := [] }

/-- A connection fault (R332, R333). -/
def NodeSafe.fail (x : NodeSafe) : NodeSafe := { x.toSafe with state := 3 }

/-- Take the start parameters, if they are within the part's limits (R333). -/
def NodeSafe.adopt (clk : Nat) (b : List Byte) (x : NodeSafe) : NodeSafe :=
  let swd := fld b 3 2
  let ok := fld b 6 1 == x.kind && decide (swd ≤ x.swdMax) && decide (fld b 5 1 ≤ x.winMax)
  { x with lastSeq := fld b 0 2, heardAt := clk, adopted := ok, swd := if ok then swd else x.swd, win := if ok then fld b 5 1 else x.win }

/-- A downlink container that passed its CRC (R331, R333, R334). `seq` is the SEQ a starting part counts from. -/
def NodeSafe.down (clk seq : Nat) (b : List Byte) (x : NodeSafe) : NodeSafe :=
  let init := bit (fld b 2 1) 0
  let d := (fld b 0 2 + 65536 - x.lastSeq) % 65536
  let win := if x.state = 1 ∧ !x.adopted then fld b 5 1 else x.win
  if init ∧ x.state ≠ 1 then { x.toSafe with state := 1, seqOut := seq % 65536 }.adopt clk b
  else if x.state ≠ 1 ∧ x.state ≠ 2 then x
  else if d = 0 ∨ 32768 ≤ d then x
  else if win < d then x.fail
  else if init then x.adopt clk b
  else if !x.adopted then x
  else
    let data := if bit (fld b 2 1) 2 then [] else slice b 3 5
    { x with state := 2, lastSeq := fld b 0 2, heardAt := clk, data := data, sto := !bit (fld data 0 1) 0, brake := !bit (fld data 0 1) 1 }

/-- A block or segment whose gate-drive energy is removed is off. -/
def Node.enforceSto (k : Nat) (x : Node) : Node :=
  if !x.stoOf k then x
  else if k < 4 then { x with blocks := Tbl.modify {} x.blocks k NodeBlock.off }
  else if k = 8 then { x with steps := x.steps.map (fun e => (e.1, { e.2 with sfl := e.2.sfl ||| 2 })) }
  else x

/-- NODE_SAFE_CONTAINER_RX: a downlink container at a place of the node, from the first copy that passes its checks (R47). -/
def execNodeSafeContainerRx (node : Nat) (place : Nat) (b : List Byte) (s : State) : Host.Outcome State Fault Refusal :=
  let p := Tbl.get {} (s.node node).safe place
  let good := b.length == 12 && fld b 8 4 == crcReflected 0xC8DF352F (le 4 p.connId ++ slice b 0 8)
  .next (if p.kind = 0 ∨ !good then s
    else
      let (f, s) := s.fresh
      s.updNode node (fun x => { x with safe := Tbl.modify {} x.safe place (NodeSafe.down s.clk f b) }.enforceSto place))

/-- NODE_SAFE_WATCHDOG (R332). -/
def execNodeSafeWatchdog (node : Nat) (place : Nat) (s : State) : Host.Outcome State Fault Refusal :=
  let p := Tbl.get {} (s.node node).safe place
  .next (if p.kind ≠ 0 ∧ p.adopted ∧ (p.state = 1 ∨ p.state = 2) ∧ p.heardAt + p.swd * 8000 ≤ s.clk then
    s.updNode node (fun x => { x with safe := Tbl.modify {} x.safe place NodeSafe.fail }.enforceSto place) else s)

end Sys2Proof.Machine
end

