-- ==== Sys2Proof/Machine/Registers.lean ====
section
/-! DEFINITION. Sys2Proof/Machine/Registers.lean: register reads and writes over BAR0 and BAR2 (R5, R6, R394, R395), the window of
BAR4, and the opcodes that read registers: REG_READ, REG_WRITE and the status opcodes of the chapters. -/

namespace Sys2Proof.Machine

/-! Reading. -/

/-- A virtual master's task is bound and runs in the active mode (VM_STAT.RUN, R221). -/
def State.vmRuns (s : State) (v : Nat) : Bool :=
  let b := s.desc (s.ru .vm v 3 1) (s.ru .vm v 4 2)
  Tbl.get [] s.recs (RecKind.vm.key v) != [] && s.rb .CYC_MODE_RUN && partakesMode b (s.r .CYC_MODE_SM)

/-- The number of enabled descriptors of a die for which a condition holds (Table 5.7). -/
def State.descCount (s : State) (g : Nat) (p : List Byte → Bool) : Nat :=
  ((s.dieDescs g).filter (fun d => descEnabled d.2 && p d.2)).length

/-- A bit set over contexts. -/
def ctxBits (p : Nat → Bool) : Nat := ((List.range 8).filter p).foldl (fun v c => v + 2 ^ c) 0

/-- The value a field shows: its home in the register file, or what it is a view of. -/
def State.shown (s : State) (f : Fld) (i : Nat) : Nat :=
  match f with
  | .RK_SERIAL_LO_SERIAL => s.fuse .serial % 2 ^ 32
  | .RK_SERIAL_HI_SERIAL => s.fuse .serial / 2 ^ 32 % 2 ^ 32
  | .TB_INC_LO_INC => (s.tb i).inc % 2 ^ 32
  | .TB_INC_HI_INC => (s.tb i).inc / 2 ^ 32 % 2 ^ 32
  | .TIN_STAT_FILL => (s.tin i).queue.length
  | .PTP_STAT_TXQ => (s.ptp i).entries.length
  | .MO_STAT_FC => (Tbl.get {} s.axes i).fc
  | .MO_STAT_MODE => (s.motion i).mode
  | .VM_STAT_SRC => s.ru .vm i 0 1 % 4
  | .VM_STAT_RUN => b2n (s.vmRuns i)
  | .LC_DBG_DEBUG => b2n s.debugOpen
  | .GR_USE_DESC => s.descCount i (fun _ => true)
  | .GR_USE_DELAY => s.descCount i descDelayed
  | .ETH_STAT_SET => s.addressSet
  | .HOST_STAT_OPEN => ctxBits (fun c => (s.ctx c).isOpen)
  | .HOST_STAT_CFG_CTX => s.cfgLease.getD 0
  | .HOST_STAT_CFG_HELD => b2n s.cfgLease.isSome
  | .HOST_CTX_STATE => if s.twinPath i then 2 else b2n (s.ctx i).isOpen
  | .HOST_CTX_CONFIG => b2n (s.cfgLease == some i)
  | .HOST_CTX_RIGHTS => if s.twinPath i then 7 else (s.ctx i).rights
  | .HOST_SEQ_NEXT => (s.ctx i).nextSeq
  | .HOST_SEQ_EVNEXT => (s.ctx i).evNext
  | .CTX_STAT_SESSION => b2n (s.ctx i).isOpen
  | .AG_SLACK_FRESH => s.fuse .freshSlack i
  | .FW_KEYS_REVOKED => s.fuse .keyRevoked
  | .FW_RB_MAJOR => s.fuse .antiRollback
  | .FW_ACT_VERSION => s.fwVersion i
  | .FW_ALT_VERSION => s.fwAlternate i
  | .SAF_STEPS_LEFT => 2048 - s.fuse .versionSteps
  | .SOOT_HELD_COUNT => s.soot.memRing.length
  | f => s.r f i

/-- Read one field for a context: the time words and REC_TLAST latch (R300, R275), the lease left is rounded in a way the manual
does not state (log 12), a WO field reads zero and an RC field clears (R5, R6). -/
def State.readFld (s : State) (c : Nat) (f : Fld) (i : Nat) : Nat × State :=
  match f with
  | .TB_NOW0_T => s.nowRead c i 0
  | .TB_NOW1_T => s.nowRead c i 1
  | .TB_NOW2_T => s.nowRead c i 2
  | .REC_TLAST0_T => s.tlastRead i 0
  | .REC_TLAST1_T => s.tlastRead i 1
  | .REC_TLAST2_T => s.tlastRead i 2
  | .UPD_LEFT_SECONDS =>
    match s.update.ends with
    | some e => let (q, s) := s.freeQuot (e - s.now0) (msT 1000); (min q 65535, s)
    | none => (0, s)
  | .HOST_CTX_LEASE => if (s.ctx i).isOpen then s.freeQuot ((s.ctx i).leaseEnd - s.now0) (msT 1) else (0, s)
  | f =>
    match f.info.access with
    | .wo => (0, s)
    | .rc => (s.shown f i, s.rc f i)
    | _ => (s.shown f i, s)

/-- The index at which a field lies in the register at a BAR0 address (Table 14.6), if it lies there. -/
def Fld.index (f : Fld) (a : Nat) : Option Nat :=
  let r := f.info
  let o := r.block.base + r.offset
  if r.block = .bar2 ∨ a < o then none
  else if r.stride = 0 then (if a = o then some 0 else none)
  else if (a - o) % r.stride = 0 ∧ (a - o) / r.stride < r.count then some ((a - o) / r.stride) else none

/-- The index of a ring register's field at a BAR2 offset of an endpoint (Table 14.7). -/
def Fld.index2 (f : Fld) (e x : Nat) : Option Nat :=
  let r := f.info
  if r.block ≠ .bar2 ∨ x < r.offset then none
  else if r.stride = 0 then (if x = r.offset then some e else none)
  else if (x - r.offset) % 32 = 0 ∧ (x - r.offset) / 32 < 3 then some (e * 3 + (x - r.offset) / 32) else none

/-- The fields of the register at a BAR0 address, with their index. -/
def fieldsAt (a : Nat) : List (Fld × Nat) := Fld.all.filterMap (fun f => (f.index a).map (fun i => (f, i)))

/-- The fields of the ring register at a BAR2 offset. -/
def fieldsAt2 (e x : Nat) : List (Fld × Nat) := Fld.all.filterMap (fun f => (f.index2 e x).map (fun i => (f, i)))

/-- Read the fields of one register for a context, in one access. -/
def State.readFields (s : State) (c : Nat) (fs : List (Fld × Nat)) : Nat × State :=
  fs.foldl (fun (r : Nat × State) f => let (v, t) := r.2.readFld c f.1 f.2; (r.1 + v * 2 ^ f.1.info.lo, t)) (0, s)

/-- Read the register at a BAR0 address for a context; what no table names reads zero (R5, R395). -/
def State.readReg (s : State) (c a : Nat) : Nat × State := s.readFields c (fieldsAt a)

/-- Read `n` registers from a BAR0 address on, as their bytes. -/
def State.readRegs (s : State) (c : Nat) : Nat → Nat → List Byte × State
  | _, 0 => ([], s)
  | a, n + 1 =>
    let (v, s) := s.readReg c a
    let (bs, s) := State.readRegs s c (a + 4) n
    (le 4 v ++ bs, s)

/-- The word at a byte of the BAR4 window onto the acquisition area (R394): that of the record whose buffer holds the entry;
elsewhere memory that nothing has written (log 2). -/
def State.readWindow (s : State) (x : Nat) : Nat :=
  match (List.range 32).find? (fun r => (s.acq r).configured && decide (s.r .ACQ_WIN_FIRST r ≤ x / 64) &&
      decide (x / 64 < s.r .ACQ_WIN_FIRST r + acqLength (s.cfg .acq r))) with
  | some r => fld (Tbl.get [] (s.acq r).buf (x / 64 - s.r .ACQ_WIN_FIRST r)) (x % 64) 4
  | none => 0

/-- RC_READ: an aligned 32-bit read through an endpoint (R5, R6, R394, R395). Other accesses complete with Unsupported Request and
change nothing. The layout of the MSI-X pending bits is not the manual's: the words from 0x1800 read free. -/
def execRcRead (endpoint : Fin 2) (bar : Bar) (offset : Nat) (s : State) : Host.Outcome State Fault Refusal :=
  let e := endpoint.val
  if offset % 4 ≠ 0 then .next s
  else
    match bar with
    | .bar0 => let (v, s) := s.readReg e offset; .next (s.readBack v)
    | .bar4 => .next (s.readBack (s.readWindow offset))
    | .bar2 =>
      if offset < 0x1000 then let (v, s) := s.readFields e (fieldsAt2 e offset); .next (s.readBack v)
      else if offset < 0x1040 then .next (s.readBack (Tbl.get 0 s.msixTab (e * 16 + (offset - 0x1000) / 4)).toNat)
      else if 0x1800 ≤ offset ∧ offset < 0x1808 then .next (s.fresh.2.readBack s.fresh.1)
      else .next (s.readBack 0)

/-! Writing. -/

/-- The value an RW field takes from a write: the ranges of its table (R10, Tables 1.5, 3.9, 13.4 and 16.5). -/
def State.ruled (s : State) (f : Fld) (i v : Nat) : Nat :=
  let old := s.r f i
  let unlessZero := if v = 0 then old else v
  match f with
  | .AX_LATE_LIMIT | .TWIN_CFG_LATE_LIMIT | .TK_CFG_RSTEP | .TK_DRIFT_DRIFT_LIMIT | .TK_DRIFT_READMIT | .AG_CFG_WARN_DAYS => unlessZero
  | .RK_CFG_TOPO => if v = 0 ∨ v = 3 then old else v
  | .SW_CFG_ARM_LEAD => if v = 0 then old else max v 16
  | .TK_CFG_SLEW => if v = 0 then old else min v 320
  | .TWIN_CFG_EPS_MAX => if v < 10 ∨ 1000 < v then old else v
  | _ => v

/-- Save a register field to the flash configuration (R7). -/
def State.saveFld (s : State) (f : Fld) (i : Nat) : State :=
  let v := BitVec.ofNat 32 (s.r f i)
  { s with regsFlash := Tbl.set f.dflt s.regsFlash (f.key i) v }.alsoOld (fun a => { a with regs := Tbl.set f.dflt a.regs (f.key i) v })

/-- Write an RW field; one of class N reaches the flash configuration as well (R7). -/
def State.writeRw (s : State) (f : Fld) (i v : Nat) : State :=
  let s := s.w f i (s.ruled f i v)
  if f.info.retention = .n then s.saveFld f i else s

/-- What a write of a WO field triggers: LC_DBG of a core (R122). -/
def State.trigger (s : State) (f : Fld) (i v : Nat) : State :=
  match f with
  | .LC_DBG_HALT_REQ =>
    if v = 1 ∧ s.debugOpen ∧ s.r .LC_STAT_STATE i = 1 then s.updCore i (fun x => { x with haltReq := true }) else s
  | .LC_DBG_RESUME => if v = 1 ∧ s.r .LC_STAT_STATE i = 2 then s.w .LC_STAT_STATE i 1 else s
  | _ => s

/-- Write one field of a register (R5). -/
def State.writeFld (s : State) (word : Nat) (f : Fld) (i : Nat) : State :=
  let v := bits word f.info.hi f.info.lo
  match f.info.access with
  | .rw => s.writeRw f i v
  | .wo => s.trigger f i v
  | .w1c => s.w f i (s.r f i - (s.r f i &&& v))
  | .ro | .rc => s

/-- Write a word to the register at a BAR0 address. -/
def State.writeReg (s : State) (a word : Nat) : State :=
  (fieldsAt a).foldl (fun t f => t.writeFld word f.1 f.2) s

/-- A write of AG_CFG that would make SLACK_MIN not below SLACK_LO, or either of them 0, is discarded as a whole (Table 16.5). -/
def agWriteBad (a word : Nat) : Bool :=
  a == 0xE008C && (decide (bits word 23 16 ≤ bits word 31 24) || bits word 31 24 == 0)

/-- The axis whose AX_LATE register is at a BAR0 address (R32). -/
def lateRegAxis (a : Nat) : Option Nat := Fld.index .AX_LATE_LIMIT a

/-- A context may write the register at a BAR0 address (R395): it holds the lease, or owns the axis of an AX_LATE register. -/
def State.mayWrite (s : State) (c a : Nat) : Bool :=
  s.holdsLease c || (match lateRegAxis a with | some n => s.owns c n | none => false)

/-- A write of the register is carried out and not discarded. -/
def State.writes (s : State) (c a word : Nat) (flue : Bool) : Bool :=
  s.mayWrite c a && (flue || !s.standbyBound) && !agWriteBad a word

/-- A ring register that is ignored while ENABLE is 1, or written through a command of its own (Table 14.7). -/
def ringSetup (f : Fld) : Bool := f = .Q_BASE_LO_BASE || f = .Q_BASE_HI_BASE || f = .Q_SIZE_LOG2

/-- REGISTER_WRITE: an aligned 32-bit write through an endpoint to a register with no row of its own (R394, R395): BAR0 under the lease and
ownership rules, the ring setup and the MSI-X table in BAR2; writes to BAR4 are discarded. -/
def execRegisterWrite (endpoint : Fin 2) (bar : Bar) (offset : Nat) (value : W32) (s : State) : Host.Outcome State Fault Refusal :=
  let e := endpoint.val
  if offset % 4 ≠ 0 then .next s
  else
    match bar with
    | .bar4 => .next s
    | .bar0 =>
      if (fieldsAt offset).all (fun f => f.1.info.access = .ro) then .next s
      else if s.writes e offset value.toNat false then .next (s.writeReg offset value.toNat)
      else .next (s.inc .HOST_CNT2_WR_DENIED e)
    | .bar2 =>
      if 0x1000 ≤ offset ∧ offset < 0x1040 then
        .next { s with msixTab := Tbl.set 0 s.msixTab (e * 16 + (offset - 0x1000) / 4) value }
      else .next ((fieldsAt2 e offset).foldl (fun t f =>
        if ringSetup f.1 && !t.rb .CTX_CTRL_ENABLE e then t.w f.1 f.2 (bits value.toNat f.1.info.hi f.1.info.lo) else t) s)

/-- REG_READ (Table 14.13). -/
def execRegRead (p : Pkt) (s : State) : Host.Outcome State Fault Refusal :=
  let off := p.u 0 4
  let n := p.u 4 2
  .next (hostCmd 0x000D p s
    { plen := p.len == 8,
      checks := [(off % 4 == 0 && decide (off < 0x100000) && decide (n ≤ 1018) && zeroBytes p.params 6 2 && decide (off + 4 * n ≤ 0x100000), .badParam)] }
    fun s => let (b, s) := s.readRegs p.ctx off n; (s, b))

/-- REG_WRITE (Table 14.13): as a BAR0 write, NOT_OWNER where that write is discarded; an OFFSET out of its range names no write. -/
def execRegWrite (p : Pkt) (s : State) : Host.Outcome State Fault Refusal :=
  let off := p.u 0 4
  let ok := off % 4 == 0 && decide (off < 0x100000)
  .next (hostCmd 0x000E p s
    { plen := p.len == 8, fwd := true,
      need := .write (!ok || s.writes p.ctx off (p.u 4 4) (p.port == .flue)) (if s.holdsLease p.ctx then none else lateRegAxis off),
      checks := [(ok, .badParam)],
      onRefuse := fun st s => if st = .notOwner then s.inc .HOST_CNT2_WR_DENIED p.ctx else s }
    fun s => (s.writeReg off (p.u 4 4), []))

/-! The status opcodes: registers read in offset order, RC fields clearing. -/

/-- A status opcode of `n` registers from a BAR0 address on, for an index in range. -/
def statusGet (op : Nat) (p : Pkt) (s : State) (plen : Nat) (ok : Bool) (a n : Nat) : State :=
  hostCmd op p s { plen := p.len == plen, checks := [(ok, .badParam)] } fun s => let (b, s) := s.readRegs p.ctx a n; (s, b)

/-- RING_STATUS_GET: RING_STAT, RING_BRK and the nine counters of each port, 80 bytes (Table 2.18). -/
def execRingStatusGet (p : Pkt) (s : State) : Host.Outcome State Fault Refusal :=
  .next (hostCmd 0x0100 p s { plen := p.len == 0 } fun s =>
    let (x, s) := s.readRegs p.ctx 0x20000 2
    let (a, s) := s.readRegs p.ctx 0x20010 9
    let (b, s) := s.readRegs p.ctx 0x20050 9
    (s, x ++ a ++ b))

/-- RING_COUNTERS_GET: four registers of each address from FIRST on (R60). -/
def execRingCountersGet (p : Pkt) (s : State) : Host.Outcome State Fault Refusal :=
  let first := p.u 0 1
  let n := p.u 1 1
  .next (hostCmd 0x0101 p s
    { plen := p.len == 2, checks := [(decide (1 ≤ first) && decide (first ≤ 254) && decide (first + n ≤ 255), .badParam)] }
    fun s => let (b, s) := s.readRegs p.ctx (0x20100 + 16 * first) (4 * n); (s, b))

/-- TWIN_STATUS_GET: TWIN_STAT to TWIN_PSER_HI, 36 bytes (Table 13.5). -/
def execTwinStatusGet (p : Pkt) (s : State) : Host.Outcome State Fault Refusal := .next (statusGet 0x0140 p s 0 true 0x40000 9)

/-- TWIN_AX_GET (Table 13.5). -/
def execTwinAxGet (p : Pkt) (s : State) : Host.Outcome State Fault Refusal :=
  let first := p.u 0 2
  let n := p.u 2 2
  .next (hostCmd 0x0145 p s
    { plen := p.len == 4, checks := [(decide (first ≤ 639) && decide (n ≤ 640) && decide (first + n ≤ 640), .badParam)] }
    fun s => let (b, s) := s.readRegs p.ctx (0x40100 + 4 * first) n; (s, b))

/-- FB_STATUS_GET: the axis position, its speed, θe and the four registers, 36 bytes (Table 6.9). -/
def execFbStatusGet (p : Pkt) (s : State) : Host.Outcome State Fault Refusal :=
  let a := p.u 0 1
  .next (hostCmd 0x0206 p s { plen := p.len == 1, checks := [(decide (a < 128), .badParam)] } fun s =>
    let (b, t) := s.readRegs p.ctx (0x70000 + 16 * a) 4
    (t, leInt 8 (s.fb a).pos ++ leInt 8 (s.fb a).speed ++ le 4 (s.fb a).theta ++ b))

/-- EMU_STATUS_GET. -/
def execEmuStatusGet (p : Pkt) (s : State) : Host.Outcome State Fault Refusal :=
  .next (statusGet 0x0211 p s 1 (decide (p.u 0 1 < 4)) (0x70800 + 16 * p.u 0 1) 2)

/-- SERVO_STATUS_GET. -/
def execServoStatusGet (p : Pkt) (s : State) : Host.Outcome State Fault Refusal :=
  .next (statusGet 0x0229 p s 1 (decide (p.u 0 1 < 128)) (0x80000 + 32 * p.u 0 1) 8)

/-- MOTION_STATUS_GET. -/
def execMotionStatusGet (p : Pkt) (s : State) : Host.Outcome State Fault Refusal :=
  .next (statusGet 0x0380 p s 2 (decide (p.u 0 2 < 640)) (0x90000 + 32 * p.u 0 2) 8)

/-- GRATE_STATUS_GET. -/
def execGrateStatusGet (p : Pkt) (s : State) : Host.Outcome State Fault Refusal :=
  .next (statusGet 0x0A17 p s 1 (decide (p.u 0 1 < 4)) (0x60000 + 64 * p.u 0 1) 9)

/-- FIELD_STATUS_GET. -/
def execFieldStatusGet (p : Pkt) (s : State) : Host.Outcome State Fault Refusal := .next (statusGet 0x0605 p s 0 true 0xC0000 4)

/-- FIELD_CH_STATUS_GET. -/
def execFieldChStatusGet (p : Pkt) (s : State) : Host.Outcome State Fault Refusal :=
  .next (statusGet 0x0606 p s 1 (decide (p.u 0 1 < 24)) (0xC0100 + 16 * p.u 0 1) 3)

/-- POWER_STATUS_GET: six registers, 24 bytes (Table 16.10). -/
def execPowerStatusGet (p : Pkt) (s : State) : Host.Outcome State Fault Refusal := .next (statusGet 0x0023 p s 0 true 0xE0000 6)

/-- HEALTH_GET: ten registers, 40 bytes. -/
def execHealthGet (p : Pkt) (s : State) : Host.Outcome State Fault Refusal := .next (statusGet 0x0024 p s 0 true 0xE0020 10)

/-- SOOT_STATUS_GET: three registers, 12 bytes. -/
def execSootStatusGet (p : Pkt) (s : State) : Host.Outcome State Fault Refusal := .next (statusGet 0x0902 p s 0 true 0xE0100 3)

/-- TRACE_STATUS_GET: four registers, 16 bytes. -/
def execTraceStatusGet (p : Pkt) (s : State) : Host.Outcome State Fault Refusal := .next (statusGet 0x0911 p s 0 true 0xE0110 4)

/-- UPDATE_STATUS_GET: four registers, 16 bytes (Table 15.6). -/
def execUpdateStatusGet (p : Pkt) (s : State) : Host.Outcome State Fault Refusal := .next (statusGet 0x0807 p s 0 true 0xF0000 4)

end Sys2Proof.Machine
end

