-- ==== Sys2Proof/Machine/RingCmd.lean ====
section
/-! DEFINITION. Sys2Proof/Machine/RingCmd.lean: the ring operation opcodes of Table 3.10 (R95). -/

namespace Sys2Proof.Machine

/-! Kindling and stopping. -/

/-- RING_KINDLE (R61). -/
def execRingKindle (p : Pkt) (s : State) : Host.Outcome State Fault Refusal :=
  let k := p.u 2 1
  .next (hostCmd 0x0110 p s
    { plen := p.len == 4, need := .lease, fwd := true,
      checks :=
        [(decide (p.u 0 1 ≤ 1) && (p.u 1 1 == 1 || p.u 1 1 == 2) && (decide (k < 8) || k == 0xFF) && decide (p.u 3 1 ≤ 1) &&
            (k == 0xFF || (s.sched k).phase == 2), .badParam),
         (s.headIs .off || s.headIs .conflict, .badState)] }
    fun s =>
      let s := ((s.w .RK_CFG_GEN 0 (p.u 0 1)).w .RK_CFG_TOPO 0 (p.u 1 1)).w .RK_CFG_START_SM 0 k
      let s := if bit (p.u 3 1) 0 then ((s.saveFld .RK_CFG_GEN 0).saveFld .RK_CFG_TOPO 0).saveFld .RK_CFG_START_SM 0 else s
      (s.goListen, []))

/-- The head sends frames, and stops at a tick only. -/
def State.sends (s : State) : Bool := s.cyclic || s.kindles

/-- RING_STOP (R61): at the next tick where frames are being sent, otherwise at once; nothing in OFF. -/
def execRingStop (p : Pkt) (s : State) : Host.Outcome State Fault Refusal :=
  .next (hostCmd 0x0111 p s { plen := p.len == 0, need := .lease } fun s =>
    (if s.headIs .off then s else if s.sends then s.updHead (fun h => { h with stopping := true }) else s.goOff, []))

/-! Nodes. -/

/-- A record of RING_NODES_GET. -/
def State.nodeRecord (s : State) (a : Nat) : List Byte :=
  le 1 a ++ le 1 (s.r .NODE_STATE_PRESENCE a) ++ le 1 (s.r .NODE_STATE_CLASS a) ++
    le 1 (s.r .NODE_STATE_KEEPER a + 2 * s.r .NODE_STATE_IN_SET a + 4 * s.r .NODE_STATE_LOCKED a) ++ le 2 (s.r .NODE_STATE_VENDOR a) ++
    slice (s.hnode a).claim 17 2 ++ le 4 (s.r .NODE_SERIAL_LO_SERIAL a) ++ le 4 (s.r .NODE_SERIAL_HI_SERIAL a)

/-- RING_NODES_GET. -/
def execRingNodesGet (p : Pkt) (s : State) : Host.Outcome State Fault Refusal :=
  let first := p.u 0 1
  let n := p.u 1 1
  .next (hostCmd 0x0112 p s
    { plen := p.len == 2, checks := [(decide (1 ≤ first) && decide (first ≤ 254) && decide (first + n ≤ 255), .badParam)] }
    fun s => (s, (List.range n).flatMap (fun i => s.nodeRecord (first + i))))

/-- Take an identity out of the map: at once where no node holds the address, and otherwise from its holder's next claim on. -/
def State.unmap (s : State) (a : Nat) : State :=
  if s.r .NODE_STATE_PRESENCE a = 1 ∨ s.r .NODE_STATE_PRESENCE a = 2 then
    { s with addrMap := Tbl.modify none s.addrMap a (fun e => e.map (fun x => { x with old := true })) }
  else (s.setMap a none).w .NODE_STATE_PRESENCE a 0

/-- The address that a saved map gives an identity. -/
def savedAddr (m : Tbl (Option MapEntry)) (v n : Nat) : Option Nat :=
  (m.find? (fun e => match e.2 with | some x => x.vendor == v && x.serial == n | none => false)).map (·.1)

/-- A saved map with an identity's entry written; address 0 deletes it. -/
def savedMap (v n a : Nat) (m : Tbl (Option MapEntry)) : Tbl (Option MapEntry) :=
  let m := match savedAddr m v n with | some b => Tbl.set none m b none | none => m
  if a = 0 then m else Tbl.set none m a (some { vendor := v, serial := n, fixed := true })

/-- Write an identity's entry in the saved map. -/
def State.saveMap (s : State) (v n a : Nat) : State :=
  { s with mapFlash := savedMap v n a s.mapFlash }.alsoOld (fun x => { x with map := savedMap v n a x.map })

/-- A node told to wait whose identity now has an address claims again for the next roll-call window. -/
def State.recallWaiting (s : State) (v n : Nat) : State :=
  if s.head.waiting.contains (v, n) then
    match s.head.known.find? (fun k => k.vendor == v && k.serial == n) with
    | some k => s.updHead (fun h => { h with
        claims := h.claims.filter (fun c => !(c.vendor == v && c.serial == n)) ++ [{ vendor := v, serial := n, lastAddr := fld k.claim 30 1, claim := k.claim }] })
    | none => s
  else s

/-- RING_ADDR_SET: map an identity to an address, or delete its entry. -/
def execRingAddrSet (p : Pkt) (s : State) : Host.Outcome State Fault Refusal :=
  let v := p.u 0 2
  let n := p.u 2 8
  let a := p.u 10 1
  .next (hostCmd 0x0113 p s
    { plen := p.len == 12, need := .lease, fwd := true,
      checks := [(decide (a ≤ 254) && decide (p.u 11 1 ≤ 1) &&
        (a == 0 || (match s.mapEntry a with | some e => e.vendor == v && e.serial == n | none => true)), .badParam)] }
    fun s =>
      let s := match s.mapped? v n with | some b => if b = a then s else s.unmap b | none => s
      let s :=
        if a = 0 then s
        else
          let s := s.setMap a (some { vendor := v, serial := n, fixed := true })
          let s := if s.r .NODE_STATE_PRESENCE a = 0 then s.w .NODE_STATE_PRESENCE a 3 else s
          s.recallWaiting v n
      (if bit (p.u 11 1) 0 then s.saveMap v n a else s, []))

/-- The ranges of Table 3.7 for REACT and HOLD. -/
def reactOk (ty react hold : Nat) : Bool :=
  match ty with
  | 1 => react == 0 || (react == 1 && decide (hold ≤ 8))
  | 2 => decide (react ≤ 2)
  | 3 => decide (react ≤ 2)
  | _ => false

/-- NODE_EMPTY_SET (R86): keeps the settings for the address and type, and sends EMPTY_CFG. -/
def execNodeEmptySet (p : Pkt) (s : State) : Host.Outcome State Fault Refusal :=
  let a := p.u 0 1
  let ty := p.u 1 1
  let body := le 1 ty ++ le 1 (p.u 2 1) ++ le 1 (p.u 3 1) ++ [0] ++ p.params.drop 4
  .next (hostCmd 0x0130 p s
    { plen := p.len == 4 || (p.u 1 1 == 3 && decide (4 < p.len) && decide (p.len ≤ 260) && p.len % 4 == 0), need := .lease, fwd := true,
      checks :=
        [(decide (1 ≤ a) && decide (a ≤ 254) && decide (1 ≤ ty) && decide (ty ≤ 3) && reactOk ty (p.u 2 1) (p.u 3 1), .badParam),
         (s.r .NODE_STATE_PRESENCE a == 1, .badState)] }
    fun s => (({ s with empties := Tbl.set [] s.empties (a * 8 + ty) body }).mail a 0x12 body, []))

/-- RING_TIME_GET. -/
def execRingTimeGet (p : Pkt) (s : State) : Host.Outcome State Fault Refusal :=
  .next (hostCmd 0x0131 p s { plen := p.len == 0 } fun s =>
    let (b, s) := s.readRegs p.ctx 0x30030 3
    (s, b ++ s.head.usedD.flatMap (fun d => le 1 d.1 ++ leInt 4 d.2)))

/-- RING_NODE_MAIL (R76): tunnels a message to a node; its answer is the reply. -/
def execRingNodeMail (p : Pkt) (s : State) : Host.Outcome State Fault Refusal :=
  let a := p.u 0 1
  .next (hostCmd 0x0132 p s
    { plen := decide (2 ≤ p.len), need := .lease, deferred := true,
      checks :=
        [(decide (1 ≤ a) && decide (a ≤ 254) && decide (0x40 ≤ p.u 1 1) && decide (p.u 1 1 ≤ 0x7F), .badParam),
         (s.r .NODE_STATE_PRESENCE a == 1, .badState),
         (decide (((s.hnode a).box.outq.filter (fun m => m.waiter.isSome)).length + (s.hnode a).box.awaiting.length < 4), .refusedFull)] }
    fun s => (s.updHnode a (fun h => { h with box := { h.box with
      outq := h.box.outq ++ [{ svc := p.u 1 1, body := p.params.drop 2, waiter := some p }] } }), []))

/-! Schedule modes (R77). -/

/-- A mode is active, or the target of an armed or pending switch. -/
def State.modeBusy (s : State) (k : Nat) : Bool :=
  (s.cyclic && s.mode == k) || (s.rb .SW_STAT_ARMED && s.r .SW_STAT_NEXT_SM == k)

/-- A node holds, or will hold, a preload of a mode. -/
def State.holdsPreload (s : State) (k a : Nat) : Bool :=
  (s.sched k).loaded.contains a || (s.hnode a).box.outq.any (fun m => m.svc == 0x10 && fld m.body 0 1 == k)

/-- SCHED_BEGIN: open a mode empty; a closed one is unloaded from the nodes that hold it (R13, R17, R18, R77). -/
def execSchedBegin (p : Pkt) (s : State) : Host.Outcome State Fault Refusal :=
  let k := p.u 0 1
  let period := p.u 4 4
  .next (hostCmd 0x0120 p s
    { plen := p.len == 14, need := .lease, fwd := true,
      checks :=
        [(decide (k < 8) && zeroBytes p.params 1 3 && decide (800 ≤ period) && decide (period ≤ 100000) && decide (2 * p.u 8 2 ≤ period) &&
            decide (2 * p.u 10 2 ≤ period) && decide (10 ≤ p.u 12 2) && decide (p.u 12 2 ≤ 1000), .badParam),
         (!s.modeBusy k, .badState)] }
    fun s =>
      let s := if (s.sched k).phase = 2 then
          (List.range 255).foldl (fun u a => if s.holdsPreload k a then u.mail a 0x11 (le 1 k) else u) s else s
      let s := s.updSched k (fun _ => { phase := 1, period := period, tinLead := p.u 8 2, toutOfs := p.u 10 2, pw := p.u 12 2 })
      (s.showPreloaded, []))

/-- An entry of SCHED_SEGMENTS. -/
def segEntry (b : List Byte) (i : Nat) : Seg :=
  { addr := fld b (2 + 8 * i) 1, ty := fld b (3 + 8 * i) 1, pa := fld b (4 + 8 * i) 1, pb := fld b (5 + 8 * i) 1, pc := fld b (6 + 8 * i) 1 }

/-- SCHED_SEGMENTS: append segments in frame order (R44, Table 2.7). -/
def execSchedSegments (p : Pkt) (s : State) : Host.Outcome State Fault Refusal :=
  let k := p.u 0 1
  let n := p.u 1 1
  let new := (List.range n).map (segEntry p.params)
  let all := place 0 ((s.sched k).segs ++ new)
  .next (hostCmd 0x0121 p s
    { plen := decide (2 ≤ p.len) && p.len == 2 + 8 * n, need := .lease, fwd := true,
      checks :=
        [(decide (k < 8) && new.all segOk && (List.range n).all (fun i => zeroBytes p.params (7 + 8 * i) 3) &&
            ((s.sched k).phase != 1 || (segsDistinct all && decide (frameLen all ≤ 65535))), .badParam),
         ((s.sched k).phase == 1, .badState)] }
    fun s => (s.updSched k (fun m => { m with segs := all }), []))

/-- SCHED_KEEPERS: the keeper set. -/
def execSchedKeepers (p : Pkt) (s : State) : Host.Outcome State Fault Refusal :=
  let k := p.u 0 1
  let n := p.u 1 1
  let l := (List.range n).map (fun i => p.u (2 + i) 1)
  .next (hostCmd 0x0122 p s
    { plen := decide (2 ≤ p.len) && p.len == 2 + n, need := .lease, fwd := true,
      checks :=
        [(decide (k < 8) && (n == 0 || (decide (3 ≤ n) && decide (n ≤ 16))) && l.all (fun a => decide (1 ≤ a) && decide (a ≤ 254)), .badParam),
         ((s.sched k).phase == 1, .badState)] }
    fun s => (s.updSched k (fun m => { m with keepers := l.eraseDups }), []))

/-- SCHED_CLOSE: admit a mode under R77, classify it under R41, and preload it. -/
def execSchedClose (p : Pkt) (s : State) : Host.Outcome State Fault Refusal :=
  let k := p.u 0 1
  let m := s.planMode k (s.sched k)
  .next (hostCmd 0x0123 p s
    { plen := p.len == 1, need := .lease, fwd := true,
      checks :=
        [(decide (k < 8) && (m.phase != 1 || (s.admits k m && s.modeDwellFits m && s.modeStepFits m &&
            decide ((m.segs.filter (fun g => g.ty == 5)).length ≤ 8))), .badParam),
         (m.phase == 1, .badState)] }
    fun s =>
      let s := s.updSched k (fun _ => { m with phase := 2, noFit := false, loaded := [], barred := [] })
      let s := if m.cls = 2 then
          s.raise .ringBreakUncovered 0 0 0 (le 1 k ++ [0, 0, 0] ++ le 4 m.brk ++
            le 4 (((modeDescs s.allDescs k).filter (fun d => (m.slot d.2.2).isSome)).foldl (fun v d => max v (descWcet d.2.2)) 0))
        else s
      let s := m.nodes.foldl (fun u a => if (u.hnode a).started then u.preloadInto k a else u) s
      (s.showPreloaded, le 1 m.cls ++ le 2 (frameLen m.segs) ++ le 4 m.inDone ++ leInt 4 (computeWindow m.period m.inDone)))

/-- SCHED_SWITCH (R79, R70). -/
def execSchedSwitch (p : Pkt) (s : State) : Host.Outcome State Fault Refusal :=
  let k := p.u 0 1
  .next (hostCmd 0x0124 p s
    { plen := p.len == 1, need := .lease,
      checks :=
        [(decide (k < 8) && !(s.sched k).noFit, .badParam),
         (!s.rb .SW_STAT_ARMED && bit (s.r .SW_STAT_PRELOADED) k && !(s.cyclic && s.mode == k) &&
            (s.headIs .rollCall || s.headIs .cyclic || s.headIs .follow), .badState)] }
    fun s => (s.armSwitch k, []))

/-- SCHED_ABORT (Table 3.6). -/
def execSchedAbort (p : Pkt) (s : State) : Host.Outcome State Fault Refusal :=
  .next (hostCmd 0x0125 p s
    { plen := p.len == 0, need := .lease, checks := [(s.rb .SW_STAT_ARMED && !s.head.decided, .badState)] }
    fun s => (s.dropSwitch 2 0, []))

end Sys2Proof.Machine
end

