-- ==== Sys2Proof/Machine/SafOps.lean ====
section
/-! DEFINITION. Sys2Proof/Machine/SafOps.lean: what SAF does with connections, signals, safe functions, zones and dampers (R324 to R346).
SAF's own clock is measured in the model's clocks (log 31). -/

namespace Sys2Proof.Machine

/-! The safety parameter set in force (R348). -/

/-- What a record that nothing has set reads as: the defaults of Tables 12.10 to 12.12, a brake and resets of none, and zeros (log 36). -/
def safeDflt (key : Nat) : List Byte :=
  if key < 256 then le 8 0 ++ le 2 200 ++ [4, 10] ++ le 4 0
  else if key < 512 then le 6 0xFFFFFFFFFFFF ++ le 38 0 ++ [4, 16, 0xFF, 0]
  else if key < 768 then le 4 0 ++ le 2 50 ++ [0, 0]
  else if key < 1024 then [0xFF, 0xFF] ++ le 6 0
  else []

/-- A record of a set, by its key. -/
def safeGet (set : Tbl (List Byte)) (key : Nat) : List Byte :=
  match Tbl.get [] set key with
  | [] => safeDflt key
  | b => b

/-- A record of the set: 0 connection, 1 safe axis, 2 signal, 3 zone, 4 channel, 5 password. -/
def State.safRec (s : State) (kind i : Nat) : List Byte := safeGet s.safeSet (kind * 256 + i)

/-- The configured connections of a set. -/
def safConnIds (set : Tbl (List Byte)) : List Nat := (set.filter (fun (e : Nat × List Byte) => decide (e.1 < 256) && fld e.2 0 1 != 0)).map (fun e => e.1)

def State.safConn (s : State) (k : Nat) : SafConn := Tbl.get {} s.safConns k
def State.updSafConn (s : State) (k : Nat) (f : SafConn → SafConn) : State := { s with safConns := Tbl.modify {} s.safConns k f }

/-- Fields of a connection record (Table 12.10). -/
def State.cnAddr (s : State) (k : Nat) : Nat := fld (s.safRec 0 k) 0 1
def State.cnType (s : State) (k : Nat) : Nat := fld (s.safRec 0 k) 1 1
def State.cnZone (s : State) (k : Nat) : Nat := fld (s.safRec 0 k) 3 1 % 32
def State.cnId (s : State) (k : Nat) : Nat := fld (s.safRec 0 k) 4 4
def State.cnSwd (s : State) (k : Nat) : Nat := fld (s.safRec 0 k) 8 2
def State.cnKey (s : State) (k : Nat) : Nat := blockKey (s.cnAddr k) (s.cnType k) (fld (s.safRec 0 k) 2 1)

/-- A field of a safe-axis record (Table 12.11). -/
def State.ax (s : State) (k off n : Nat) : Nat := fld (s.safRec 1 k) off n

/-- A safe axis: a connection of kind servo or stepper. -/
def State.isSafeAxis (s : State) (k : Nat) : Bool := s.cnAddr k != 0 && (s.cnType k == 1 || s.cnType k == 2)

/-- The axes of a connection: a servo block's axis, or every axis of a stepper node. -/
def State.connAxes (s : State) (k : Nat) : List Nat :=
  match s.cnType k with
  | 1 => [fld (s.safRec 0 k) 12 2]
  | 2 => ((List.range 512).filter (fun j => s.ru .stepBind j 0 1 == s.cnAddr k)).map (· + 128)
  | _ => []

/-- The connections of a zone. -/
def State.zoneConns (s : State) (z : Nat) : List Nat := (safConnIds s.safeSet).filter (fun k => s.cnZone k == z)

/-- The SAF-owned outputs of a zone. -/
def State.zoneOuts (s : State) (z : Nat) : List Nat := (List.range 24).filter (fun c => bit (fld (s.safRec 3 z) 4 4) c)

def State.zoneOpen (s : State) (z : Nat) : Bool := !s.rb .SAF_ZONE_SHUT z

/-- A number of milliseconds in clocks. -/
def msClk (n : Nat) : Nat := n * 800000

/-! Signals (R338). -/

/-- A source reads 1. -/
def State.srcRead (s : State) (src : Nat) : Bool :=
  match src / 16384 with
  | 1 => s.rb .FIO_CH_STAT_OWNER (src % 32) && s.fioBit .FIO_IN_STATE (src % 32)
  | 2 =>
    let k := bits src 13 6
    s.r .SAF_CONN_STATE k == 2 && bit (leNat (s.safConn k).data) (src % 64)
  | _ => true

/-- The states of sources A and B, B after INV_B. -/
def State.sigSources (s : State) (g : Nat) : Bool × Bool :=
  let r := s.safRec 2 g
  let a := fld r 0 2
  let b := fld r 2 2
  (s.srcRead a, if b / 16384 = 0 then true else s.srcRead b != bit (fld r 6 1) 0)

/-- Both sources are given. -/
def State.sigTwo (s : State) (g : Nat) : Bool := fld (s.safRec 2 g) 0 2 / 16384 != 0 && fld (s.safRec 2 g) 2 2 / 16384 != 0

/-- A signal reads 1 only while every source it has reads 1, and not while it is held for a discrepancy. -/
def State.sigRead (s : State) (g : Nat) : Bool :=
  let (a, b) := s.sigSources g
  a && b && !(Tbl.get ({} : SafSig) s.safSigs g).held

/-- How long the sources disagree, and the end of a hold. -/
def State.sigStep (s : State) (g : Nat) : State :=
  let (a, b) := s.sigSources g
  { s with safSigs := Tbl.modify {} s.safSigs g (fun x =>
      let x := { x with since := if a != b && s.sigTwo g then (match x.since with | some t => some t | none => some s.clk) else none }
      if !x.held then x
      else if !a && !b then { x with bothZero := true }
      else if a && b && x.bothZero then { x with held := false, bothZero := false }
      else x) }

/-! Dampers (R344). -/

/-- SAF drives one of its outputs. -/
def State.safOut (s : State) (c : Nat) (on : Bool) : State :=
  if s.rb .FIO_CH_STAT_OWNER c then
    let s := s.updChan c (fun x => { x with saf := on })
    if on then s.drive c else s.driveOff c
  else s

/-- DAMPER_SHUT: a zone's damper shuts, with its first cause (Table 12.5) and the detail of Table 14.15. The next containers carry
RUN_PERMIT 0. -/
def State.shutZone (s : State) (z cause detail : Nat) : State :=
  if !s.zoneOpen z then s
  else
    let s := ((s.w .SAF_ZONE_CAUSE z cause).wb .SAF_ZONE_SHUT z true).w .SAF_SHUT_SHUT 0 (setBit (s.r .SAF_SHUT_SHUT) z true)
    let s := [2 * z, 2 * z + 1].foldl (fun t i => { t with safPresses := Tbl.modify {} t.safPresses i (fun x => { x with counts := false, released := false }) }) s
    let s := (s.zoneConns z).foldl (fun t k =>
      let t := t.updSafConn k (fun x => { x with ss1 := none, ss2 := none, sls := none, slsOn := false, sos := none, sdi := none })
      (t.connAxes k).foldl (fun u a => u.setClass a 4 .damperShut) t) s
    let s := (s.zoneOuts z).foldl (fun t c => t.safOut c false) s
    s.raise .damperShut 4 4 z (le 1 cause ++ [0] ++ le 2 detail) (cause + detail * 65536)

/-- Every damper shuts. -/
def State.shutAll (s : State) (cause : Nat) : State := (List.range 32).foldl (fun t z => t.shutZone z cause 0xFFFF) s

/-- FC4 of an axis clears; its other causes stay. -/
def State.endFc4 (s : State) (a : Nat) : State :=
  if s.fc a ≠ 4 then s
  else
    (s.updAxis a (fun x =>
      let rest := x.causes.filter (fun c => c.2 != 4)
      { x with fc := (rest.map (fun c => c.2)).foldl max 0, causes := rest })).leaveInhibit a

/-- A connection takes new anchors at its present positions (R341). -/
def SafConn.anchor (x : SafConn) : SafConn :=
  { x with
    anchorA := x.trackB.head?.bind (fun e => (x.trackA.find? (fun p => p.1 == e.1)).map (fun p => p.2.1))
    anchorB := x.trackB.head?.map (fun e => e.2.1)
    disc := 0 }

/-- DAMPER_OPEN (R346). -/
def State.openZone (s : State) (z : Nat) : State :=
  let s := ((s.wb .SAF_ZONE_SHUT z false).wb .SAF_ZONE_STUCK z false).w .SAF_SHUT_SHUT 0 (setBit (s.r .SAF_SHUT_SHUT) z false)
  let s := (s.zoneConns z).foldl (fun t k => (t.connAxes k).foldl State.endFc4 (t.updSafConn k SafConn.anchor)) s
  let s := (s.zoneOuts z).foldl (fun t c => t.safOut c true) s
  s.raise .damperOpen 0xFF 4 z

/-! Connections (R331 to R333). -/

/-- A connection fault: FAILED, and its zone shuts. -/
def State.connFault (s : State) (k : Nat) : State :=
  let s := (s.w .SAF_CONN_STATE k 3).inc .SAF_CONN_CNT2_FAULTS k
  let s := s.updSafConn k (fun x => { x with since := s.clk, data := [] })
  s.shutZone (s.cnZone k) 3 k

/-- Start a connection with INIT, its SEQ counting from a value of SAF's choice. -/
def State.connStart (s : State) (k : Nat) : State :=
  let (v, s) := s.fresh
  (s.w .SAF_CONN_STATE k 1).updSafConn k (fun x =>
    { req := x.req, stoAt := x.stoAt, stoFb := x.stoFb, sbcAt := x.sbcAt, brakeAt := x.brakeAt, sbcFb := x.sbcFb, seqOut := v % 65536,
      outFrame := s.cycle, since := s.clk })

/-- SC-A's position (R341): the 16-bit count extended; true where its step lies beyond 16,383. -/
def SafConn.spos (x : SafConn) (frame clk q : Nat) : SafConn × Bool :=
  let d : Int := match x.lastSpos with
    | some l => toSigned 16 (q + 65536 - l)
    | none => 0
  let c := if x.lastSpos.isNone then (q : Int) else x.countA + d
  ({ x with countA := c, lastSpos := some q, trackA := ((frame, c * 2 ^ 32, clk) :: x.trackA).take 65 }, decide (16383 < d.natAbs))

/-- An accepted uplink container in RUNNING. -/
def State.connAccept (s : State) (k frame : Nat) (b : List Byte) : State :=
  let data := slice b 3 5
  let s := (s.wb .SAF_CONN_STO_ACTIVE k (s.isSafeAxis k && bit (fld data 0 1) 0)).updSafConn k (fun x =>
    { x with lastIn := fld b 0 2, heard := s.clk, data := data })
  if s.cnType k = 1 then
    let (x, far) := (s.safConn k).spos frame s.clk (fld data 1 2)
    let s := s.updSafConn k (fun _ => x)
    if far && s.zoneOpen (s.cnZone k) then (s.raise .sposStep 0xFF 3 k).shutZone (s.cnZone k) 4 k else s
  else s

/-- This unit's SAF originates containers (R335, R369). -/
def State.originates (s : State) : Bool := !(s.isStandby && s.r .TWIN_STAT_SYNC != 4)

/-- An uplink container for a connection (R329, R331 to R333). A SAF that originates no container tracks a connection without INIT (R425). -/
def State.connUplink (s : State) (k frame : Nat) (b : List Byte) : State :=
  let s := s.updSafConn k (fun x => { x with inFrame := some frame })
  if fld b 8 4 ≠ crcReflected 0xC8DF352F (le 4 (s.cnId k + 2 ^ 31) ++ slice b 0 8) then s.inc .SAF_CONN_CNT_CRC_ERR k
  else
    let sctl := fld b 2 1
    match s.r .SAF_CONN_STATE k with
    | 1 =>
      if !bit sctl 1 && (s.originates || bit sctl 2) then s
      else ((s.w .SAF_CONN_STATE k 2).updSafConn k (fun x => { x with lastSpos := none, trackA := [], trackB := [], anchorA := none, anchorB := none })).connAccept k frame b
    | 2 =>
      let d := (fld b 0 2 + 65536 - (s.safConn k).lastIn) % 65536
      if d = 0 ∨ 32768 ≤ d then s.inc .SAF_CONN_CNT2_REPEAT k
      else if fld (s.safRec 0 k) 10 1 < d then s.connFault k
      else
        let s := s.inc .SAF_CONN_CNT_SEQ_GAP k (d - 1)
        if bit sctl 2 then s.connFault k else s.connAccept k frame b
    | _ => s

/-- The uplink containers handed over for a connection, oldest first, once each (R325). -/
def State.connInputs (s : State) (k : Nat) : State :=
  let b := Tbl.get [] s.contUp (s.cnKey k)
  let s := { s with contUp := Tbl.set [] s.contUp (s.cnKey k) [] }
  (List.range (b.length / 16)).foldl (fun t i =>
    let e := slice b (16 * i) 16
    if (t.safConn k).inFrame = some (fld e 0 4) then t else t.connUplink k (fld e 0 4) (slice e 4 12)) s

/-! Positions and speeds (R341, R342). -/

/-- The speed over the last `n` accepted containers: an amount of 2^-32 counts and the clocks it took. -/
def safSpeed (t : SafTrack) (n : Nat) : Nat × Nat :=
  match t with
  | [] => (0, 1)
  | x :: rest =>
    match (rest.take n).getLast? with
    | none => (0, 1)
    | some y => ((x.2.1 - y.2.1).natAbs, max 1 (x.2.2 - y.2.2))

/-- Clocks in a second of SAF's clock. -/
def safRate : Nat := 800000000

/-- A speed is at most a limit in counts per second. -/
def speedLe (v : Nat × Nat) (lim : Nat) : Bool := decide (v.1 * safRate ≤ lim * v.2 * 2 ^ 32)

/-- A speed keeps the envelope of a stop: v0 less DEC_MON for the time since, and never less than a floor. -/
def envelopeOk (v v0 : Nat × Nat) (dec elapsed floor : Nat) : Bool :=
  speedLe v floor ||
    decide (v.1 * v0.2 * safRate ^ 2 + dec * elapsed * v.2 * v0.2 * 2 ^ 32 ≤ v0.1 * v.2 * safRate ^ 2)

/-- SC-B's position for the newest frame whose raw position has come and is not yet taken: the present one or the one before. -/
def State.rawForB (s : State) (k frame : Nat) : Option (Nat × Int × Nat) :=
  let a := fld (s.safRec 0 k) 12 2
  let x := s.safConn k
  let lag := b2n (s.rb .RING_STAT_LAG)
  ([frame, cycAdd frame (Config.cycleModulus - 1)].filterMap (fun f =>
    match (s.fb a).hist.find? (fun h => h.1 == cycAdd f lag), x.trackA.find? (fun p => p.1 == f) with
    | some h, some p =>
      if x.trackB.any (fun q => q.1 == f) then none else some (f, s.rawPos a h.2 * (s.ax k 8 8 : Int), p.2.2)
    | _, _ => none)).head?

/-- The comparison of the two positions (R341): after DISC_N failing evaluations in a row, STO. -/
def State.compare (s : State) (k frame : Nat) : State :=
  let raw := s.rawForB k frame
  let s := s.updSafConn k (fun x =>
    let x := match raw with | some e => { x with trackB := (e :: x.trackB).take 65 } | none => x
    { x with
      anchorA := if x.anchorA.isNone then (x.trackB.head?.bind (fun e => (x.trackA.find? (fun p => p.1 == e.1)).map (fun p => p.2.1))) else x.anchorA
      anchorB := if x.anchorB.isNone then x.trackB.head?.map (fun e => e.2.1) else x.anchorB })
  let x := s.safConn k
  let d : Int := match x.trackB.head?, x.anchorA, x.anchorB with
    | some e, some aA, some aB =>
      (match x.trackA.find? (fun p => p.1 == e.1) with
       | some p => (p.2.1 - aA) - (e.2.1 - aB)
       | none => 0)
    | _, _, _ => 0
  let (shown, s) := s.freeDiv d (2 ^ 32)
  let s := s.w .SAF_CONN_DISC_DISC k (ofSigned 32 shown)
  let fails := raw.isNone || !bit (fld x.data 0 1) 2 || decide ((s.ax k 40 4 * 2 ^ 32 : Int) < d.natAbs)
  let n := if fails then min 256 (x.disc + 1) else 0
  let s := s.updSafConn k (fun y => { y with disc := n })
  if fails && n == s.ax k 44 1 && s.zoneOpen (s.cnZone k) then (s.raise .posDiscrepancy 0xFF 3 k).shutZone (s.cnZone k) 5 k else s

/-! Safe functions (R339, R340, R343). -/

/-- A function of a safe axis is demanded: its signal reads 0 or its request bit is set. -/
def State.demanded (s : State) (k f : Nat) : Bool :=
  let g := s.ax k f 1
  (g != 0xFF && !s.sigRead (g % 64)) || bit (s.safConn k).req f

/-- A violation of Table 12.4. -/
def State.violate (s : State) (k : Nat) (e : Ev) : State := (s.raise e 0xFF 3 k).shutZone (s.cnZone k) 4 k

/-- The speeds of an axis as the two cores have them. -/
def State.safSpeeds (s : State) (k : Nat) : (Nat × Nat) × (Nat × Nat) :=
  (safSpeed (s.safConn k).trackA (s.ax k 45 1), safSpeed (s.safConn k).trackB (s.ax k 45 1))

/-- A stop begins: SAF asks the HUB for FC2, which no event names (log 32). -/
def State.stopNow (s : State) (k : Nat) : SafStop := { t0 := s.clk, vA := (s.safSpeeds k).1, vB := (s.safSpeeds k).2 }

def State.askFc2 (s : State) (k : Nat) : State := (s.connAxes k).foldl (fun t a => t.setClass a 2 .damperShut) s

/-- Start SS1. -/
def State.startSs1 (s : State) (k : Nat) : State := (s.updSafConn k (fun x => { x with ss1 := some (s.stopNow k) })).askFc2 k

/-- Both speeds keep the envelope of a stop. -/
def State.keepsStop (s : State) (k : Nat) (st : SafStop) (floor : Nat) : Bool :=
  let (a, b) := s.safSpeeds k
  envelopeOk a st.vA (s.ax k 24 4) (s.clk - st.t0) floor && envelopeOk b st.vB (s.ax k 24 4) (s.clk - st.t0) floor

/-- Both speeds are at most a limit. -/
def State.slowerThan (s : State) (k lim : Nat) : Bool := speedLe (s.safSpeeds k).1 lim && speedLe (s.safSpeeds k).2 lim

/-- T_SS1 has run out since a stop began. -/
def State.ss1Over (s : State) (k : Nat) (st : SafStop) : Bool := decide (st.t0 + msClk (s.ax k 28 2) ≤ s.clk)

/-- The present positions of the two cores. -/
def SafConn.here (x : SafConn) : Int × Int :=
  ((x.trackA.head?.map (fun p => p.2.1)).getD 0, (x.trackB.head?.map (fun p => p.2.1)).getD 0)

/-- SS1 (SS1_ENVELOPE): a stepper's is monitored by time alone. -/
def State.ss1Step (s : State) (k : Nat) : State :=
  let s := if s.demanded k 1 && (s.safConn k).ss1.isNone then s.startSs1 k else s
  match (s.safConn k).ss1 with
  | none => s
  | some st =>
    if s.cnType k = 1 && !s.keepsStop k st (s.ax k 20 4) then s.violate k .ss1Envelope
    else if (s.cnType k = 1 && s.slowerThan k (s.ax k 20 4)) || s.ss1Over k st then s.shutZone (s.cnZone k) 2 k
    else s

/-- SS2: SOS starts at V_SSM; STO follows at T_SS1. -/
def State.ss2Step (s : State) (k : Nat) : State :=
  if !s.demanded k 2 then s.updSafConn k (fun x => { x with ss2 := none })
  else
    let s := if (s.safConn k).ss2.isNone && (s.safConn k).sos.isNone then
        (s.updSafConn k (fun x => { x with ss2 := some (s.stopNow k) })).askFc2 k
      else s
    match (s.safConn k).ss2 with
    | none => s
    | some st =>
      if !s.keepsStop k st (s.ax k 20 4) then s.violate k .ss2Envelope
      else if s.slowerThan k (s.ax k 20 4) then s.updSafConn k (fun x => { x with ss2 := none, sos := some x.here })
      else if s.ss1Over k st then s.shutZone (s.cnZone k) 2 k
      else s

/-- SOS: demanded, or what SS2 turned into. -/
def State.sosStep (s : State) (k : Nat) : State :=
  if !(s.demanded k 3 || (s.demanded k 2 && (s.safConn k).sos.isSome)) then s.updSafConn k (fun x => { x with sos := none })
  else
    let s := s.updSafConn k (fun x => { x with sos := some (x.sos.getD x.here) })
    let x := s.safConn k
    let at_ := x.sos.getD x.here
    let win : Int := s.ax k 32 4 * 2 ^ 32
    if decide (win < (x.here.1 - at_.1).natAbs) || decide (win < (x.here.2 - at_.2).natAbs) then s.violate k .sosViolation else s

/-- SLS: from a higher speed the SS1 envelope applies down to V_SLS, which must be reached by T_SS1. -/
def State.slsStep (s : State) (k : Nat) : State :=
  if !s.demanded k 4 then s.updSafConn k (fun x => { x with sls := none, slsOn := false })
  else
    let lim := s.ax k 16 4
    let s := if (s.safConn k).slsOn then s
      else s.updSafConn k (fun x => { x with slsOn := true, sls := if s.slowerThan k lim then none else some (s.stopNow k) })
    let slow := s.slowerThan k lim
    let ok := slow || (match (s.safConn k).sls with | some st => s.keepsStop k st lim && !s.ss1Over k st | none => false)
    let s := if slow then s.updSafConn k (fun x => { x with sls := none }) else s
    if ok || (s.safConn k).ss1.isSome then s
    else if s.ax k 7 1 = 0 then s.violate k .slsViolation
    else (s.raise .slsViolation 0xFF 3 k).startSs1 k

/-- SDI: motion back from the extreme in the permitted direction. -/
def State.sdiStep (s : State) (k : Nat) : State :=
  if !s.demanded k 5 then s.updSafConn k (fun x => { x with sdi := none })
  else
    let sign : Int := if s.ax k 6 1 = 0 then 1 else -1
    let x := s.safConn k
    let here := x.here
    let old := x.sdi.getD here
    let far (e h : Int) : Int := if e * sign < h * sign then h else e
    let ext := (far old.1 here.1, far old.2 here.2)
    let s := s.updSafConn k (fun y => { y with sdi := some ext })
    let tol : Int := s.ax k 36 4 * 2 ^ 32
    if decide (tol < (ext.1 - here.1) * sign) || decide (tol < (ext.2 - here.2) * sign) then s.violate k .sdiViolation else s

/-- The functions of a safe axis: STO overrides the others, and each of those runs while the damper is open. -/
def State.functions (s : State) (k : Nat) : State :=
  let live (t : State) : Bool := t.zoneOpen (t.cnZone k)
  if !live s then s
  else if s.demanded k 0 then s.shutZone (s.cnZone k) 2 k
  else
    let steps : List (State → State) :=
      if s.cnType k = 1 then [fun t => t.ss1Step k, fun t => t.ss2Step k, fun t => t.sosStep k, fun t => t.slsStep k, fun t => t.sdiStep k]
      else [fun t => t.ss1Step k]
    steps.foldl (fun t f => if live t then f t else t) s

/-- The feedbacks of STO and SBC (STO_FB, SBC_FB). -/
def State.feedbacks (s : State) (k : Nat) : State :=
  let x := s.safConn k
  let s := match x.stoAt with
    | none => s
    | some t =>
      if s.rb .SAF_CONN_STO_ACTIVE k && decide (t ≤ x.heard) then s.updSafConn k (fun y => { y with stoAt := none, stoFb := false })
      else if !x.stoFb && decide (t + msClk (fld (s.safRec 0 k) 11 1) + s.cnSwd k * 8000 < s.clk) then
        (((s.updSafConn k (fun y => { y with stoFb := true })).raise .stoFb 0xFF 3 k)).shutZone (s.cnZone k) 6 k
      else s
  if !(s.cnType k == 1 && bit (s.ax k 47 1) 1) then s
  else if bit (fld x.data 0 1) 1 == (x.sbcAt.isSome || s.rb .SAF_CONN_RUN_PERMIT k) then s.updSafConn k (fun y => { y with sbcFb := false })
  else if !x.sbcFb && decide (x.brakeAt + msClk 200 ≤ s.clk) then
    ((s.updSafConn k (fun y => { y with sbcFb := true })).raise .sbcFb 0xFF 3 k).shutZone (s.cnZone k) 6 k
  else s

/-! Channels and requests. -/

/-- A signal has a channel as a source. -/
def State.sigUses (s : State) (g c : Nat) : Bool :=
  [0, 2].any (fun o => fld (s.safRec 2 g) o 2 / 16384 == 1 && fld (s.safRec 2 g) o 2 % 32 == c)

/-- A zone uses a channel (R337): as an output, as a brake output, or through a signal that selects or resets. -/
def State.zoneUses (s : State) (z c : Nat) : Bool :=
  (s.zoneOuts z).contains c ||
  [0, 1].any (fun o => fld (s.safRec 3 z) o 1 < 64 && s.sigUses (fld (s.safRec 3 z) o 1) c) ||
  (s.zoneConns z).any (fun k => s.isSafeAxis k &&
    (s.ax k 46 1 == c || (List.range 6).any (fun f => s.ax k f 1 < 64 && s.sigUses (s.ax k f 1) c)))

/-- An output fault, a test failure or a wire break on a SAF-owned channel shuts the zones that use it. -/
def State.channelFaults (s : State) : State :=
  (List.range 24).foldl (fun t c =>
    if t.rb .FIO_CH_STAT_OWNER c && (t.r .FIO_CH_STAT_FAULT c != 0 || t.rb .FIO_CH_STAT_TP_FAIL c || t.rb .FIO_CH_STAT_BREAK c) then
      (List.range 32).foldl (fun u z => if u.zoneUses z c then u.shutZone z 8 c else u) t
    else t) s

/-- The HUB's STO requests for DC-link shorts (R206, R323): every zone that holds a connection of the node. -/
def State.takeDcShorts (s : State) : State :=
  { s.dcShorts.foldl (fun t a => (safConnIds t.safeSet).foldl (fun u k => if u.cnAddr k = a then u.shutZone (u.cnZone k) 7 a else u) t) s with
    dcShorts := [] }

/-! Resets (R345, R346). -/

/-- A reset signal of a zone, if it has one. -/
def State.resetSig (s : State) (z i : Nat) : Option Nat :=
  let g := fld (s.safRec 3 z) i 1
  if !s.rb .SAF_STAT_CONFIG_VALID || 64 ≤ g then none else some g

/-- RESET_STUCK: the signal is still 1 at 3 s. -/
def State.resetStuck (s : State) (z i : Nat) : State :=
  let x := Tbl.get ({} : SafPress) s.safPresses (2 * z + i)
  if !x.level || s.clk < x.since + msClk 3000 || x.stuck then s
  else
    let s := { s with safPresses := Tbl.modify {} s.safPresses (2 * z + i) (fun y => { y with stuck := true, counts := false }) }
    (s.wb .SAF_ZONE_STUCK z true).raise .resetStuck 0xFF 4 z (le 1 ((s.resetSig z i).getD 0) ++ [0, 0, 0])

/-- What an evaluation sees of a reset signal. -/
def State.pressStep (s : State) (z i : Nat) : State :=
  match s.resetSig z i with
  | none => s
  | some g =>
    let x := Tbl.get ({} : SafPress) s.safPresses (2 * z + i)
    let now := s.sigRead g
    let put (t : State) (y : SafPress) : State := { t with safPresses := Tbl.set {} t.safPresses (2 * z + i) y }
    if now && !x.level then put s { level := true, rise := true, since := s.clk, counts := !s.zoneOpen z }
    else if !now && x.level then
      if s.clk - x.since < msClk 250 then put (if x.rise then s.inc .SAF_ZONE_SHORT z else s) {}
      else put (s.resetStuck z i) { released := x.counts && decide (s.clk - x.since < msClk 3000) }
    else s.resetStuck z i

/-- Why a reset is refused (R346, Table 14.16), the first that remains, with the connection or channel it names. -/
def State.resetReason (s : State) (z : Nat) : Option (Nat × Nat) :=
  let conns := s.zoneConns z
  let named (r : Nat) (o : Option Nat) : Option (Nat × Nat) := o.map (fun k => (r, k))
  ((named 1 (conns.find? (fun k => s.isSafeAxis k && (s.demanded k 0 || s.demanded k 1)))) <|>
    (named 2 (conns.find? (fun k => s.r .SAF_CONN_STATE k != 2))) <|>
    (named 3 (conns.find? (fun k => (s.safConn k).stoFb))) <|>
    (named 4 (conns.find? (fun k => (s.safConn k).sbcFb))) <|>
    (named 5 ((s.zoneOuts z).find? (fun c => s.rb .FIO_CH_STAT_LATCHED c))) <|>
    (if !s.rb .SAF_STAT_CONFIG_VALID then some (6, 0xFFFF) else none) <|>
    (if s.r .SAF_STAT_STATE = 2 then some (7, 0xFFFF) else none))

/-! The downlink containers (R326, R333, R334). -/

/-- A downlink container of a connection. -/
def State.container (s : State) (k seq : Nat) : List Byte :=
  let starting := s.r .SAF_CONN_STATE k == 1
  let data : List Byte :=
    if starting then le 2 (s.cnSwd k) ++ le 1 (fld (s.safRec 0 k) 10 1) ++ le 1 (s.cnType k) ++ [0]
    else
      match s.cnType k with
      | 1 => le 1 (s.r .SAF_CONN_RUN_PERMIT k + 2 * s.r .SAF_CONN_BRAKE_OPEN k) ++ le 4 0
      | 2 => le 1 (s.r .SAF_CONN_RUN_PERMIT k) ++ le 4 0
      | _ => le 4 (0xFFFFFFFF - s.r .SAF_SHUT_SHUT) ++ [0]
  let b := le 2 seq ++ le 1 (b2n starting) ++ data
  b ++ le 4 (crcReflected 0xC8DF352F (le 4 (s.cnId k) ++ b))

/-- RUN_PERMIT, the brake and the mirrored bits of a connection follow its zone (R340, R344). -/
def State.connOutputs (s : State) (k : Nat) : State :=
  let permit := s.isSafeAxis k && s.r .SAF_CONN_STATE k == 2 && s.zoneOpen (s.cnZone k)
  let was := s.rb .SAF_CONN_RUN_PERMIT k
  let s := s.wb .SAF_CONN_RUN_PERMIT k permit
  let s := s.updSafConn k (fun x =>
    if permit && !was then { x with stoAt := none, stoFb := false, sbcAt := none, brakeAt := if x.sbcAt.isSome then x.brakeAt else s.clk }
    else if !permit && was then { x with stoAt := some s.clk, sbcAt := some s.clk }
    else match x.sbcAt with
      | some t => if t + msClk (s.ax k 30 2) ≤ s.clk then { x with sbcAt := none, brakeAt := s.clk } else x
      | none => x)
  let brake := permit || (s.safConn k).sbcAt.isSome
  let s := s.wb .SAF_CONN_BRAKE_OPEN k (brake && s.cnType k == 1 && bit (s.ax k 47 1) 0)
  let s := if s.isSafeAxis k && s.ax k 46 1 < 24 && (s.chan (s.ax k 46 1)).saf != brake then s.safOut (s.ax k 46 1) brake else s
  let x := s.safConn k
  s.w .SAF_CONN_FUNC k (if s.isSafeAxis k then
    b2n (!permit) + 2 * b2n x.ss1.isSome + 4 * b2n x.ss2.isSome + 8 * b2n x.sos.isSome + 16 * b2n x.slsOn + 32 * b2n x.sdi.isSome + 64 * b2n (!brake)
    else 0)

/-- SAF_CONTAINER_RELEASE: a connection's container for a frame, in time or counted as sent in zeros (R324, R326). -/
def State.release (s : State) (k frame : Nat) (late : Bool) : State :=
  let st := s.r .SAF_CONN_STATE k
  if !(st = 1 || st = 2) || !s.originates then s
  else
    let x := s.safConn k
    let seq := (x.seqOut + (if s.r .TWIN_STAT_ROLE = 0 then 1 else max 1 (cycDiff frame x.outFrame))) % 65536
    let s := s.updSafConn k (fun y => { y with seqOut := seq, outFrame := frame })
    if late then s.inc .SAF_FAULT_LATE
    else ({ s with contDown := Tbl.set [] s.contDown (s.cnKey k) (le 4 frame ++ s.container k seq) }).flueSend 20

end Sys2Proof.Machine
end

