-- ==== Sys2Proof/Machine/Saf.lean ====
section
/-! DEFINITION. Sys2Proof/Machine/Saf.lean: the events of SAF: its start, its evaluation, its watchdogs and timers, its inputs and the reset of
a damper (R324 to R351). -/

namespace Sys2Proof.Machine

/-! The parameter set (R348 to R351). -/

/-- The length of a record of the set. -/
def safRecLen (kind : Nat) : Nat :=
  match kind with
  | 0 => 16 | 1 => 48 | 2 => 8 | 3 => 8 | 4 => 16 | _ => 64

/-- The 17,600 bytes of a set, in the order of R348. -/
def safImage (set : Tbl (List Byte)) : List Byte :=
  [(0, 256), (1, 256), (2, 64), (3, 32), (4, 24), (5, 1)].flatMap (fun (k : Nat × Nat) =>
    (List.range k.2).flatMap (fun i => slice (safeGet set (k.1 * 256 + i)) 0 (safRecLen k.1)))

/-- The CRC of R329 over a set. -/
def safImageCrc (set : Tbl (List Byte)) : Nat := crcReflected 0xC8DF352F (safImage set)

/-- Append an entry to the safety change log (R351, Table 12.6). -/
def State.safeLogAdd (s : State) (kind ctx newCrc : Nat) (oldCrc : Nat) : State :=
  let n := (s.r .SAF_LOG_NUM + 1) % 2 ^ 32
  let b := le 4 n ++ le 1 kind ++ le 1 ctx ++ le 2 (s.r .SAF_STAT_VERSION) ++ timeBytes (s.now 2) ++ le 4 oldCrc ++ le 4 newCrc
  let log := s.safeLog ++ [b ++ le 4 (crcReflected 0xC8DF352F b)]
  { s with safeLog := log.drop (log.length - 256) }.w .SAF_LOG_NUM 0 n

/-- The channels that the set in force claims become SAF's, and those it releases go OFF (R303, R337). -/
def State.takeChannels (s : State) : State :=
  (List.range 24).foldl (fun t c =>
    let b := t.safRec 4 c
    if zeroBytes b 0 16 then
      (if t.rb .FIO_CH_STAT_OWNER c then
        (((t.recSet .field c []).fieldOff c).wb .FIO_CH_STAT_OWNER c false).updChan c (fun x => { x with saf := false })
      else t)
    else ((t.fieldSet c b).wb .FIO_CH_STAT_OWNER c true).updChan c (fun x => { x with host := false, saf := false })) s

/-- Axes that are safe axes of no zone any more lose SAF's FC4 (log 33). -/
def State.freeAxes (s : State) : State :=
  let mine := (safConnIds s.safeSet).flatMap s.connAxes
  (s.axes.map (fun (e : Nat × Axis) => e.1)).foldl (fun t a => if t.fc a = 4 && !mine.contains a then t.endFc4 a else t) s

/-- A set takes force: its channels, its zones, and every connection starts with INIT. -/
def State.safApply (s : State) : State :=
  let s := (s.takeChannels).freeAxes
  let s := (List.range 256).foldl (fun t k => ((t.w .SAF_CONN_ZONE k (t.cnZone k)).w .SAF_CONN_STATE k 0).wb .SAF_CONN_RUN_PERMIT k false) s
  let s := (safConnIds s.safeSet).foldl State.connStart { s with safConns := [], safSigs := [] }
  [0, 1].foldl (fun t i => (List.range 32).foldl (fun u z =>
    let on := match u.resetSig z i with | some g => u.sigRead g | none => false
    { u with safPresses := Tbl.set {} u.safPresses (2 * z + i) { level := on, since := u.clk } }) t) s

/-- SAF starts (R327, R350): every damper shut under POWER_ON; a set from flash that fails its checks is not taken. -/
def State.safStart (s : State) : State :=
  let s := ((s.w .SAF_STAT_STATE 0 1).w .SAF_FAULT_CAUSE 0 0).w .SAF_SHUT_SHUT 0 0
  let s := (List.range 32).foldl (fun t z => (t.wb .SAF_ZONE_SHUT z false).wb .SAF_ZONE_STUCK z false) s
  let good : Bool := match s.safeFlashCrc with
    | some (crc, ver) => safImageCrc s.safeFlash == crc && ver == s.fuse .versionSteps
    | none => false
  let s := { s with safeSet := if good then s.safeFlash else [], safEvalAt := none }
  let s := s.wb .SAF_STAT_CONFIG_VALID 0 good
  let s := match s.safeFlashCrc with
    | some (crc, ver) => if good then (s.w .SAF_STAT_VERSION 0 ver).w .SAF_CRC_CRC 0 crc else s
    | none => s
  let s := s.safApply
  let s := s.shutAll 1
  if good then s else (s.raise .safeConfigInvalid).safeLogAdd 4 0xFF (s.r .SAF_CRC_CRC) (s.r .SAF_CRC_CRC)

/-! Evaluation (R324 to R326). -/

/-- The containers of a frame are late from the builder lead before its tick on. -/
def State.safLate (s : State) : Bool :=
  decide ((s.sched s.mode).period * 8 ≤ s.sinceTick s.cycle + Config.builderLead * 8)

/-- SAF_EVALUATION: once per cycle of a cyclic ring, or on SAF's own clock: the containers of the input frame, then positions, signals,
presses, requests, channels, functions, and the containers of the next frame. -/
def execSafEvaluation (s : State) : Host.Outcome State Fault Refusal :=
  if s.r .SAF_STAT_STATE ≠ 1 || (s.cyclic && s.safEvalAt = some s.cycle) then .next s
  else
    let ks := safConnIds s.safeSet
    let s := { s with safEvalAt := if s.cyclic then some s.cycle else none }
    let s := ks.foldl State.connInputs s
    let s := if s.cyclic then
        ks.foldl (fun t k => if t.cnType k = 1 && t.r .SAF_CONN_STATE k = 2 then t.compare k t.inputFrame else t) s
      else s
    let s := (List.range 64).foldl State.sigStep s
    let s := (List.range 32).foldl (fun t z => (t.pressStep z 0).pressStep z 1) s
    let s := s.takeDcShorts.channelFaults
    let s := ks.foldl (fun t k => if t.isSafeAxis k then (t.functions k).feedbacks k else t) s
    let s := ks.foldl State.connOutputs s
    let late := s.safLate
    .next (if s.cyclic then ks.foldl (fun t k => t.release k (cycAdd t.cycle 1) late) s else s)

/-- SAF_FAULT_ENTRY (R327): 1 core disagreement, 2 memory, 3 clock, 4 supply, 5 firmware. SAF sends no container and every damper shuts. -/
def State.safFault (s : State) (cause : Nat) : State :=
  if s.r .SAF_STAT_STATE = 2 then s
  else { (((s.w .SAF_STAT_STATE 0 2).w .SAF_FAULT_CAUSE 0 cause).shutAll 0x0A) with safFaultAt := s.clk }

/-- SAF_FAULT_ENTRY. -/
def execSafFaultEntry (cause : Fin 5) (s : State) : Host.Outcome State Fault Refusal := .next (s.safFault (cause.val + 1))

/-- SAF_HEARTBEAT_LOSS (R327): 1 ms after the last heartbeat FIO turns every SAF-owned output off. -/
def execSafHeartbeatLoss (s : State) : Host.Outcome State Fault Refusal :=
  .next (if s.r .SAF_STAT_STATE = 2 && decide (s.safFaultAt + msClk 1 ≤ s.clk) then
      (List.range 24).foldl (fun t c => t.safOut c false) s
    else s)

/-! Watchdogs and starts (R332, R333). -/

/-- SAF_CONN_WATCHDOG: SWD after the last accepted container. -/
def execSafConnWatchdog (conn : Fin 256) (s : State) : Host.Outcome State Fault Refusal :=
  let k := conn.val
  .next (if s.r .SAF_STAT_STATE = 1 && s.r .SAF_CONN_STATE k == 2 && decide ((s.safConn k).heard + s.cnSwd k * 8000 ≤ s.clk) then s.connFault k else s)

/-- CONN_RESTART: 100 ms after the fault. -/
def execConnRestart (conn : Fin 256) (s : State) : Host.Outcome State Fault Refusal :=
  let k := conn.val
  .next (if s.r .SAF_STAT_STATE = 1 && s.r .SAF_CONN_STATE k == 3 && decide ((s.safConn k).since + msClk 100 ≤ s.clk) then s.connStart k else s)

/-- CONN_START_FAIL: 1 s after the start. -/
def execConnStartFail (conn : Fin 256) (s : State) : Host.Outcome State Fault Refusal :=
  let k := conn.val
  .next (if s.r .SAF_CONN_STATE k = 1 && !(s.safConn k).startFail && decide ((s.safConn k).since + msClk 1000 ≤ s.clk) then
      (s.updSafConn k (fun x => { x with startFail := true })).raise .connStartFail 0xFF 3 k
    else s)

/-! Inputs and signals (R337, R338). -/

/-- SAF_INPUT_SAMPLE: a SAF-owned input, every 250 us of SAF's clock: the pin in mV, the sink current in microamperes, VFIELD in mV. -/
def execSafInputSample (ch : Fin 24) (mv microAmps vfield : Nat) (s : State) : Host.Outcome State Fault Refusal :=
  .next (if s.rb .FIO_CH_STAT_OWNER ch.val && s.chIsInput ch.val then s.sampleInput ch.val mv microAmps vfield else s)

/-- SIG_DISCREPANCY: the sources have disagreed for longer than DISC_T. -/
def execSigDiscrepancy (sig : Fin 64) (s : State) : Host.Outcome State Fault Refusal :=
  let g := sig.val
  let x := Tbl.get ({} : SafSig) s.safSigs g
  .next (match x.since with
    | some t =>
      if !x.held && decide (t + msClk (fld (s.safRec 2 g) 4 2) < s.clk) then
        let (a, b) := s.sigSources g
        ({ s with safSigs := Tbl.set {} s.safSigs g { x with held := true, bothZero := false } }).raise .sigDiscrepancy 0xFF 11 g
          (le 1 (b2n a) ++ le 1 (b2n b) ++ [0, 0])
      else s
    | none => s)

/-! Resets (R345, R346). -/

/-- SAF_RESET_RELEASE: the release of a press that counts opens the damper, or is refused. -/
def execSafResetRelease (zone : Fin 32) (second : Bool) (s : State) : Host.Outcome State Fault Refusal :=
  let z := zone.val
  let i := 2 * z + b2n second
  if !(Tbl.get ({} : SafPress) s.safPresses i).released then .next s
  else
    let s := { s with safPresses := Tbl.modify {} s.safPresses i (fun x => { x with released := false }) }
    .next (if s.zoneOpen z then s
      else match s.resetReason z with
        | none => s.openZone z
        | some (r, d) => (s.inc .SAF_ZONE_REFUSED z).raise .resetRefused 0xFF 4 z (le 1 r ++ [0] ++ le 2 d) (r + d * 65536))

/-- RESET_STUCK: a reset signal still pressed at 3 s. -/
def execResetStuck (zone : Fin 32) (second : Bool) (s : State) : Host.Outcome State Fault Refusal :=
  .next (s.resetStuck zone.val (b2n second))

/-! The safety session (R348). -/

/-- SAFE_SESSION_TIMEOUT: 600 s without a safety command. -/
def execSafeSessionTimeout (s : State) : Host.Outcome State Fault Refusal :=
  .next (if s.rb .SAF_STAT_SESSION && decide (s.safeLast + msClk 600000 ≤ s.clk) then s.safeEnd (s.r .SAF_STAT_SESSION_CTX) else s)

/-- SAFE_LOCKOUT_END: 60 s after the third failure. -/
def execSafeLockoutEnd (s : State) : Host.Outcome State Fault Refusal :=
  .next (if s.rb .SAF_STAT_LOCKOUT && decide (s.safeLockAt + msClk 60000 ≤ s.clk) then { s.wb .SAF_STAT_LOCKOUT 0 false with safeFails := 0 } else s)

end Sys2Proof.Machine
end

