-- ==== Sys2Proof/Machine/Power.lean ====
section
/-! DEFINITION. Sys2Proof/Machine/Power.lean: power states and domains (R428 to R431), resets and retention (R432 to R437), the boot (R438 to
R440), health (R441, R461, R462), ageing (R442 to R446), the soot log's rings (R447, R448) and their opcodes (R452). -/

namespace Sys2Proof.Machine

def State.updPower (s : State) (f : Power → Power) : State := { s with power := f s.power }

/-! The soot log's rings (R448). -/

/-- Store an entry in both rings, under the next number. -/
def State.sootStore (s : State) (e : SootEntry) : State :=
  let e := { e with seq := s.r .SOOT_NEXT_SEQ }
  { s with soot := { s.soot with memRing := (e :: s.soot.memRing).take 65536, ember := (e :: s.soot.ember).take 512 } }.w .SOOT_NEXT_SEQ 0
    ((s.r .SOOT_NEXT_SEQ + 1) % 2 ^ 32)

/-- SOOT_WRITE: the oldest entry of the queue is stored, after SOOT_LOST where entries have been lost; before BOOT is written, entries wait. -/
def execSootWrite (s : State) : Host.Outcome State Fault Refusal :=
  .next (
    if !s.soot.booted then s
    else
      match s.soot.queue with
      | [] => s
      | e :: rest =>
        let n := s.soot.lost
        let s := { s with soot := { s.soot with queue := rest, lost := 0 } }
        let s := if n = 0 then s else s.sootStore (s.sootEntry Ev.sootLost.code 0xFF 0 0 n)
        s.sootStore e)

/-- Keep an entry in Ember RAM, past a reset (R441, R448). -/
def State.sootHold (s : State) (e : Ev) (data : Nat := 0) : State :=
  { s with soot := { s.soot with held := s.soot.held ++ [s.sootEntry e.code 0xFF 0 0 data] } }

/-- The bytes of an entry (Table 16.6). -/
def SootEntry.bytes (e : SootEntry) : List Byte :=
  le 4 e.seq ++ timeBytes e.time ++ le 4 e.cycle ++ le 2 e.code ++ le 1 e.fc ++ le 1 e.kind ++ le 2 e.subj ++ le 2 e.boot ++ le 4 e.data

/-- How a read of a history answers: the numbers held run from `next - held` to `next - 1`, modulo 2^32; the first held at or after FIRST, and how
many follow. A FIRST that lies less than 2^31 past the newest lies beyond it. -/
def firstHeld (next held first : Nat) : Nat × Nat :=
  if (first + 2 ^ 32 - next % 2 ^ 32) % 2 ^ 32 < 2 ^ 31 ∨ held = 0 then (next, 0)
  else
    let age := (next + 2 ^ 32 - first % 2 ^ 32) % 2 ^ 32
    let n := min age held
    ((next + 2 ^ 32 - n) % 2 ^ 32, n)

/-- The reply of SOOT_READ: entries of one of the two logs, oldest first. -/
def State.sootReply (s : State) (flash : Bool) (from_ most : Nat) : List Byte :=
  let ring := if flash then s.soot.ember else s.soot.memRing
  let (first, n) := firstHeld (s.r .SOOT_NEXT_SEQ) ring.length from_
  let es := ((ring.take n).reverse).take most
  le 4 first ++ le 2 es.length ++ [0, 0] ++ es.flatMap SootEntry.bytes

/-- SOOT_READ. -/
def execSootRead (p : Pkt) (s : State) : Host.Outcome State Fault Refusal :=
  .next (hostCmd 0x0901 p s
    { plen := p.len == 8, checks := [(decide (p.u 0 1 ≤ 120) && decide (p.u 1 1 < 2) && zeroBytes p.params 2 2, .badParam)] }
    fun s => (s, s.sootReply (p.u 1 1 != 0) (p.u 4 4) (p.u 0 1)))

/-- The reply of TRACE_READ: records of a die's trace area, oldest first. -/
def State.traceReply (s : State) (g from_ most : Nat) : List Byte :=
  let (first, n) := firstHeld (s.r .TRACE_WR_COUNT g) (s.grate g).area.length from_
  let rs := (List.range (min n most)).map (fun i => Tbl.get [] (s.grate g).area ((first + i) % 1048576))
  le 4 first ++ le 2 rs.length ++ [0, 0] ++ rs.flatMap (fun r => slice r 0 16)

/-- TRACE_READ. -/
def execTraceRead (p : Pkt) (s : State) : Host.Outcome State Fault Refusal :=
  let g := p.u 0 1
  .next (hostCmd 0x0910 p s
    { plen := p.len == 8, checks := [(decide (g < 4) && p.u 1 1 == 0 && decide (p.u 2 2 ≤ 254), .badParam)] }
    fun s => (s, s.traceReply g (p.u 4 4) (p.u 2 2)))

/-! Domains and what leaves with them (R428, R431, R436). -/

/-- The domain whose power a register field of class D needs. -/
def Fld.domain (f : Fld) (i : Nat) : Nat :=
  match f with
  | .TRACE_WR_COUNT | .SOOT_HELD_COUNT => 10
  | .ADC_STAT_SETTLED | .ADC_STAT_REF | .ADC_STAT_START | .ADC_STAT_INTERLEAVED => 11
  | .ETH_STAT_LINK | .ETH_STAT_SPEED => 4
  | f =>
    match f.info.block with
    | .cycle | .ring | .ringOp => 2
    | .twin => 3
    | .loopCore => 5 + i / 16
    | .grate => 5 + i
    | .field => 11
    | .saf => 9
    | .bar2 => 4
    | _ => 1

/-- Keep the register fields that pass. -/
def State.keepFlds (s : State) (p : Fld → Nat → Bool) : State :=
  { s with regs := s.regs.filter (fun (e : Nat × W32) => match Fld.ofCode (e.1 % 512) with | some f => p f (e.1 / 512) | none => false) }

/-- A loop die goes off: its cores keep their program memory, its shared SRAM all but the HUB's tables; the rest of its memory and its
dependence counters' instances go (R431). -/
def State.dieOff (s : State) (g : Nat) : State :=
  let s := { s with
    cores := s.cores.filterMap (fun (e : Nat × Core) => if e.1 / 16 = g then
        (if e.2.prog = [] then none else some (e.1, ({ prog := e.2.prog } : Core))) else some e)
    insts := s.insts.filter (fun (e : Nat × CtrInst) => e.1 / 4096 != g)
    descsNext := s.descsNext.filter (fun (e : Nat × List Byte) => e.1 / 4096 != g) }
  (s.updGrate g (fun x => { area := x.area })).updSram g (fun m => { base := m.base.writeN 0x3F8000 (List.replicate 80 0) })

/-- A domain goes off: what it holds of class D takes its reset value (R436), and the sessions of PD4's ports depart. -/
def State.domainOff (s : State) (d : Nat) : State :=
  let s := if d = 4 then ((if s.rb .TWIN_CFG_ENABLE then [0, 1, 2, 3, 4, 5] else [0, 1, 2, 3, 4, 5, 7]).foldl State.endSession s) else s
  let s := s.keepFlds (fun f i => !(f.info.retention == .d && f.domain i == d && f != .PWR_DOM_ON && f != .PWR_STAT_CHANGING && f != .PWR_STAT_STATE))
  let s := match d with
    | 2 => { s with head := {}, hnodes := s.hnodes.foldl (fun (t : Tbl HNode) (e : Nat × HNode) => Tbl.set {} t e.1 { box := e.2.box }) [], segIn := [], cmds := [], sentHist := [], contDown := [], contUp := [] }
    | 3 => { s with twin := {} }
    | 4 => { s with msixTab := [], msix := [], reassembly := [], discovered := [], announced := [],
                    ptps := s.ptps.map (fun (e : Nat × PtpPort) => (e.1, { e.2 with txFrames := [], entries := [] })) }
    | 11 => { s with chans := [], convs := [] }
    | _ => if 5 ≤ d ∧ d ≤ 8 then s.dieOff (d - 5) else s
  s.w .PWR_DOM_ON 0 (setBit (s.r .PWR_DOM_ON) d false)

/-- A domain is powered: its class W is as it was. -/
def State.domainOn (s : State) (d : Nat) : State :=
  let s := if d = 11 then [0, 1].foldl (fun t c => t.updConv c (fun x => { x with refSince := t.now0 })) s else s
  s.w .PWR_DOM_ON 0 (setBit (s.r .PWR_DOM_ON) d true)

/-- Power exactly the domains of a mask. -/
def State.domainsTo (s : State) (mask : Nat) : State :=
  (List.range 12).foldl (fun t d =>
    if bit mask d then (if bit (t.r .PWR_DOM_ON) d then t else t.domainOn d) else if bit (t.r .PWR_DOM_ON) d then t.domainOff d else t) s

/-- RUN_ON with the bits that read 1 (Table 16.9). -/
def State.runOn (s : State) : Nat := s.r .PWR_CFG_RUN_ON ||| 0x603

/-- Hibernate: the HUB goes off and its class D with it, but for the contents of MEM. -/
def State.hubOff (s : State) : State :=
  let s := [0, 1, 2, 3, 4, 5, 6, 7].foldl State.endSession s
  let s := s.domainsTo 0x601
  let s := s.keepFlds (fun f i => !(f.info.retention == .d && f.domain i == 1 && f != .PWR_DOM_ON))
  { s with
    ctxs := [], claims := [], cfgLease := none, sspiReplies := [], sspiRx := false, fwdOut := [], nowLatch := [], axes := [], fbs := [], servos := []
    emus := [], recsNext := [], reloadNext := [], posTab := [], posPrev := [], marksIn := [], dcShorts := [], update := {}, hmpRun := false
    recs := s.recs.filter (fun (e : Nat × List Byte) => e.1 % 64 != RecKind.calTracked.ctorIdx && e.1 % 64 != RecKind.motorTracked.ctorIdx)
    scheds := s.scheds.filter (fun (e : Nat × Sched) => e.2.phase != 1)
    soot := { s.soot with queue := [], lost := 0, booted := false } }

/-! Resets (R432 to R434). -/

/-- What a warm reset leaves (Table 16.4): fuses and flash, Ember RAM, TB0, and the commands, nodes and clocks outside the part. -/
def State.warm (s : State) (kind : Nat) : State :=
  let kept := s.keepFlds (fun f _ => f.info.retention == .e || f.info.retention == .f || (f.info.retention == .n && (f.info.block == .power || f.info.block == .update || f.info.block == .saf)))
  let t : State :=
    { regs := kept.regs, pending := s.pending, free := s.free, clk := s.clk, fuses := s.fuses, regsFlash := s.regsFlash, recsFlash := s.recsFlash
      mapFlash := s.mapFlash, safeFlash := s.safeFlash, safeFlashCrc := s.safeFlashCrc, safeLog := s.safeLog, nodes := s.nodes
      fw := s.fw, fwCur := s.fwCur, oldArea := s.oldArea, tbs := Tbl.set {} [] 0 (s.tb 0), hmpRun := false
      soot := { ember := s.soot.ember, held := s.soot.held, booted := false }
      power := { held := true, refclk := s.power.refclk, vout := s.power.vout, hours := s.power.hours, days := s.power.days } }
  (t.w .PWR_DOM_ON 0 1).w .RST_CAUSE_KIND 0 kind

/-- POWER_ON: everything but fuses and flash is cleared (R432). -/
def execPowerOn (s : State) : Host.Outcome State Fault Refusal :=
  let t := s.warm 0
  let t := t.keepFlds (fun f _ => f.info.retention != .e)
  let t := { t with soot := { booted := false }, tbs := [], power := { held := true, days := s.power.days } }
  .next ((t.w .PWR_DOM_ON 0 1).w .RST_BOOTS_COUNT 0 (s.r .RST_BOOTS_COUNT + 1))

/-- RESET_N_RECOGNISED (R433). -/
def execResetNRecognised (s : State) : Host.Outcome State Fault Refusal := .next (s.warm 1)

/-- THERMAL_TRIP (R432, R441). -/
def execThermalTrip (s : State) : Host.Outcome State Fault Refusal := .next ((s.sootHold .thermalTrip).warm 3)

/-- SUPPLY_TRIP (R432, R441). -/
def execSupplyTrip (s : State) : Host.Outcome State Fault Refusal := .next ((s.sootHold .supplyTrip).warm 4)

/-- REFCLK_LOSS (R462): a supply trip whose entry tells, at the next boot, for how long TB0 ran on the fallback oscillator. -/
def execRefclkLoss (s : State) : Host.Outcome State Fault Refusal :=
  let s := (s.sootHold .supplyTrip).wb .HLTH_FLAGS_REFCLK_FB 0 true
  .next ((s.updPower (fun p => { p with refclk := true })).warm 4)

/-! HMP restart (R382, R435). -/

/-- Answer the command that holds a context with INTERNAL. -/
def State.internalOne (s : State) (op : Nat) (p : Pkt) (c : Nat) : State :=
  if (s.ctx c).isOpen && (s.ctx c).busy && (s.ctx c).session == p.session then
    (s.updCtx c (fun x => { x with busy := false, safAt := none })).answer p c op .internal []
  else s

/-- Pending RING_NODE_MAIL transfers are answered INTERNAL; the messages go on without a waiter. -/
def State.dropWaiters (s : State) : State :=
  (s.hnodes.map (fun (e : Nat × HNode) => e.1)).foldl (fun t a =>
    let ws := ((t.hnode a).box.outq ++ (t.hnode a).box.awaiting).filterMap (fun m => m.waiter)
    let t := t.updHnode a (fun h => { h with box := { h.box with
      outq := h.box.outq.map (fun m => { m with waiter := none }), awaiting := h.box.awaiting.filter (fun m => m.waiter.isNone) } })
    ws.foldl (fun u p => u.internalOne 0x0132 p p.ctx) t) s

/-- Commands that wait for SAF, and a POWER_DOMAIN_SET that waits for its domains, are answered INTERNAL. -/
def State.dropWaiting (s : State) : State :=
  let s := match s.power.waiter with
    | some p => (s.updPower (fun q => { q with waiter := none })).internalOne 0x0021 p p.ctx
    | none => s
  [0, 1, 2, 3, 4, 5, 6, 7].foldl (fun t c =>
    match (t.ctx c).safAt, (t.ctx c).held with
    | some _, (op, p) :: rest => (t.updCtx c (fun x => { x with held := rest })).internalOne op p c
    | _, _ => t) s

/-- The other slot may start the HMP: CONFIRMED and not below the anti-rollback limit (R435). -/
def State.otherHmp (s : State) : Bool := (s.fwOther 0).state == 1 && !s.belowLimit 0 (s.fwOther 0).version

/-- The HMP restarts (R432, R435); `handOver` keeps its soft state (R418). -/
def State.hmpRestart (s : State) (handOver : Bool) : State :=
  let s := ({ s with hmpRun := false }.inc .RST_CAUSE_HMP_RESTARTS).raise .hmpRestart
  let s := if s.power.other && s.otherHmp then
      ((s.setFwIn 0 (1 - s.fwIn 0)).updPower (fun p => { p with other := false, dogs := [] })).raise .bootAlt
    else s
  if handOver then s
  else
    let s := { s with scheds := s.scheds.filter (fun (e : Nat × Sched) => e.2.phase != 1) }
    s.dropWaiters.dropWaiting

/-- HMP_WATCHDOG: a third restart within 60 s makes the next one start from the other slot. -/
def execHmpWatchdog (s : State) : Host.Outcome State Fault Refusal :=
  .next (
    if !s.hmpRun || s.recovering then s
    else
      let s := s.hmpRestart false
      let s := s.updPower (fun p => { p with dogs := (s.now0 :: p.dogs).filter (fun t => decide (s.now0 < t + msT 60000)) })
      if 3 ≤ s.power.dogs.length then s.updPower (fun p => { p with other := true }) else s)

/-- DEVICE_RESET: the reply leaves first. -/
def execDeviceReset (p : Pkt) (s : State) : Host.Outcome State Fault Refusal :=
  .next (hostCmd 0x0022 p s
    { plen := p.len == 8, need := .lease,
      checks :=
        [(decide (p.u 0 1 < 2) && decide (p.u 1 1 < 2) && zeroBytes p.params 2 2 && p.u 4 4 == 0xD128, .badParam),
         (p.u 0 1 == 1 || s.headIs .off || bit (p.u 1 1) 0, .badState)],
      after := fun s => if p.u 0 1 = 0 then s.warm 2 else s.hmpRestart false }
    fun s => (s, []))

/-! Power states (R429, R430). -/

/-- POWER_STATE_SET: the reply leaves before the change starts. -/
def execPowerStateSet (p : Pkt) (s : State) : Host.Outcome State Fault Refusal :=
  let st := p.u 0 1
  let at_ := timeOf (slice p.params 4 12)
  .next (hostCmd 0x0020 p s
    { plen := p.len == 16, need := .lease,
      checks :=
        [(decide (st < 3) && decide (p.u 1 1 < 4) && zeroBytes p.params 2 2 && (!bit (p.u 1 1) 1 || at_.isSome), .badParam),
         (!bit (p.u 1 1) 1 || st == 0 || decide (s.now0 + msT 10 ≤ at_.getD 0), .badParam),
         (!s.rb .PWR_STAT_CHANGING, .badState),
         (st == 0 || s.headIs .off, .badState)],
      after := fun s =>
        if st = s.r .PWR_STAT_STATE then s
        else
          let s := if st = 0 then s else (List.range 32).foldl (fun t r => t.acqStop r 1) s
          (s.wb .PWR_STAT_CHANGING 0 true).updPower (fun q => { q with target := some st, wake := p.u 1 1, wakeAt := at_.getD 0, woke := false }) }
    fun s => (s, []))

/-- Leave Standby: the domains of RUN_ON are powered again. -/
def State.leaveStandby (s : State) : State := (s.wb .PWR_STAT_CHANGING 0 true).updPower (fun q => { q with target := some 0, wake := 0 })

/-- Leave Hibernate: a boot follows (R440). -/
def State.leaveHibernate (s : State) : State := s.updPower (fun q => { q with leaving := true, wake := 0 })

/-- A wake condition has come: Standby or Hibernate is left, at once where its entry is still under way (R450). -/
def State.wakeUp (s : State) : State :=
  if s.power.held then s
  else if s.power.hib.isSome then s.leaveHibernate
  else if s.power.target = some 2 then s.updPower (fun q => { q with woke := true })
  else if s.power.target.isNone && s.r .PWR_STAT_STATE == 1 then s.leaveStandby
  else s

/-- WAKE_EDGE: a rising edge, where WAKE flag [0] armed the pin. -/
def execWakeEdge (s : State) : Host.Outcome State Fault Refusal := .next (if bit s.power.wake 0 then s.wakeUp else s)

/-- WAKE_TIMER: TB0 has reached WAKE_AT. -/
def execWakeTimer (s : State) : Host.Outcome State Fault Refusal :=
  .next (if bit s.power.wake 1 && decide (s.power.wakeAt ≤ s.now0) then s.wakeUp else s)

/-- POWER_STATE_CHANGE_DONE. -/
def execPowerStateChangeDone (s : State) : Host.Outcome State Fault Refusal :=
  match s.power.target with
  | none => .next s
  | some st =>
    let s := (s.wb .PWR_STAT_CHANGING 0 false).updPower (fun q => { q with target := none })
    .next (
      if st = 0 then ((s.domainsTo s.runOn).w .PWR_STAT_STATE 0 0).raise .powerState
      else if st = 1 then ((s.domainsTo (0x613 ||| (s.r .PWR_DOM_ON &&& 0x800))).w .PWR_STAT_STATE 0 1).raise .powerState
      else
        let s := ((s.raise .powerState).shutAll 3).hubOff
        let s := s.updPower (fun q => { q with hib := some s.now0, doms := [], waiter := none })
        if s.power.woke then s.leaveHibernate else s)

/-- POWER_DOMAIN_SET: answered when every domain has reached its state. -/
def execPowerDomainSet (p : Pkt) (s : State) : Host.Outcome State Fault Refusal :=
  let mask := p.u 0 2
  let value := p.u 2 2
  let off (d : Nat) : Bool := bit mask d && !bit value d
  let moves := ((List.range 12).filter (fun d => bit mask d && bit value d != bit (s.r .PWR_DOM_ON) d)).map (fun d => (d, bit value d))
  .next (hostCmd 0x0021 p s
    { plen := p.len == 8, need := .lease, fwd := bit (p.u 4 1) 0, deferred := moves != [],
      checks :=
        [(mask &&& 0xF603 == 0 && decide (p.u 4 1 < 2) && zeroBytes p.params 5 3, .badParam),
         (!s.rb .PWR_STAT_CHANGING && s.power.doms == [], .badState),
         (!off 2 || s.headIs .off, .badState),
         (!off 3 || !s.rb .TWIN_CFG_ENABLE || s.headIs .off, .badState),
         (!off 4 || p.ctx == 6, .badState),
         ([0, 1, 2, 3].all (fun g => !off (5 + g) || !(s.dieDescs g).any (fun d => descEnabled d.2)), .badState),
         (!off 11 || ((List.range 24).all (fun c => !s.rb .FIO_CH_STAT_OWNER c && s.chMode c == 0) &&
            [0, 1].all (fun c => s.ru .adc c 1 1 == 0)), .badState)] }
    fun s =>
      let s := if bit (p.u 4 1) 0 then s.w .PWR_CFG_RUN_ON 0 ((s.r .PWR_CFG_RUN_ON &&& (0xFFFF ^^^ mask)) ||| (value &&& mask)) else s
      (if moves = [] then s else s.updPower (fun q => { q with doms := moves, mask := mask, waiter := some p }), []))

/-! The boot (R438 to R440). -/

/-- The words that an image holds for each core, written into a half of its program memory (R419, R438). -/
def State.loadImage (s : State) (image : List Byte) (half : Nat → Nat) : State :=
  (List.range 64).foldl (fun t n =>
    match Config.imageWords image n with
    | [] => t
    | ws => t.updCore n (fun x => { x with
        prog := (ws.zip (List.range ws.length)).foldl (fun (m : Tbl W32) (e : Nat × Nat) =>
          Tbl.set 0 m ((e.2 + 8192 * half n) % 16384) (BitVec.ofNat 32 e.1)) x.prog })) s

/-- The configuration that class N holds is loaded: registers, records, the address map, and the registers that mirror them (R437, R438). -/
def State.loadFlash (s : State) : State :=
  let put (t : Tbl W32) (e : Nat × W32) : Tbl W32 :=
    match Fld.ofCode (e.1 % 512) with
    | some f => if f.info.block = .ringOp ∨ f.info.block = .twin then Tbl.set f.dflt t e.1 e.2 else t
    | none => t
  let s := { s with regs := s.regsFlash.foldl put s.regs, recs := s.recsFlash }
  let s := s.mapFlash.foldl (fun (t : State) (e : Nat × Option MapEntry) => t.setMap e.1 e.2) s
  let s := [2, 3].foldl (fun t k =>
    if bit (t.ru .bellows k 0 1) 0 then (t.w .TB_STAT_MODE k 1).updTb k (fun x => { x with firstFeed := true, lastActive := t.now0 }) else t) s
  let s := (List.range 8).foldl (fun t k =>
    let t := ((t.w .TIN_STAT_TB k (t.ru .tin k 0 1)).w .TIN_STAT_EDGE k (t.ru .tin k 1 1)).wb .TIN_STAT_FEED k (bit (t.ru .tin k 2 1) 0)
    t.toutApply k (t.cfg .tout k)) s
  let s := [0, 1].foldl (fun t q =>
    let fl := t.ru .ptp q 0 1
    (((t.wb .PTP_STAT_ENABLE q (bit fl 0)).wb .PTP_STAT_TB3 q (bit fl 1)).w .PTP_TXADJ_ADJ q (t.ru .ptp q 4 4)).w .PTP_RXADJ_ADJ q (t.ru .ptp q 8 4)) s
  let s := (List.range 128).foldl (fun t a =>
    let b := t.cfg .servoBind a
    if fld b 0 1 = 0 then t
    else (((t.wb .SV_STAT_BOUND a true).w .SV_BIND_ADDR a (fld b 0 1)).w .SV_BIND_BLK a (fld b 1 1)).wb .SV_BIND_NPC a (bit (fld b 3 1) 0)) s
  (List.range 24).foldl (fun t c => if t.ru .field c 0 1 = 0 then t else t.fieldApply c (t.cfg .field c)) s

/-- A base after Hibernate: advanced by the TB0 time that passed, TB1 at the nominal rate (R436). -/
def State.wakeBases (s : State) (since : Nat) : State :=
  let dt := (s.now0 - since) * 2 ^ 32
  let s := s.updTb 1 (fun b => { b with value := b.value + dt })
  [2, 3].foldl (fun t k => t.updTb k (fun b =>
    { b with value := b.value + dt / Config.nominalInc * b.inc, firstFeed := b.firstFeed || t.tbBellows k })) s

/-- Parts in TRIAL go back to their CONFIRMED slots, and the old configuration area is in force again (R422, R423). -/
def State.trialsBack (s : State) : State :=
  let s := [0, 1, 2, 3].foldl (fun u t => if (u.fwSlot t (u.fwIn t)).state = 2 then u.setFwIn t (1 - u.fwIn t) else u) s
  let s := s.emptyTrials
  match s.oldArea with
  | some a => { s with regsFlash := a.regs, recsFlash := a.recs, mapFlash := a.map, oldArea := none }.w .UPD_CFG_FMT 0 a.fmt
  | none => s

/-- Parts in TRIAL fall back at a boot (R422). -/
def State.bootFallback (s : State) : State :=
  if [0, 1, 2, 3].any (fun t => (s.fwSlot t (s.fwIn t)).state == 2) then (s.trialsBack.w .UPD_STAT_RESULT 0 4).raise .updateFallback
  else s.emptyTrials

/-- The HMP has started: class N, the domains, the programs, SAF, and the soot log's BOOT (R438); `resume` marks a Hibernate exit (R440). -/
def State.bootHmp (s : State) (resume : Bool) (f : BootFacts) : State :=
  let kind := s.r .RST_CAUSE_KIND
  let s := if resume then s else s.loadFlash
  let s := { s with soot := { s.soot with memRing := if resume then s.soot.memRing else s.soot.ember } }
  let s := if resume then s else ((List.range 4).filter (fun t => t == 0 || t == 3)).foldl
    (fun u t => u.loadImage (u.fwSlot t (u.fwIn t)).image (fun _ => 0)) s
  let s := (s.domainsTo s.runOn).w .PWR_STAT_STATE 0 0
  let target := 750 + 5 * s.r .AG_STAT_VRAISE
  let s := (s.w .HLTH_VCORE_TARGET 0 target).updPower (fun q => { q with vout := target })
  let s := s.safStart
  let s := match f.lowMs with
    | some ms =>
      let s := s.w .RST_NLONG_MS 0 (min ms (2 ^ 32 - 1))
      if 10000 < ms then s.sootHold .resetNLong (min ms (2 ^ 32 - 1)) else s
    | none => s
  let held := s.soot.held
  let held := if s.power.refclk then
      (match held.reverse with | e :: es => (({ e with data := f.fallbackMs } : SootEntry) :: es).reverse | [] => []) else held
  let s := s.sootStore (s.sootEntry Ev.boot.code 0xFF 0 0 kind)
  let s := held.foldl State.sootStore s
  let s := { s with soot := { s.soot with held := [], booted := true }, hmpRun := true }
  let s := s.updPower (fun q => { q with refclk := false })
  if s.rb .RK_CFG_AUTO && bit (s.r .PWR_DOM_ON) 2 then s.goListen else s

/-- The boot (R438): the HMP starts from the slot in force, or from the other (BOOT_ALT); with neither, the DS128 enters Recovery (R439). -/
def State.boot (s : State) (f : BootFacts) : State :=
  let resume := s.power.leaving && !s.power.held
  if !(s.power.held || resume || !s.power.booted) then s
  else
    let s := match s.power.hib with
      | some since => if resume then (s.wakeBases since).w .RST_CAUSE_KIND 0 5 else s
      | none => s
    let s := s.updPower (fun q => { q with held := false, leaving := false, hib := none, wake := 0, woke := false, booted := true })
    let s := s.bootFallback
    let ok (t : State) (k : Nat) : Bool := !t.belowLimit 0 (t.fwSlot 0 k).version
    let k := s.fwIn 0
    if f.inForce && ok s k then s.bootHmp resume f
    else if f.other && ok s (1 - k) then ((s.setFwIn 0 (1 - k)).raise .bootAlt).bootHmp resume f
    else { (s.domainsTo 0x613).w .PWR_STAT_STATE 0 2 with hmpRun := true }

/-! Health (R441, R461). -/

/-- Take a measured junction temperature, in 1/16 °C. -/
def State.takeTj (s : State) (d : Nat) (tj : Int) : State :=
  let s := s.wI .HLTH_TJ_TJ d tj
  if s.rI .HLTH_TJ_MAX d < tj then s.wI .HLTH_TJ_MAX d tj else s

/-- THERMAL_WARN: a die has reached 110 °C, or fallen to 105 °C; the flag clears when every die has. -/
def execThermalWarn (die : Fin 8) (tj : W16) (s : State) : Host.Outcome State Fault Refusal :=
  let s := s.takeTj die.val (toSigned 16 tj.toNat)
  .next (
    if (List.range 8).any (fun d => decide (110 * 16 ≤ s.rI .HLTH_TJ_TJ d)) then
      (if s.rb .HLTH_FLAGS_THERM_WARN then s else (s.wb .HLTH_FLAGS_THERM_WARN 0 true).raise .thermalWarn)
    else if (List.range 8).all (fun d => decide (s.rI .HLTH_TJ_TJ d ≤ 105 * 16)) then s.wb .HLTH_FLAGS_THERM_WARN 0 false
    else s)

/-- SUPPLY_WARN: whether some supply lies outside its operating range but inside its monitor limits. -/
def execSupplyWarn (outside : Bool) (s : State) : Host.Outcome State Fault Refusal :=
  .next (
    if outside then (if s.rb .HLTH_FLAGS_SUP_WARN then s else (s.wb .HLTH_FLAGS_SUP_WARN 0 true).raise .supplyWarn)
    else s.wb .HLTH_FLAGS_SUP_WARN 0 false)

/-- PMB_ALERT: PMB_ALERT_N has been low for 1 ms. -/
def execPmbAlert (s : State) : Host.Outcome State Fault Refusal := .next (s.raise .supplyWarn)

/-- A voltage lies within some percent of another. -/
def within (mv target percent : Nat) : Bool := decide (((mv : Int) - target).natAbs * 100 ≤ target * percent)

/-- VCORE_REWRITE: VCORE has been outside TARGET by more than 3 % for 1 s, and TARGET is written again. -/
def execVcoreRewrite (mv : Nat) (s : State) : Host.Outcome State Fault Refusal :=
  let s := s.w .HLTH_VCORE_MV 0 mv
  let t := s.r .HLTH_VCORE_TARGET
  .next (if within mv t 3 then s else s.updPower (fun q => { q with vout := t }))

/-- Ask the regulator for one VRAISE step more (R443, R461). -/
def State.askStep (s : State) : State :=
  s.updPower (fun q => { q with step := some s.now0, retry := none, vout := s.r .HLTH_VCORE_TARGET + 5 })

/-- AGEING_VRAISE: a die's slack has stayed below SLACK_LO for 60 s. -/
def execAgeingVraise (s : State) : Host.Outcome State Fault Refusal :=
  .next (
    if decide (s.r .AG_STAT_VRAISE < 10) && s.power.step.isNone && s.power.retry.isNone &&
        s.power.low.any (fun e => match e.2 with | some t => decide (t + msT 60000 ≤ s.now0) | none => false) then s.askStep
    else s)

/-- VRAISE_CONFIRM: the step counts if VCORE reaches the new TARGET within 1 % within 10 ms; after them it is tried again 60 s later. -/
def execVraiseConfirm (mv : Nat) (s : State) : Host.Outcome State Fault Refusal :=
  let s := s.w .HLTH_VCORE_MV 0 mv
  match s.power.step with
  | none => .next s
  | some t =>
    let target := s.r .HLTH_VCORE_TARGET + 5
    .next (
      if s.now0 ≤ t + msT 10 && within mv target 1 then
        (((s.inc .AG_STAT_VRAISE).w .HLTH_VCORE_TARGET 0 target).updPower (fun q => { q with step := none, low := [] })).raise .ageingVolt
      else if t + msT 10 ≤ s.now0 then
        (s.updPower (fun q => { q with step := none, retry := some (s.now0 + msT 60000), vout := s.r .HLTH_VCORE_TARGET })).raise .supplyWarn
      else s)

/-- VRAISE_RETRY: 60 s after an unconfirmed step. -/
def execVraiseRetry (s : State) : Host.Outcome State Fault Refusal :=
  match s.power.retry with
  | none => .next s
  | some t => .next (if t ≤ s.now0 then s.askStep else s)

/-! Ageing (R442 to R446). -/

/-- Note since when a measured value has been low. -/
def lowStep (now : Nat) (low : Bool) (was : Option Nat) : Option Nat := if low then some (was.getD now) else none

/-- AGEING_SLACK_SAMPLE: slack, temperatures, VCORE and port latencies of this second; a rise of the guard time re-plans every closed mode. -/
def execAgeingSlackSample (m : HealthSample) (s : State) : Host.Outcome State Fault Refusal :=
  if s.asleep then .next s
  else
    let s := (List.range 8).foldl (fun t d =>
      let v := min (m.slack.getD d 0) 65535
      let t := (t.w .AG_SLACK_SLACK d v).takeTj d (m.tj.getD d 0)
      t.updPower (fun q => { q with low := Tbl.modify none q.low d (lowStep t.now0 (decide (v < t.r .AG_CFG_SLACK_LO))) })) s
    let s := (List.range 64).foldl (fun t n =>
      let low := t.r .AG_STAT_VRAISE == 10 && decide (m.cores.getD n 0 < t.r .AG_CFG_SLACK_MIN)
      t.updPower (fun q => { q with lowCore := Tbl.modify none q.lowCore n (lowStep t.now0 low) })) s
    let s := s.w .HLTH_VCORE_MV 0 m.mv
    let g := divCeil (max m.ports.1 m.ports.2 - s.fwdDelay) 1000
    .next (if s.r .AG_STAT_GUARD < g then (s.w .AG_STAT_GUARD 0 (min g 255)).replan.raise .ageingGuard else s)

/-- AGEING_HOUR: a powered hour. How a slack is referred to 85 °C is not stated, so each referred value is free. -/
def execAgeingHour (s : State) : Host.Outcome State Fault Refusal :=
  if s.asleep then .next s
  else
    let s := s.inc .AG_HOURS_HOURS
    .next ((List.range 8).foldl (fun t d =>
      let (v, t) := t.fresh
      t.updPower (fun q => { q with hours := Tbl.modify [] q.hours d (fun l => (v % 65536 :: l).take 24) })) s)

/-- Raise an ageing warning at most once in 24 hours for each cause (R446). -/
def State.warnOnce (s : State) (cause : Nat) (e : Ev) : State :=
  let due : Bool := match Tbl.get none s.power.warned cause with | some t => decide (t + msT 86400000 ≤ s.now0) | none => true
  if due then (s.updPower (fun q => { q with warned := Tbl.set none q.warned cause (some s.now0) })).raise e else s

/-- A mode fits with the guard time G, and with G + 10 ns: 0 not closed, 1 fits, 2 only without the 10 ns, 3 not (R446, R452). -/
def State.fitStatus (s : State) (k : Nat) : Nat :=
  let m := s.sched k
  if m.phase ≠ 2 then 0
  else if !s.timesFit s.allDescs k m then 3
  else if !(s.w .AG_STAT_GUARD 0 (s.r .AG_STAT_GUARD + 1)).timesFit s.allDescs k m then 2
  else 1

/-- A die's points of the last 365 days, newest first, have never fallen: no line through them falls. -/
def neverFell (l : List Nat) : Bool := ((l.take 365).zip (l.take 365).tail).all (fun e => decide (e.2 ≤ e.1))

/-- AGEING_DAY: at the end of 24 powered hours the day's points are entered, DAYS is predicted, and every closed mode is checked. DAYS is 0xFFFF
where no die's slack has fallen, and otherwise a free value: the manual states neither the method of the fit nor the gain. -/
def execAgeingDay (s : State) : Host.Outcome State Fault Refusal :=
  if (Tbl.get [] s.power.hours 0).length < 24 || s.asleep then .next s
  else
    let s := s.updPower (fun q => { q with
      days := (List.range 8).foldl (fun t d => Tbl.modify [] t d (fun l => ((Tbl.get [] q.hours d).foldl min 65535 :: l).take 4096)) q.days
      hours := [] })
    let (v, s) := s.fresh
    let s := s.w .AG_STAT_DAYS 0 (if (List.range 8).all (fun d => neverFell (Tbl.get [] s.power.days d)) then 65535 else v % 65536)
    let s := (List.range 8).foldl (fun t k =>
      match t.fitStatus k with
      | 2 => t.warnOnce k .ageingWarn
      | 3 => t.warnOnce (8 + k) .ageingNofit
      | _ => t) s
    .next (if s.r .AG_STAT_DAYS < s.r .AG_CFG_WARN_DAYS then s.warnOnce 16 .ageingWarn else s)

/-- The spare of a worn core: the lowest core of its die that is not worn and has no enabled descriptor. -/
def State.spareOf (s : State) (n : Nat) : Option Nat :=
  (List.range 16).find? (fun k => !s.worn (n / 16 * 16 + k) && !(s.dieDescs (n / 16)).any (fun d => descEnabled d.2 && descCore d.2 == k))

/-- AGEING_CORE_WORN (R445). -/
def execAgeingCoreWorn (core : Fin 64) (s : State) : Host.Outcome State Fault Refusal :=
  let n := core.val
  let g := n / 16
  let due : Bool := match Tbl.get none s.power.lowCore n with | some t => decide (t + msT 60000 ≤ s.now0) | none => false
  .next (
    if !due || s.worn n || s.r .AG_STAT_VRAISE ≠ 10 then s
    else
      let s := if n < 32 then s.w .AG_CORE_LO_WORN 0 (setBit (s.r .AG_CORE_LO_WORN) n true)
        else s.w .AG_CORE_HI_WORN 0 (setBit (s.r .AG_CORE_HI_WORN) (n - 32) true)
      match s.spareOf n with
      | none => s.raise .ageingNofit
      | some k =>
        let moved (b : List Byte) : List Byte := patch b 3 [BitVec.ofNat 8 (fld b 3 1 / 16 * 16 + k)]
        let ds := s.allDescs.map (fun d => if d.1 = g && descCore d.2.2 = n % 16 then (d.1, d.2.1, moved d.2.2) else d)
        if (List.range 8).all (fun j => (s.sched j).phase != 2 || s.loadFits ds j (s.sched j)) then
          let s := s.updCore (g * 16 + k) (fun x => { x with prog := (s.core n).prog })
          let mine := (s.dieDescs g).filter (fun d => descCore d.2 == n % 16)
          let s := s.updGrate g (fun x => { x with moves := x.moves ++ mine.map (fun d =>
            { core := k, desc := d.1, lines := (32768 - descSvbase d.2) / 32, cycle := cycAdd s.cycle 16 }) })
          s.raise .ageingCore
        else s.raise .ageingNofit)

/-- AGEING_GET. -/
def execAgeingGet (p : Pkt) (s : State) : Host.Outcome State Fault Refusal :=
  .next (hostCmd 0x0025 p s { plen := p.len == 0 } fun s =>
    let (b, s) := s.readRegs p.ctx 0xE0060 13
    (s, b ++ (List.range 8).flatMap (fun k =>
      le 1 (s.fitStatus k) ++ [0, 0, 0] ++ leInt 4 (if (s.sched k).phase = 2 then computeWindow (s.sched k).period (s.sched k).inDone else 0))))

end Sys2Proof.Machine
end

