-- ==== Sys2Proof/Machine/SafCmd.lean ====
section
/-! DEFINITION. Sys2Proof/Machine/SafCmd.lean: the safety opcodes (R323, R339, R343, R348 to R351, R356). -/

namespace Sys2Proof.Machine

/-- A safety command holds off the end of the session (R348). -/
def State.safeTouch (s : State) (c : Nat) : State :=
  if s.rb .SAF_STAT_SESSION && s.r .SAF_STAT_SESSION_CTX == c then { s with safeLast := s.clk } else s

/-- The caller has the safety session open. -/
def State.inSession (s : State) (c : Nat) : Bool := s.rb .SAF_STAT_SESSION && s.r .SAF_STAT_SESSION_CTX == c

/-- A command forwarded to SAF. -/
def safeCmd (op : Nat) (p : Pkt) (s : State) (q : Req) (eff : State → State × List Byte) : State :=
  hostCmd op p s
    { q with saf := true, onRefuse := fun st t => q.onRefuse st (t.safeTouch p.ctx) }
    fun t => eff (t.safeTouch p.ctx)

/-- A command that writes the edit copy within a session. -/
def editCmd (op : Nat) (p : Pkt) (s : State) (plen : Nat) (ok : Bool) (key : Nat) (rec : State → List Byte) : State :=
  safeCmd op p s { plen := p.len == plen, checks := [(ok, .badParam), (s.inSession p.ctx, .badState)] }
    fun t => ({ t with safeEdit := Tbl.set [] t.safeEdit key (rec t) }, [])

/-! Reading. -/

/-- SAFE_STATUS_GET: 152 bytes. -/
def execSafeStatusGet (p : Pkt) (s : State) : Host.Outcome State Fault Refusal :=
  .next (safeCmd 0x0701 p s { plen := p.len == 0 } fun s =>
    let (a, s) := s.readRegs p.ctx 0xD0000 6
    let (b, s) := s.readRegs p.ctx 0xD0100 32
    (s, a ++ b))

/-- SAFE_CONN_STATUS_GET. -/
def execSafeConnStatusGet (p : Pkt) (s : State) : Host.Outcome State Fault Refusal :=
  let first := p.u 0 1
  let n := p.u 1 1
  .next (safeCmd 0x0702 p s { plen := p.len == 2, checks := [(decide (n ≤ 128) && decide (first + n ≤ 256), .badParam)] } fun s =>
    let (b, s) := s.readRegs p.ctx (0xD0200 + 16 * first) (4 * n)
    (s, b))

/-- SAFE_LOG_GET (R351). -/
def execSafeLogGet (p : Pkt) (s : State) : Host.Outcome State Fault Refusal :=
  .next (safeCmd 0x0703 p s { plen := p.len == 8, checks := [(decide (p.u 0 1 ≤ 64) && zeroBytes p.params 1 3, .badParam)] } fun s =>
    let l := (s.safeLog.filter (fun e => decide (p.u 4 4 ≤ fld e 0 4))).take (p.u 0 1)
    (s, le 1 l.length ++ [0, 0, 0] ++ l.flatten))

/-- SAFE_SET_GET; where no set is in force, zeros (log 36). -/
def execSafeSetGet (p : Pkt) (s : State) : Host.Outcome State Fault Refusal :=
  .next (safeCmd 0x0704 p s
    { plen := p.len == 8,
      checks := [(decide (p.u 0 1 < 2) && p.u 1 1 == 0 && decide (p.u 2 2 ≤ 4000) && decide (p.u 4 4 + p.u 2 2 ≤ 17600), .badParam)] }
    fun s => (s,
      if p.u 0 1 = 0 ∧ !s.rb .SAF_STAT_CONFIG_VALID then le (p.u 2 2) 0
      else slice (safImage (if p.u 0 1 = 0 then s.safeSet else s.safeEdit)) (p.u 4 4) (p.u 2 2)))

/-! The session. -/

/-- The stored salt and hash of a set's password, none where it holds no password. -/
def safePassword (set : Tbl (List Byte)) : Option (List Byte × List Byte) :=
  let b := slice (safeGet set 1280) 0 64
  if zeroBytes b 0 64 then none else some (slice b 0 16, slice b 16 48)

/-- A password matches the set in force; without one, length 0 does (R348). -/
def State.passwordOk (s : State) (pw : List Byte) : Bool :=
  match safePassword s.safeSet with
  | none => pw.isEmpty
  | some (salt, hash) => Config.sha384 (salt ++ pw) == hash

/-- A failed login: the third in a row locks logins out and is logged. -/
def State.loginFailed (s : State) (c : Nat) : State :=
  if s.rb .SAF_STAT_LOCKOUT then s
  else
    let s := { s with safeFails := s.safeFails + 1 }
    if s.safeFails < 3 then s
    else { (s.wb .SAF_STAT_LOCKOUT 0 true).safeLogAdd 3 c (s.r .SAF_CRC_CRC) (s.r .SAF_CRC_CRC) with safeLockAt := s.clk }

/-- SAFE_LOGIN. The edit copy starts from the set in force (log 34). -/
def execSafeLogin (p : Pkt) (s : State) : Host.Outcome State Fault Refusal :=
  let n := p.u 0 1
  .next (safeCmd 0x0710 p s
    { plen := decide (4 ≤ p.len) && p.len == 4 + n,
      checks :=
        [(decide (n ≤ 32) && zeroBytes p.params 1 3, .badParam), (!s.rb .SAF_STAT_SESSION, .badState),
         (!s.rb .SAF_STAT_LOCKOUT && s.passwordOk (slice p.params 4 n), .authFail)],
      onRefuse := fun st t => if st = .authFail then t.loginFailed p.ctx else t }
    fun t => ({ (t.wb .SAF_STAT_SESSION 0 true).w .SAF_STAT_SESSION_CTX 0 p.ctx with safeEdit := t.safeSet, safeFails := 0, safeLast := t.clk }, []))

/-- SAFE_LOGOUT: ends the caller's session; without one nothing is done. -/
def execSafeLogout (p : Pkt) (s : State) : Host.Outcome State Fault Refusal :=
  .next (safeCmd 0x0711 p s { plen := p.len == 0 } fun s => (s.safeEnd p.ctx, []))

/-- SAFE_PASSWORD_SET: a new salt, free, and the hash go into the edit copy. -/
def execSafePasswordSet (p : Pkt) (s : State) : Host.Outcome State Fault Refusal :=
  let n := p.u 0 1
  .next (safeCmd 0x0712 p s
    { plen := decide (4 ≤ p.len) && p.len == 4 + n,
      checks := [(decide (8 ≤ n) && decide (n ≤ 32) && zeroBytes p.params 1 3, .badParam), (s.inSession p.ctx, .badState)] }
    fun t =>
      let (v, t) := t.fresh
      let salt := le 16 v
      ({ t with safeEdit := Tbl.set [] t.safeEdit 1280 (salt ++ slice (Config.sha384 (salt ++ slice p.params 4 n)) 0 48) }, []))

/-! The records of the edit copy. -/

/-- A connection record is inside Table 12.10; ADDR 0 is no connection. -/
def connRecOk (b : List Byte) : Bool :=
  fld b 0 1 == 0 ||
    (decide (fld b 0 1 ≤ 254) && decide (1 ≤ fld b 1 1) && decide (fld b 1 1 ≤ 3) && decide (fld b 2 1 ≤ 3) && decide (fld b 3 1 < 32) &&
      decide (1 ≤ fld b 4 4) && decide (fld b 4 4 ≤ 0x7FFFFFFF) && decide (10 ≤ fld b 8 2) && decide (1 ≤ fld b 10 1) &&
      decide (fld b 10 1 ≤ 16) && decide (1 ≤ fld b 11 1) && (if fld b 1 1 = 1 then decide (fld b 12 2 < 128) else fld b 12 2 == 0xFFFF) &&
      zeroBytes b 14 2)

/-- SAFE_CONN_SET. -/
def execSafeConnSet (p : Pkt) (s : State) : Host.Outcome State Fault Refusal :=
  .next (editCmd 0x0720 p s 20 (zeroBytes p.params 1 3 && connRecOk (slice p.params 4 16)) (p.u 0 1) fun _ => slice p.params 4 16)

/-- A safe-axis record is inside Table 12.11; a stepper's selects no SS2, SOS, SLS or SDI (R343). -/
def axisRecOk (stepper : Bool) (b : List Byte) : Bool :=
  (List.range 6).all (fun i => decide (fld b i 1 < 64) || fld b i 1 == 0xFF) && (!stepper || (List.range 4).all (fun i => fld b (2 + i) 1 == 0xFF)) &&
    decide (fld b 6 1 < 2) && decide (fld b 7 1 < 2) && decide (1 ≤ fld b 28 2) && decide (fld b 30 2 ≤ 1000) && decide (1 ≤ fld b 44 1) &&
    decide (1 ≤ fld b 45 1) && decide (fld b 45 1 ≤ 64) && (decide (fld b 46 1 < 24) || fld b 46 1 == 0xFF) && decide (fld b 47 1 < 4)

/-- No channel of a set is both a brake and in OUTS (R356). -/
def outsApart (set : Tbl (List Byte)) : Bool :=
  (List.range 24).all (fun c =>
    !((safConnIds set).any (fun k => fld (safeGet set k) 1 1 != 3 && fld (safeGet set (256 + k)) 46 1 == c) &&
      (List.range 32).any (fun z => bit (fld (safeGet set (768 + z)) 4 4) c)))

/-- SAFE_AXIS_SET. -/
def execSafeAxisSet (p : Pkt) (s : State) : Host.Outcome State Fault Refusal :=
  let k := p.u 0 1
  let b := slice p.params 4 48
  .next (editCmd 0x0721 p s 52
    (zeroBytes p.params 1 3 && axisRecOk (fld (safeGet s.safeEdit k) 1 1 == 2) b && outsApart (Tbl.set [] s.safeEdit (256 + k) b))
    (256 + k) fun _ => b)

/-- A signal record is inside Table 12.12 and R338. -/
def sigRecOk (b : List Byte) : Bool :=
  [0, 2].all (fun o => fld b o 2 / 16384 != 3 && (fld b o 2 / 16384 != 1 || decide (fld b o 2 % 32 < 24)) &&
    (fld b o 2 / 16384 != 2 || decide (fld b o 2 % 64 < 40))) &&
    decide (1 ≤ fld b 4 2) && decide (fld b 4 2 ≤ 10000) && decide (fld b 6 1 < 2) && zeroBytes b 7 1

/-- SAFE_SIGNAL_SET. -/
def execSafeSignalSet (p : Pkt) (s : State) : Host.Outcome State Fault Refusal :=
  .next (editCmd 0x0722 p s 12 (decide (p.u 0 1 < 64) && zeroBytes p.params 1 3 && sigRecOk (slice p.params 4 8)) (512 + p.u 0 1)
    fun _ => slice p.params 4 8)

/-- A zone record is inside Table 12.12. -/
def zoneRecOk (b : List Byte) : Bool :=
  [0, 1].all (fun o => decide (fld b o 1 < 64) || fld b o 1 == 0xFF) && zeroBytes b 2 2 && decide (fld b 4 4 < 2 ^ 24)

/-- SAFE_ZONE_SET. -/
def execSafeZoneSet (p : Pkt) (s : State) : Host.Outcome State Fault Refusal :=
  let b := slice p.params 4 8
  .next (editCmd 0x0723 p s 12
    (decide (p.u 0 1 < 32) && zeroBytes p.params 1 3 && zoneRecOk b && outsApart (Tbl.set [] s.safeEdit (768 + p.u 0 1) b))
    (768 + p.u 0 1) fun _ => b)

/-- A channel record claims its channel inside Table 11.4 with SRC 1 and AXIS 0, or is all zero. -/
def chanRecOk (b : List Byte) : Bool :=
  zeroBytes b 0 16 ||
    (decide (1 ≤ fld b 0 1) && decide (fld b 0 1 < 4) && fieldFlagsFit (fld b 0 1) (fld b 1 1) && decide (10 ≤ fld b 4 2) && decide (fld b 4 2 ≤ 10000) &&
      decide (50 ≤ fld b 6 2) && decide (fld b 6 2 ≤ 1000) && decide (fld b 10 1 < 24) && fld b 11 1 == 1 && fld b 12 2 == 0 && zeroBytes b 14 2)

/-- SAFE_CHANNEL_SET: a channel that a host uses is not claimed (R356). -/
def execSafeChannelSet (p : Pkt) (s : State) : Host.Outcome State Fault Refusal :=
  let c := p.u 0 1
  let b := slice p.params 4 16
  let hostUses := (s.owner (chanRes c)).isSome || (!s.rb .FIO_CH_STAT_OWNER c && s.chMode c != 0)
  .next (editCmd 0x0724 p s 20 (decide (c < 24) && zeroBytes p.params 1 3 && chanRecOk b && (zeroBytes b 0 16 || !hostUses)) (1024 + c)
    fun t => if zeroBytes b 0 16 then [] else [(2, 1), (3, 1), (4, 2), (6, 2), (8, 2)].foldl (fun x f => keepZero (t.cfg .field c) x f.1 f.2) b)

/-! Commit (R349). -/

/-- Every record of a set is inside its ranges, and SWD fits the period of the active mode (R332). -/
def State.safeSetOk (s : State) (set : Tbl (List Byte)) : Bool :=
  let rec_ (k : Nat) : List Byte := safeGet set k
  let own (c : Nat) : Bool := !zeroBytes (rec_ (1024 + c)) 0 16
  (safConnIds set).all (fun k =>
    connRecOk (rec_ k) && decide ((fld (rec_ k) 10 1 + 1) * (s.sched s.mode).period ≤ fld (rec_ k) 8 2 * 1000) &&
      (fld (rec_ k) 1 1 == 3 || (axisRecOk (fld (rec_ k) 1 1 == 2) (slice (rec_ (256 + k)) 0 48) &&
        (fld (rec_ (256 + k)) 46 1 == 0xFF || own (fld (rec_ (256 + k)) 46 1))))) &&
    (List.range 64).all (fun g => (sigRecOk (rec_ (512 + g)) &&
      [0, 2].all (fun o => fld (rec_ (512 + g)) o 2 / 16384 != 1 || own (fld (rec_ (512 + g)) o 2 % 32)))) &&
    (List.range 32).all (fun z => (zoneRecOk (rec_ (768 + z)) &&
      (List.range 24).all (fun c => !bit (fld (rec_ (768 + z)) 4 4) c || own c))) &&
    (List.range 24).all (fun c => chanRecOk (slice (rec_ (1024 + c)) 0 16)) && outsApart set

/-- Why a commit is refused. -/
def State.commitFails (s : State) (c expect : Nat) : Option Status :=
  if !s.inSession c || s.r .SAF_SHUT_SHUT != 0xFFFFFFFF || decide (2048 ≤ s.fuse .versionSteps) || (safePassword s.safeEdit).isNone then some .badState
  else if safImageCrc s.safeEdit != expect || !s.safeSetOk s.safeEdit then some .badParam
  else none

/-- A commit: a version step is burnt, the set goes to flash and takes force, and every connection starts again. -/
def State.safeCommit (s : State) (c : Nat) : State :=
  let old := s.r .SAF_CRC_CRC
  let crc := safImageCrc s.safeEdit
  let ver := s.fuse .versionSteps + 1
  let s := s.blow .versionSteps 0 ver
  let s := { s with safeFlash := s.safeEdit, safeFlashCrc := some (crc, ver), safeSet := s.safeEdit }
  let s := ((s.w .SAF_STAT_VERSION 0 ver).w .SAF_CRC_CRC 0 crc).wb .SAF_STAT_CONFIG_VALID 0 true
  ((s.safeLogAdd 1 c crc old).safApply).shutAll 9

/-- SAFE_COMMIT: a refused commit is logged as failed (R351). -/
def execSafeCommit (p : Pkt) (s : State) : Host.Outcome State Fault Refusal :=
  let why := s.commitFails p.ctx (p.u 0 4)
  .next (safeCmd 0x0730 p s
    { plen := p.len == 4, checks := [(why.isNone, why.getD .badState)],
      onRefuse := fun _ t => if p.len ≠ 4 then t else t.safeLogAdd 2 p.ctx (t.r .SAF_CRC_CRC) (t.r .SAF_CRC_CRC) }
    fun t =>
      let t := t.safeCommit p.ctx
      (t, le 2 (t.r .SAF_STAT_VERSION) ++ [0, 0] ++ le 4 (t.r .SAF_CRC_CRC)))

/-- SAFE_DISCARD. -/
def execSafeDiscard (p : Pkt) (s : State) : Host.Outcome State Fault Refusal :=
  .next (safeCmd 0x0731 p s { plen := p.len == 0, checks := [(s.inSession p.ctx, .badState)] } fun t => ({ t with safeEdit := t.safeSet }, []))

/-- SAFE_FUNC_REQ (R339): from any context. -/
def execSafeFuncReq (p : Pkt) (s : State) : Host.Outcome State Fault Refusal :=
  let k := p.u 0 1
  let m := p.u 1 1
  .next (safeCmd 0x0740 p s
    { plen := p.len == 4, checks := [(decide (m < 64) && decide (p.u 2 1 < 64) && p.u 3 1 == 0, .badParam), (s.isSafeAxis k, .badState)] }
    fun t => (t.updSafConn k (fun x => { x with req := (x.req &&& (63 - m)) ||| (p.u 2 1 &&& m) }), []))

end Sys2Proof.Machine
end

