-- ==== Sys2Proof/Machine/Twin.lean ====
section
/-! DEFINITION. Sys2Proof/Machine/Twin.lean: what comes over the Flue, and the changes of role that follow from it (R357 to R369, R372, R373). A
message whose CRC is bad is discarded and counted. -/

namespace Sys2Proof.Machine

/-- Take a message of the Flue, or count a bad one (R357). -/
def State.flueRx (s : State) (ok : Bool) (f : State → State) : State :=
  if s.twin.silent then s else if ok then f s else s.inc .TWIN_CNT2_FLUE_ERR

/-! TICK (R360, R361). -/

/-- The active's classes replace those of this unit's axes; brakes of axes that come to FC3 or FC4 turn off, and axes that leave
them stand as R213 says. -/
def State.takeClasses (s : State) (l : List (Nat × Nat)) : State :=
  (List.range 640).foldl (fun t a =>
    let v := ((l.find? (fun e => e.1 == a)).map (fun e => e.2)).getD 0
    let was := t.fc a
    if v = was then t
    else
      let t := t.updAxis a (fun x => { x with fc := v, causes := if v = 0 then [] else x.causes })
      if 3 ≤ v ∧ was < 3 then t.brakesOff a else if v < 3 ∧ 3 ≤ was then t.leaveInhibit a else t) s

/-- A standby that is not yet in step takes the cycle, its mode, and the tick's instant from the time table (Table 10.3). -/
def State.adoptTick (s : State) (m : FlueTick) : State :=
  if s.cyclic && s.r .TWIN_STAT_SYNC == 2 then s
  else
    let k := m.hdr.mode % 8
    let s := if s.cyclic && s.mode = k then s else s.takeMode k
    let s := s.w .CYC_NOW_CYCLE 0 m.cycle
    let l2 := (timeOf (slice m.timeTable 8 12)).getD 0
    s.updHead (fun h => { h with tickTb := l2 - t10 (3 * s.period + s.r .CYC_TIMES_TOUT_OFS), tickClk := s.clk, departed := [] })

/-- FLUE_TICK_RX. -/
def execFlueTickRx (m : FlueTick) (ok : Bool) (s : State) : Host.Outcome State Fault Refusal :=
  .next (s.flueRx ok fun s =>
    if !s.isStandby then s
    else
      let s := s.adoptTick m
      let late := s.r .TWIN_STAT_SYNC == 2 && decide (800 < s.sinceTick m.cycle)
      let s := s.updTwin (fun t => { t with tick := some m.cycle, tickLate := t.tickLate || late })
      let s := if s.mode = m.hdr.mode % 8 then s else s.takeMode (m.hdr.mode % 8)
      let s := ((s.wb .SW_STAT_ARMED 0 (bit m.hdr.mode 6)).w .SW_STAT_NEXT_SM 0 (m.hdr.mode / 8 % 8)).w .SW_CYCLE_CYCLE 0 m.hdr.switchCycle
      let s := s.setTrailer m.cycle m.hdr.ofsCorr m.hdr.rateCorr
      let s := (s.hubPut 0x3F8000 (slice m.timeTable 0 64)).hubPut 0x3F8040 (slice m.fieldTable 0 16)
      { s.takeClasses m.classes with marksIn := m.marks.foldl (fun t e => Tbl.set [] t e.1 e.2) [] })

/-! DIGEST, RECORD and SENT (R362 to R366). -/

/-- FLUE_DIGEST_RX: a digest that comes before the task's slot cutoff is held and compared. -/
def execFlueDigestRx (cycle : Nat) (die : Fin 4) (desc : Fin 4096) (digest : Nat) (ok : Bool) (s : State) : Host.Outcome State Fault Refusal :=
  .next (s.flueRx ok fun s =>
    let g := die.val
    if s.r .TWIN_STAT_ROLE = 0 || decide (s.cutoffOf (s.desc g desc.val) cycle ≤ (s.sinceTick cycle : Int)) then s
    else
      let s := s.updTwin (fun t => { t with theirs := t.theirs ++ [(cycle, g, desc.val, digest)] })
      match digestOf s.twin.mine cycle g desc.val with
      | some o => s.digestCheck cycle g desc.val o digest
      | none => s)

/-- FLUE_RECORD_RX: what is pending of the task is discarded; a COMMIT's content is written in its place (R366). -/
def execFlueRecordRx (m : FlueRecord) (ok : Bool) (s : State) : Host.Outcome State Fault Refusal :=
  .next (s.flueRx ok fun s =>
    let key := (m.cycle, m.die, m.desc)
    if !(s.isStandby && (s.r .TWIN_STAT_SYNC == 1 || s.r .TWIN_STAT_SYNC == 2)) || s.twin.recs.contains key then s
    else
      let s := s.updTwin (fun t => { t with
        recs := t.recs ++ [key], pend := t.pend.filter (fun e => !(e.cycle == m.cycle && e.die == m.die && e.desc == m.desc)) })
      match m.outcome with
      | .commit =>
        let s := s.putLines (m.die * 16 + descCore (s.desc m.die m.desc)) m.cycle m.lines m.stores
        let s := m.axes.foldl (fun t r => t.putAxisRec m.cycle r) s
        m.shafts.foldl (fun t r => t.putShaftRec m.cycle r) s
      | .abort | .trap => s)

/-- The axis of a block of a segment in a frame. -/
def State.blockAxis (s : State) (addr ty blk frame : Nat) : Option Nat :=
  if ty = 1 then s.servoAxis addr blk
  else if ty = 2 then
    match (s.sched s.mode).seg addr 2 with
    | some g => s.stepAxis addr (frame % max 1 g.pc * g.pa + blk)
    | none => none
  else none

/-- A block whose own copy has left void or empty takes the partner's command into the history (R365). -/
def State.settleSent (s : State) (addr ty frame : Nat) (blocks : List (Nat × List Byte)) (blk : Nat) : State :=
  let key := blockKey addr ty blk
  let empty := bit (fld (slice (Tbl.get [] s.sentHist key) 0 64) 60 1) 0
  let cmd := (blocks.find? (fun e => e.1 == blk)).map (fun e => e.2)
  if !empty then s
  else
    let s := match cmd with | some c => s.mendHist key c | none => s
    match s.servoAxis addr blk with
    | some a => if ty = 1 then s.noteSent a frame cmd else s
    | none => s

/-- Late tasks of the segment: they count unless the partner sent their axis a valid command (R365). -/
def State.settleLate (s : State) (addr ty frame : Nat) (blocks : List (Nat × List Byte)) : State :=
  let mine := (List.range 32).filterMap (fun b => (s.blockAxis addr ty b frame).map (fun a => (a, b)))
  let due := s.twin.lateOwed.filter (fun e => e.2.1 == frame && mine.any (fun m => m.1 == e.1))
  let s := s.updTwin (fun t => { t with lateOwed := t.lateOwed.filter (fun e => !due.contains e) })
  due.foldl (fun t e =>
    let sent := mine.any (fun m => m.1 == e.1 && blocks.any (fun b => b.1 == m.2))
    if sent then t.w .AX_LATE_CONSEC e.1 0 else t.countLate e.1 e.2.1 e.2.2) s

/-- FLUE_SENT_RX: it releases the dispatch gate of the slot's tasks (R362) and enters the history (R365). -/
def execFlueSentRx (frame addr ty : Nat) (blocks : List (Nat × List Byte)) (ok : Bool) (s : State) : Host.Outcome State Fault Refusal :=
  .next (s.flueRx ok fun s =>
    if s.r .TWIN_STAT_ROLE = 0 || (s.partnerSent frame addr ty).isSome then s
    else
      let s := s.updTwin (fun t => { t with sentIn := t.sentIn ++ [{ frame := frame, addr := addr, ty := ty, blocks := blocks }] })
      let s :=
        match (s.sched s.mode).seg addr ty with
        | none => s
        | some g =>
          let i := (s.sched s.mode).segs.findIdx (fun (h : Seg) => h.addr == addr && h.ty == ty)
          if frame = s.cycle && s.head.departed.contains i then
            (List.range (s.blocksOut g frame).length).foldl (fun t b => t.settleSent addr ty frame blocks b) s
          else s
      if s.isActive then s.settleLate addr ty frame blocks else s)

/-! CONTAINER, RELAY and FRAME (R65, R368, R369). -/

/-- FLUE_CONTAINER_RX: the standby places the active's container unchanged, and its SAF keeps the SEQ it placed. -/
def execFlueContainerRx (cycle : Nat) (conn : Fin 256) (bytes : List Byte) (ok : Bool) (s : State) : Host.Outcome State Fault Refusal :=
  .next (s.flueRx ok fun s =>
    if !s.isStandby || s.cnAddr conn.val == 0 then s
    else
      { s with contDown := Tbl.set [] s.contDown (s.cnKey conn.val) (le 4 cycle ++ slice bytes 0 12) }.updSafConn conn.val
        (fun x => { x with seqOut := fld bytes 0 2, outFrame := cycle }))

/-- FLUE_RELAY_RX: while the line is broken a relayed uplink segment is an arrival under R22. It is not relayed back. -/
def execFlueRelayRx (c : SegCopy) (ok : Bool) (s : State) : Host.Outcome State Fault Refusal :=
  .next (s.flueRx ok fun s =>
    if s.rb .RING_STAT_BROKEN && s.r .TWIN_STAT_ROLE != 0 && s.onTheWay c.cycle && s.inTime c.cycle then
      let n := s.twin.bytes
      (s.copyRx c).updTwin (fun t => { t with bytes := n })
    else s)

/-- FLUE_FRAME_RX: the follower takes the winner's kindling frame content, to send it at the kindling tick (R65). -/
def execFlueFrameRx (content : List Byte) (ok : Bool) (s : State) : Host.Outcome State Fault Refusal :=
  .next (s.flueRx ok fun s => if s.headIs .follow then s.updTwin (fun t => { t with content := content }) else s)

/-! Lanes and partner (R357, R358, R368). -/

def laneFld (l : Nat) : Fld := if l = 0 then .TWIN_STAT_LANE0 else .TWIN_STAT_LANE1

/-- FLUE_LANE_DOWN: both units continue on the other lane. -/
def execFlueLaneDown (lane : Fin 2) (s : State) : Host.Outcome State Fault Refusal := .next (s.wb (laneFld lane.val) 0 false)

/-- FLUE_LANE_UP: a lane has valid blocks again; `lat` is the measured latency in 1.25 ns (TWIN_LAT). -/
def execFlueLaneUp (lane : Fin 2) (lat : Nat) (s : State) : Host.Outcome State Fault Refusal :=
  .next ((((s.wb (laneFld lane.val) 0 true).w .TWIN_LAT_LAT 0 lat)).updTwin (fun t => { t with silent := false }))

/-- The standby commits everything that waits for a RECORD and goes on alone for the cycle (R368). -/
def State.enterSolo (s : State) : State :=
  let s := (s.w .TWIN_STAT_SYNC 0 4).inc .TWIN_CNT3_SILENT
  let s := s.twin.pend.foldl State.commitPend s
  s.updTwin (fun t => { t with pend := [], solo := some s.cycle })

/-- Late tasks that still waited for the partner's SENT count (R365). -/
def State.countOwed (s : State) : State :=
  let owed := s.twin.lateOwed
  owed.foldl (fun t e => t.countLate e.1 e.2.1 e.2.2) (s.updTwin (fun t => { t with lateOwed := [] }))

/-- The Flue has become silent (R358, R368), but for the commands that an active had forwarded. -/
def State.silence (s : State) : State :=
  let s := s.updTwin (fun t => { t with silent := true })
  if s.isActive then
    (((s.w .TWIN_STAT_SYNC 0 0).countOwed).updTwin (fun t => { t with solo := some s.cycle })).raise .flueLost
  else if s.isStandby then
    (match s.r .TWIN_STAT_SYNC with
     | 2 => s.enterSolo
     | 1 => s.detach
     | _ => s)
  else s

/-- The planned first uplink arrival plus 1.00 us has passed in the cycle after a silence (R368). -/
def State.partnerDue (s : State) : Bool :=
  match s.twin.solo with
  | some n => decide (cycDiff s.cycle n < 2 ^ 31) && s.cycle != n && decide (s.firstUplink (s.sched s.mode) * 8 + 800 ≤ s.sinceTick (cycAdd n 1))
  | none => false

/-- PARTNER_FRAME_TIMEOUT: without the partner's frame a SOLO standby becomes active, and with it, it is DETACHED; an active reports a
partner whose frame has not come (Table 13.3). -/
def execPartnerFrameTimeout (s : State) : Host.Outcome State Fault Refusal :=
  .next (
    if !s.partnerDue then s
    else
      let came : Bool := match s.twin.solo with | some n => s.twin.frameAt == some (cycAdd n 1) | none => false
      let s := (s.wb .TWIN_STAT_PARTNER_RING 0 came).updTwin (fun t => { t with solo := none })
      if s.isStandby && s.r .TWIN_STAT_SYNC == 4 then
        (if came then (s.w .TWIN_STAT_SYNC 0 3).raise .flueLost
         else
           ((((s.w .TWIN_STAT_ROLE 0 1).w .TWIN_STAT_SYNC 0 0).inc .TWIN_CNT3_ROLE_CHANGES).enterHead .cyclic).raise .partnerLost)
      else if s.isActive && !came then s.raise .partnerLost
      else s)

/-- ROLE_SWAP_TICK (R372): the tick at which a scheduled exchange of roles takes effect. -/
def execRoleSwapTick (s : State) : Host.Outcome State Fault Refusal :=
  .next (if s.cyclic && s.twin.swapAt == some s.nextCycle then s.tick else s)

/-- JOIN_COPY_COMPLETE (R373): the copy stands; SYNCED follows at the next tick. -/
def execJoinCopyComplete (copy : JoinCopy) (s : State) : Host.Outcome State Fault Refusal :=
  .next (
    if !(s.isStandby && s.r .TWIN_STAT_SYNC == 1) then s
    else
      let s := copy.lines.foldl (fun t l => t.updCore l.1 (fun y => { y with view := y.view.writeN (32 * l.2.1) l.2.2 })) s
      let s := copy.stores.foldl (fun t l => t.updSram l.1 (fun m => { m with base := m.base.write l.2.1 l.2.2 })) s
      let s := copy.axes.foldl (fun t r => t.putAxisRec s.cycle r) s
      let s := copy.shafts.foldl (fun t r => t.putShaftRec s.cycle r) s
      s.updTwin (fun t => { t with copied := joinBytes }))

/-! The twin opcodes (Table 13.5). -/

/-- TWIN_CONFIG_SET: accepted on both units, each for itself (R371). A LATE_LIMIT of 0 leaves the field as it is; ENABLE changes only with the head in OFF. -/
def execTwinConfigSet (p : Pkt) (s : State) : Host.Outcome State Fault Refusal :=
  let en := bit (p.u 0 1) 0
  .next (hostCmd 0x0141 p s
    { plen := p.len == 4, need := .lease,
      checks :=
        [(decide (p.u 0 1 < 2) && decide (10 ≤ p.u 2 2) && decide (p.u 2 2 ≤ 1000), .badParam),
         (en == s.rb .TWIN_CFG_ENABLE || s.headIs .off, .badState)] }
    fun s =>
      let s := (s.wb .TWIN_CFG_ENABLE 0 en).w .TWIN_CFG_EPS_MAX 0 (p.u 2 2)
      let s := if p.u 1 1 = 0 then s else s.w .TWIN_CFG_LATE_LIMIT 0 (p.u 1 1)
      ([Fld.TWIN_CFG_ENABLE, .TWIN_CFG_EPS_MAX, .TWIN_CFG_LATE_LIMIT].foldl (fun t f => t.saveFld f 0) s, []))

/-- While TWIN_HALF is set: no zone damper is shut on the standby and open on the active (R425). No message tells a unit the other's dampers; they
are a free value here. -/
def State.swapOpen (s : State) : Bool :=
  let other := Config.freeValue s.free
  let own := s.r .SAF_SHUT_SHUT
  let (standby, active) := if s.isStandby then (own, other) else (other, own)
  !s.rb .UPD_STAT_TWIN_HALF || (List.range 32).all (fun z => !(bit standby z && !bit active z))

/-- TWIN_ROLE_SWAP: on the active of a SYNCED pair, at least 16 cycles ahead; forwarded to the standby over HC7. -/
def execTwinRoleSwap (p : Pkt) (s : State) : Host.Outcome State Fault Refusal :=
  let c := p.u 0 4
  .next (hostCmd 0x0142 p s
    { plen := p.len == 4, need := .lease, fwd := true,
      checks :=
        [(decide (c < Config.cycleModulus), .badParam),
         ((if p.port = .flue then s.isStandby else s.isActive) && s.r .TWIN_STAT_SYNC == 2 && decide (16 ≤ cycDiff c s.cycle) &&
            decide (cycDiff c s.cycle < 2 ^ 31), .badState),
         (s.swapOpen, .badState)] }
    fun s => ((if s.rb .UPD_STAT_TWIN_HALF then s.fresh.2 else s).updTwin (fun t => { t with swapAt := some c }), []))

/-- TWIN_DETACH: the standby stops computing. -/
def execTwinDetach (p : Pkt) (s : State) : Host.Outcome State Fault Refusal :=
  .next (hostCmd 0x0143 p s { plen := p.len == 0, need := .lease, checks := [(s.isStandby, .badState)] } fun s => (s.detach, []))

/-- TWIN_JOIN (R373): a DETACHED standby starts JOINING, unless its images or its safety set differ from the active's. -/
def execTwinJoin (p : Pkt) (s : State) : Host.Outcome State Fault Refusal :=
  .next (hostCmd 0x0144 p s
    { plen := p.len == 0, need := .lease, checks := [(s.isStandby && s.r .TWIN_STAT_SYNC == 3 && !s.twin.silent, .badState)] }
    fun s => (s.joinLine, []))

end Sys2Proof.Machine
end

