-- ==== Sys2Proof/Machine/Update.lean ====
section
/-! DEFINITION. Sys2Proof/Machine/Update.lean: packages and their checks (R408 to R415), loading, activation, confirmation and fall-back (R416 to
R423), twin pairs (R424, R425) and the update opcodes (R427). -/

namespace Sys2Proof.Machine

def State.updUpdate (s : State) (f : Update → Update) : State := { s with update := f s.update }

/-! The manifest (Tables 15.2 and 15.3). -/

/-- NPART, NCOMPAT, KEY_IDX, PKIND, CFG_FMT. -/
def mfParts (m : List Byte) : Nat := fld m 6 1
def mfCompats (m : List Byte) : Nat := fld m 7 1
def mfKey (m : List Byte) : Nat := fld m 20 1
def mfKind (m : List Byte) : Nat := fld m 21 1
def mfFormat (m : List Byte) : Nat := fld m 22 2

/-- The bytes of a manifest by its counts. -/
def mfLen (m : List Byte) : Nat := 192 + 96 * mfParts m + 12 * mfCompats m

/-- A part entry, and the entries of a manifest. -/
def mfEntry (m : List Byte) (i : Nat) : List Byte := slice m (96 + 96 * i) 96
def mfEntries (m : List Byte) : List (List Byte) := (List.range (mfParts m)).map (mfEntry m)

/-- Compatibility entries. -/
def mfRanges (m : List Byte) : List (List Byte) := (List.range (mfCompats m)).map (fun j => slice m (96 + 96 * mfParts m + 12 * j) 12)

/-- TYPE as an index 0 to 3, PFLAGS, VERSION, LEN of an entry. -/
def partType (e : List Byte) : Nat := fld e 0 1 - 1
def partLive (e : List Byte) : Bool := bit (fld e 1 1) 0
def partBurn (e : List Byte) : Bool := bit (fld e 1 1) 1
def partVersion (e : List Byte) : Nat := fld e 4 4
def partLen (e : List Byte) : Nat := fld e 12 4

/-- The parts that a manifest carries. -/
def mfCarried (m : List Byte) : List (List Byte) := (mfEntries m).filter (fun e => partLen e != 0)

/-- No two entries have one TYPE. -/
def typesApart : List (List Byte) → Bool
  | [] => true
  | e :: es => es.all (fun f => fld f 0 1 != fld e 0 1) && typesApart es

/-- The formats and ranges that BAD_PARAM answers for (R413). -/
def mfOk (m : List Byte) : Bool :=
  fld m 0 4 == 0x31464D55 && fld m 4 2 == 1 && decide (1 ≤ mfParts m) && decide (mfParts m ≤ 8) && decide (mfCompats m ≤ 16) &&
  decide (mfKey m < 4) && decide (mfKind m < 2) && zeroBytes m 84 12 &&
  (mfEntries m).all (fun e => decide (1 ≤ fld e 0 1) && decide (fld e 0 1 ≤ 4) && decide (fld e 1 1 < 4) && zeroBytes e 2 2 && zeroBytes e 92 4) &&
  typesApart (mfEntries m) && (mfRanges m).all (fun r => decide (1 ≤ fld r 0 1) && decide (fld r 0 1 ≤ 4) && zeroBytes r 1 3)

/-- The signature holds under a key that the fuses name and do not revoke (R410, R413). -/
def State.mfSigned (s : State) (key m : List Byte) : Bool :=
  !bit (s.fuse .keyRevoked) (mfKey m) && beNat (Config.sha384 key) == s.fuse .keyHash (mfKey m) && Config.cryptoCheck 0 (key ++ m)

/-- The CONFIRMED version in force of a part type. -/
def State.confirmed (s : State) (t : Nat) : Option Nat :=
  if (s.fwSlot t (s.fwIn t)).state = 1 then some (s.fwVersion t) else none

/-- The package suits what is installed (R413 to R415, R423). -/
def State.mfCompatible (s : State) (m : List Byte) : Bool :=
  fld m 8 8 == 0x3832315344 &&
  (if mfKind m = 0 then
    [1, 2, 3].all (fun t => (mfEntries m).any (fun e => fld e 0 1 == t)) && mfCompats m == 0 &&
      ((mfEntries m).filter (fun e => partLen e == 0)).all (fun e => s.confirmed (partType e) == some (partVersion e))
   else
    (mfCarried m).length == 1 &&
      (mfRanges m).all (fun r => match s.confirmed (partType r) with
        | some v => decide (fld r 4 4 ≤ v) && decide (v ≤ fld r 8 4)
        | none => false)) &&
  (mfFormat m == s.r .UPD_CFG_FMT || Config.readsFormat (s.r .UPD_CFG_FMT) (mfFormat m))

/-! The opcodes' frame. -/

/-- The context a command comes from; a forwarded one is HC7's (R371). -/
def pktContext (p : Pkt) : Nat := if p.port = .flue then 7 else p.ctx

/-- An update opcode: the UPDATE right and the configuration lease (R406), which the boot ROM of Recovery cannot give and does not ask. -/
def updCmd (op : Nat) (p : Pkt) (s : State) (plen : Bool) (checks : List (Bool × Status)) (eff : State → State × List Byte) : State :=
  hostCmd op p s { plen := plen, right := some 2, need := if s.recovering then .nothing else .lease, fwd := true, checks := checks } eff

/-- The update is in a state, and the command comes from its context (R416). -/
def State.inUpdate (s : State) (p : Pkt) (states : List Nat) : Bool :=
  states.contains (s.r .UPD_STAT_STATE) && s.r .UPD_STAT_CTX == (pktContext p)

/-- UPDATE_BEGIN (R413 to R416). -/
def execUpdateBegin (p : Pkt) (s : State) : Host.Outcome State Fault Refusal :=
  let key := slice p.params 0 97
  let m := p.params.drop 100
  .next (updCmd 0x0801 p s (decide (192 ≤ m.length))
    [(zeroBytes p.params 97 3 && m.length == mfLen m && mfOk m, .badParam),
     (s.r .UPD_STAT_STATE == 0, .badState),
     (s.mfSigned key m, .verifyFail),
     (s.mfCompatible m, .incompatible),
     (!(mfCarried m).any (fun e => s.belowLimit (partType e) (partVersion e)), .rollback)]
    fun s =>
      let s := ((s.w .UPD_STAT_STATE 0 1).w .UPD_STAT_CTX 0 (pktContext p)).w .UPD_CFG_LOSSY 0 0
      (s.updUpdate (fun _ => { manifest := m, key := key }), []))

/-- UPDATE_DATA: ciphertext of a part. -/
def execUpdateData (p : Pkt) (s : State) : Host.Outcome State Fault Refusal :=
  let i := p.u 0 1
  let off := p.u 4 4
  let b := p.params.drop 8
  .next (updCmd 0x0802 p s (decide (8 ≤ p.len))
    [(zeroBytes p.params 1 3 && (!s.inUpdate p [1] ||
        (decide (i < mfParts s.update.manifest) && decide (off + b.length ≤ partLen (mfEntry s.update.manifest i)))), .badParam),
     (s.inUpdate p [1], .badState)]
    fun s => (s.updUpdate (fun u => { u with staged := Tbl.modify [] u.staged i (fun l => l ++ [(off, b)]) }), []))

/-! Verification (R410, R411, R419). -/

/-- The staged ciphertext of a part entry. -/
def State.stagedPart (s : State) (i : Nat) : List Byte :=
  ((Tbl.get [] s.update.staged i).foldl (fun (m : Mem) (e : Nat × List Byte) => m.writeN e.1 e.2) []).readN 0 (partLen (mfEntry s.update.manifest i))

/-- The content key as K_FAM unwraps it. -/
def mfCek (m : List Byte) : List Byte := Config.decrypt 0 (slice m 24 60)

/-- A part's hash and its tag hold. -/
def State.partHolds (s : State) (i : Nat) : Bool :=
  let m := s.update.manifest
  let e := mfEntry m i
  let c := s.stagedPart i
  Config.sha384 c == slice e 44 48 && Config.cryptoCheck 2 (mfCek m ++ slice e 16 12 ++ slice e 0 16 ++ c ++ slice e 28 16)

/-- A part as decrypted. -/
def State.partImage (s : State) (i : Nat) : List Byte :=
  Config.decrypt 1 (mfCek s.update.manifest ++ slice (mfEntry s.update.manifest i) 16 12 ++ s.stagedPart i)

/-- The indices of the carried parts. -/
def State.carriedIdx (s : State) : List Nat := (List.range (mfParts s.update.manifest)).filter (fun i => partLen (mfEntry s.update.manifest i) != 0)

/-- A part whose programs are handed over live: the standard programs of an HMP part, and an image with LIVE (R419). -/
def liveEntry (e : List Byte) : Bool := partType e == 0 || (partType e == 3 && partLive e)

/-- The cores that an image names. -/
def imageCores (image : List Byte) : List Nat := (List.range 64).filter (fun n => Config.imageWords image n != [])

/-- UPDATE_VERIFY: the parts are checked and written into their free slots, and live programs into the unused half of program memory. -/
def execUpdateVerify (p : Pkt) (s : State) : Host.Outcome State Fault Refusal :=
  .next (updCmd 0x0803 p s (p.len == 0)
    [(s.inUpdate p [1], .badState),
     (Config.cryptoCheck 1 (slice s.update.manifest 24 60 ++ slice s.update.manifest 0 24) && s.carriedIdx.all s.partHolds, .verifyFail),
     (s.carriedIdx.all (fun i => !liveEntry (mfEntry s.update.manifest i) ||
        (List.range 64).all (fun n => decide ((Config.imageWords (s.partImage i) n).length ≤ 8192))), .incompatible)]
    fun s =>
      let s := s.carriedIdx.foldl (fun u i =>
        let e := mfEntry u.update.manifest i
        let t := partType e
        let k := 1 - u.fwIn t
        let image := u.partImage i
        let u := u.setFwSlot t k { state := 2, version := partVersion e, image := image, counter := (u.fwSlot t k).counter + 1 }
        if liveEntry e then u.loadImage image (fun n => 1 - u.bankOf n) else u) s
      ((s.w .UPD_STAT_STATE 0 2).updUpdate (fun u => { u with staged := [] }), []))

/-! Activation (R417 to R421, R425). -/

/-- The package carries SAF parts. -/
def State.carriesSaf (s : State) : Bool := (mfCarried s.update.manifest).any (fun e => partType e == 1 || partType e == 2)

/-- No partner carries the line while SAF restarts: outside a pair, or once the partner was lost while TWIN_HALF is set (Table 15.5). -/
def State.safAlone (s : State) : Bool :=
  !s.rb .TWIN_CFG_ENABLE || (s.rb .UPD_STAT_TWIN_HALF && s.r .TWIN_STAT_ROLE == 1 && s.r .TWIN_STAT_SYNC == 0)

/-- SAF parts take force on this unit: alone, and in a pair on the standby (R425). -/
def State.safHere (s : State) : Bool := s.safAlone || s.r .TWIN_STAT_ROLE == 2

/-- Flip the bank bits of cores. -/
def State.flipBanks (s : State) (cores : List Nat) : State :=
  cores.foldl (fun t n =>
    if n < 32 then t.w .FW_BANK_LO_BANK 0 (setBit (t.r .FW_BANK_LO_BANK) n (t.bankOf n == 0))
    else t.w .FW_BANK_HI_BANK 0 (setBit (t.r .FW_BANK_HI_BANK) (n - 32) (t.bankOf n == 0))) s

/-- The cores whose programs the package replaces live, from the images in their TRIAL slots. -/
def State.liveCores (s : State) : List Nat :=
  (((mfCarried s.update.manifest).filter liveEntry).flatMap (fun e =>
    [0, 1].flatMap (fun k => if (s.fwSlot (partType e) k).state = 2 then imageCores (s.fwSlot (partType e) k).image else []))).eraseDups

/-- The SAF parts take force and SAF restarts (R421). -/
def State.activateSaf (s : State) : State :=
  let s := [1, 2].foldl (fun u t => if (u.fwOther t).state = 2 then u.setFwIn t (1 - u.fwIn t) else u) s
  s.safStart.updUpdate (fun u => { u with safDone := true })

/-- The first activation of a package. -/
def State.activateFirst (s : State) : State :=
  let m := s.update.manifest
  let es := mfCarried m
  let cores := s.liveCores
  let hmp := es.any (fun e => partType e == 0)
  let s := [0, 3].foldl (fun u t => if es.any (fun e => partType e == t) then u.setFwIn t (1 - u.fwIn t) else u) s
  let s := s.flipBanks cores
  let s := if es.any (fun e => partType e == 3 && !partLive e) then s.loadImage (s.fwSlot 3 (s.fwIn 3)).image s.bankOf else s
  let s := if mfFormat m = s.r .UPD_CFG_FMT then s
    else
      { s with oldArea := some { fmt := s.r .UPD_CFG_FMT, regs := s.regsFlash, recs := s.recsFlash, map := s.mapFlash } }.w .UPD_CFG_FMT 0 (mfFormat m)
  let s := if hmp then s.hmpRestart true else s
  let s := if s.carriesSaf && s.safHere then s.activateSaf else s
  let s := s.wb .UPD_STAT_TWIN_HALF 0 (s.carriesSaf && s.rb .TWIN_CFG_ENABLE)
  s.updUpdate (fun u => { u with ends := if u.confirmS = 0 then none else some (s.now0 + msT (1000 * u.confirmS)) })

/-- In Recovery a successful update is confirmed at once and the boot starts again (R439). -/
def State.recoverBoot (s : State) : State :=
  let s := [0, 1, 2, 3].foldl (fun u t => [0, 1].foldl (fun v k =>
    if (v.fwSlot t k).state = 2 then (v.setFwSlot t k { v.fwSlot t k with state := 1 }).setFwIn t k else v) u) s
  { ((s.discardUpdate.w .PWR_STAT_STATE 0 0).updPower (fun q => { q with held := true })) with hmpRun := false }

/-- Activation, or the second one that updates the other unit's SAF (R417, R425). -/
def State.activate (s : State) : State :=
  let s := s.w .UPD_CYCLE_CYCLE 0 0xFFFFFFFF
  if s.recovering then s.recoverBoot
  else
    let s := if s.r .UPD_STAT_STATE = 2 then s.activateFirst
      else (if s.safHere && !s.update.safDone then s.activateSaf else s).wb .UPD_STAT_TWIN_HALF 0 false
    (s.w .UPD_STAT_STATE 0 3).updUpdate (fun u => { u with began := some s.now0, hmpAt := none })

/-- The axes that descriptors bound to a core serve are all in FC3 or FC4 (R420). -/
def State.coreQuiet (s : State) (n : Nat) : Bool :=
  ((s.dieDescs (n / 16)).filter (fun d => descCore d.2 == n % 16)).all (fun d =>
    (s.slotAxes (s.sched s.mode) d.2 s.cycle).all (fun a => decide (3 ≤ s.fc a)))

/-- UPDATE_ACTIVATE: tick c at least 16 cycles ahead; at once while the ring is not cyclic. -/
def execUpdateActivate (p : Pkt) (s : State) : Host.Outcome State Fault Refusal :=
  let c := p.u 0 4
  let again := s.r .UPD_STAT_STATE == 3
  .next (updCmd 0x0804 p s (p.len == 8)
    [(zeroBytes p.params 6 2, .badParam),
     (s.inUpdate p [2, 3] && (!again || s.rb .UPD_STAT_TWIN_HALF) && s.r .UPD_CYCLE_CYCLE == 0xFFFFFFFF && s.update.fall == none, .badState),
     (!s.cyclic || (decide (c < Config.cycleModulus) && decide (16 ≤ cycDiff c s.cycle) && decide (cycDiff c s.cycle < 2 ^ 31)), .badState),
     (again || mfKind s.update.manifest == 0 || [0, 1, 2, 3].all (fun t => (s.fwSlot t (s.fwIn t)).state != 2), .badState),
     (again || !(mfCarried s.update.manifest).any (fun e => partType e == 3 && !partLive e) ||
        (imageCores (s.fwOther 3).image).all s.coreQuiet, .badState),
     (!s.carriesSaf || !s.safAlone || s.update.safDone || (List.range 32).all (fun z => s.rb .SAF_ZONE_SHUT z), .badState)]
    fun s =>
      let s := s.updUpdate (fun u => { u with confirmS := p.u 4 2 })
      (if s.cyclic then s.w .UPD_CYCLE_CYCLE 0 c else s.activate, []))

/-- A named tick has come; while the ring is not cyclic nothing waits for one. -/
def State.tickDue (s : State) (c : Nat) : Bool := !s.cyclic || decide (cycDiff s.cycle c < 2 ^ 31)

/-- UPDATE_ACTIVATION_TICK (R417). -/
def execUpdateActivationTick (s : State) : Host.Outcome State Fault Refusal :=
  let c := s.r .UPD_CYCLE_CYCLE
  .next (if c ≠ 0xFFFFFFFF ∧ s.tickDue c then s.activate else s)

/-! Confirmation and fall-back (R422, R423). -/

/-- Settings in force that the old area holds otherwise are reloaded from it. -/
def State.reloadOld (s : State) (was : Tbl (List Byte)) (wasRegs : Tbl W32) : State :=
  let s := was.foldl (fun (t : State) (e : Nat × List Byte) =>
    if Tbl.get [] t.recsFlash e.1 = e.2 then t else { t with recs := Tbl.set [] t.recs e.1 (Tbl.get [] t.recsFlash e.1) }) s
  wasRegs.foldl (fun (t : State) (e : Nat × W32) =>
    match Fld.ofCode (e.1 % 512) with
    | some f =>
      let v := Tbl.get f.dflt t.regsFlash e.1
      if v = e.2 then t else { t with regs := Tbl.set f.dflt t.regs e.1 v }
    | none => t) s

/-- The whole package falls back. -/
def State.fallNow (s : State) (cause : Nat) : State :=
  let es := mfCarried s.update.manifest
  let cores := s.liveCores
  let saf := s.update.safDone
  let was := s.recsFlash
  let wasRegs := s.regsFlash
  let s := s.trialsBack.reloadOld was wasRegs
  let s := s.flipBanks cores
  let s := if es.any (fun e => partType e == 3 && !partLive e) then s.loadImage (s.fwSlot 3 (s.fwIn 3)).image s.bankOf else s
  let s := if es.any (fun e => partType e == 0) then s.hmpRestart true else s
  let s := if saf then s.safStart else s
  let s := ((s.discardUpdate).wb .UPD_STAT_TWIN_HALF 0 false).w .UPD_STAT_RESULT 0 cause
  s.raise .updateFallback

/-- Begin a fall-back: at the next tick at least 16 cycles ahead, or at once. -/
def State.fallBack (s : State) (cause : Nat) : State :=
  if s.update.fall.isSome then s
  else if s.cyclic then s.updUpdate (fun u => { u with fall := some (cycAdd s.cycle 16, cause), began := none, ends := none })
  else s.fallNow cause

/-- UPDATE_FALLBACK_TICK. -/
def execUpdateFallbackTick (s : State) : Host.Outcome State Fault Refusal :=
  match s.update.fall with
  | none => .next s
  | some f => .next (if s.tickDue f.1 then s.fallNow f.2 else s)

/-- UPDATE_READY_CHECK: the HMP within 500 ms and SAF within 2 s; otherwise the package falls back. -/
def execUpdateReadyCheck (s : State) : Host.Outcome State Fault Refusal :=
  match s.update.began with
  | none => .next s
  | some t =>
    let hmp := (mfCarried s.update.manifest).any (fun e => partType e == 0)
    let hmpOk : Bool := !hmp || (match s.update.hmpAt with | some h => decide (h ≤ t + msT 500) | none => false)
    let hmpLate := !hmpOk && (decide (t + msT 500 ≤ s.now0) || s.update.hmpAt.isSome)
    let safOk := !s.update.safDone || s.r .SAF_STAT_STATE == 1
    .next (
      if hmpOk && safOk then (s.updUpdate (fun u => { u with began := none })).raise .updateActive
      else if hmpLate || (!safOk && (s.r .SAF_STAT_STATE == 2 || decide (t + msT 2000 ≤ s.now0))) then s.fallBack 3
      else s)

/-- UPDATE_CONFIRM. -/
def execUpdateConfirm (p : Pkt) (s : State) : Host.Outcome State Fault Refusal :=
  .next (updCmd 0x0805 p s (p.len == 0)
    [(s.inUpdate p [3] && !s.rb .UPD_STAT_TWIN_HALF && s.update.fall == none, .badState)]
    fun s =>
      let s := (mfCarried s.update.manifest).foldl (fun u e =>
        let t := partType e
        let v := u.fwVersion t / 2 ^ 24
        if partBurn e && decide (u.rollLimit t < v) then u.blow .antiRollback 0 (u.fuse .antiRollback - u.rollLimit t * 256 ^ t + v * 256 ^ t) else u) s
      let s := [0, 1, 2, 3].foldl (fun u t => if (u.fwSlot t (u.fwIn t)).state = 2 then
        u.setFwSlot t (u.fwIn t) { u.fwSlot t (u.fwIn t) with state := 1 } else u) s
      ({ s.discardUpdate with oldArea := none }.raise .updateConfirmed, []))

/-- UPDATE_ABORT: an activation whose tick has come does not start (Table 15.5). -/
def execUpdateAbort (p : Pkt) (s : State) : Host.Outcome State Fault Refusal :=
  .next (updCmd 0x0806 p s (p.len == 0)
    [(s.inUpdate p [1, 2, 3], .badState)]
    fun s =>
      if s.r .UPD_STAT_STATE = 3 then (s.fallBack 1, [])
      else
        let due := s.r .UPD_CYCLE_CYCLE != 0xFFFFFFFF && s.tickDue (s.r .UPD_CYCLE_CYCLE)
        (if due then (s.discardUpdate.w .UPD_STAT_RESULT 0 1).raise .updateFallback else s.discardUpdate, []))

/-- UPDATE_CONFIRM_TIMEOUT. -/
def execUpdateConfirmTimeout (s : State) : Host.Outcome State Fault Refusal :=
  match s.update.ends with
  | none => .next s
  | some t => .next (if t ≤ s.now0 ∧ s.r .UPD_STAT_STATE = 3 then s.fallBack 2 else s)

/-- FW_INVENTORY_GET. -/
def execFwInventoryGet (p : Pkt) (s : State) : Host.Outcome State Fault Refusal :=
  .next (hostCmd 0x0808 p s { plen := p.len == 0 } fun s =>
    let (a, s) := s.readRegs p.ctx 0xF0010 8
    let (b, s) := s.readRegs p.ctx 0xF0040 2
    (s, a ++ b))

end Sys2Proof.Machine
end

