-- ==== Sys2Proof/Machine/HostDispatch.lean ====
section
/-! DEFINITION. Sys2Proof/Machine/HostDispatch.lean: the opcode index (Table 14.14) as a table from opcodes to meanings, and the commands that a
context holds while an earlier one waits (R371, R380, R389, R390). -/

namespace Sys2Proof.Machine

/-- The meaning of a command opcode. -/
abbrev OpMeaning := Pkt → State → Host.Outcome State Fault Refusal

/-- Opcodes of group 0x00xx. -/
def opGroup0 : List (Nat × OpMeaning) :=
  [(0x0000, execDiscover), (0x0001, execLogin), (0x0002, execLogout), (0x0003, execKeepalive),
   (0x0004, execSeqGet), (0x0005, execEventMaskSet), (0x0006, execDeviceInfoGet), (0x0007, execHostsGet),
   (0x0008, execClaim), (0x0009, execRelease), (0x000A, execClaimsGet), (0x000B, execConfigLease),
   (0x000C, execFaultClear), (0x000D, execRegRead), (0x000E, execRegWrite), (0x000F, execNetConfigSet),
   (0x0010, execNetConfigGet), (0x0011, execLoginTableSet), (0x0012, execLoginTableGet), (0x0020, execPowerStateSet),
   (0x0021, execPowerDomainSet), (0x0022, execDeviceReset), (0x0023, execPowerStatusGet), (0x0024, execHealthGet),
   (0x0025, execAgeingGet)]

/-- Opcodes of group 0x01xx. -/
def opGroup1 : List (Nat × OpMeaning) :=
  [(0x0100, execRingStatusGet), (0x0101, execRingCountersGet), (0x0110, execRingKindle), (0x0111, execRingStop),
   (0x0112, execRingNodesGet), (0x0113, execRingAddrSet), (0x0120, execSchedBegin), (0x0121, execSchedSegments),
   (0x0122, execSchedKeepers), (0x0123, execSchedClose), (0x0124, execSchedSwitch), (0x0125, execSchedAbort),
   (0x0130, execNodeEmptySet), (0x0131, execRingTimeGet), (0x0132, execRingNodeMail), (0x0140, execTwinStatusGet),
   (0x0141, execTwinConfigSet), (0x0142, execTwinRoleSwap), (0x0143, execTwinDetach), (0x0144, execTwinJoin),
   (0x0145, execTwinAxGet)]

/-- Opcodes of group 0x02xx. -/
def opGroup2 : List (Nat × OpMeaning) :=
  [(0x0201, execFbConfigSet), (0x0202, execFbConfigGet), (0x0203, execFbCalGet), (0x0204, execFbCalSet),
   (0x0205, execFbCalSave), (0x0206, execFbStatusGet), (0x0207, execFbIndexRefSet), (0x0210, execEmuConfigSet),
   (0x0211, execEmuStatusGet), (0x0212, execEmuRestart), (0x0220, execServoBind), (0x0221, execServoConfigSet),
   (0x0222, execServoConfigGet), (0x0223, execMotorSet), (0x0224, execMotorGet), (0x0225, execMotorSave),
   (0x0226, execPsConfigSet), (0x0227, execPsConfigGet), (0x0228, execVtSet), (0x0229, execServoStatusGet),
   (0x022A, execServoAlign)]

/-- Opcodes of group 0x03xx. -/
def opGroup3 : List (Nat × OpMeaning) :=
  [(0x0301, execMotionConfigSet), (0x0302, execMotionConfigGet), (0x0310, execMoveAbs), (0x0311, execMoveVel),
   (0x0312, execMotionStop), (0x0320, execVmConfigSet), (0x0321, execVmPlantSet), (0x0322, execVmRamp),
   (0x0330, execFollowConfigSet), (0x0331, execFollowConfigGet), (0x0332, execFollowFactor), (0x0340, execCamDefine),
   (0x0341, execCamPoints), (0x0342, execCamStart), (0x0350, execHomeStart), (0x0360, execGroupDefine),
   (0x0361, execGroupMove), (0x0362, execGroupStop), (0x0370, execStepBind), (0x0371, execStepConfigSet),
   (0x0372, execStepConfigGet), (0x0380, execMotionStatusGet)]

/-- Opcodes of group 0x04xx. -/
def opGroup4 : List (Nat × OpMeaning) :=
  [(0x0401, execRecConfigSet), (0x0402, execRecConfigGet), (0x0403, execRecStart), (0x0404, execRecStop),
   (0x0405, execRecTrigger), (0x0406, execRecRead), (0x0407, execRecStatusGet), (0x0408, execAcqBwGet),
   (0x0410, execAdcConfigSet), (0x0411, execAdcCalSet), (0x0412, execAdcStatusGet)]

/-- Opcodes of group 0x05xx. -/
def opGroup5 : List (Nat × OpMeaning) :=
  [(0x0501, execTimeGet), (0x0502, execTimeSet), (0x0503, execTimeStep), (0x0504, execTimeIncSet),
   (0x0505, execBellowsConfigSet), (0x0506, execBellowsFeed), (0x0510, execTinConfigSet), (0x0511, execTinCaptureGet),
   (0x0512, execToutConfigSet), (0x0513, execToutStop), (0x0520, execPtpConfigSet), (0x0521, execPtpBind),
   (0x0522, execPtpTx), (0x0523, execPtpTxtsGet)]

/-- Opcodes of group 0x06xx. -/
def opGroup6 : List (Nat × OpMeaning) :=
  [(0x0601, execFieldConfigSet), (0x0602, execFieldConfigGet), (0x0603, execFieldOutSet), (0x0604, execFieldOutClear),
   (0x0605, execFieldStatusGet), (0x0606, execFieldChStatusGet)]

/-- Opcodes of group 0x07xx. -/
def opGroup7 : List (Nat × OpMeaning) :=
  [(0x0701, execSafeStatusGet), (0x0702, execSafeConnStatusGet), (0x0703, execSafeLogGet), (0x0704, execSafeSetGet),
   (0x0710, execSafeLogin), (0x0711, execSafeLogout), (0x0712, execSafePasswordSet), (0x0720, execSafeConnSet),
   (0x0721, execSafeAxisSet), (0x0722, execSafeSignalSet), (0x0723, execSafeZoneSet), (0x0724, execSafeChannelSet),
   (0x0730, execSafeCommit), (0x0731, execSafeDiscard), (0x0740, execSafeFuncReq)]

/-- Opcodes of group 0x08xx. -/
def opGroup8 : List (Nat × OpMeaning) :=
  [(0x0801, execUpdateBegin), (0x0802, execUpdateData), (0x0803, execUpdateVerify), (0x0804, execUpdateActivate),
   (0x0805, execUpdateConfirm), (0x0806, execUpdateAbort), (0x0807, execUpdateStatusGet), (0x0808, execFwInventoryGet)]

/-- Opcodes of group 0x09xx. -/
def opGroup9 : List (Nat × OpMeaning) :=
  [(0x0901, execSootRead), (0x0902, execSootStatusGet), (0x0910, execTraceRead), (0x0911, execTraceStatusGet)]

/-- Opcodes of group 0x0Axx. -/
def opGroupA : List (Nat × OpMeaning) :=
  [(0x0A01, execLoopProgWrite), (0x0A10, execGrateDescSet), (0x0A11, execGrateDescGet), (0x0A12, execGrateCounterSet),
   (0x0A13, execGrateArrivalSet), (0x0A14, execGratePost), (0x0A15, execGrateMove), (0x0A16, execGrateTraceCfg),
   (0x0A17, execGrateStatusGet)]

/-- Every opcode. -/
def opTable : List (Nat × OpMeaning) :=
  opGroup0 ++ opGroup1 ++ opGroup2 ++ opGroup3 ++ opGroup4 ++ opGroup5 ++ opGroup6 ++ opGroup7 ++ opGroup8 ++ opGroup9 ++ opGroupA

/-- The effect of an opcode; one outside the index is UNKNOWN_OPCODE. -/
def runOp (op : Nat) (p : Pkt) (s : State) : State :=
  match opTable.find? (fun e => e.1 == op) with
  | some e => (match e.2 p s with | .next t => t | _ => s)
  | none => hostCmd op p s { plen := true, known := false } fun s => (s, [])

/-- Run a command that a context holds, whose turn has come; a LOGIN among them resumes the session (R380, R390). -/
def State.runTurn (s : State) (c op : Nat) (p : Pkt) : State :=
  if op = 0x0001 then
    match s.loginRights p c with
    | some rights => s.resumeSession p c rights
    | none => s.updCtx c (fun x => { x with resuming := false })
  else { runOp op p { s with replay := 1 } with replay := 0 }

/-- Run the commands that a context holds, in their order, until one of them waits. -/
def State.runHeld : Nat → State → Nat → State
  | 0, s, _ => s
  | n + 1, s, c =>
    if (s.ctx c).isOpen && !(s.ctx c).busy && s.hmpRun then
      match (s.ctx c).held with
      | [] => s
      | (op, p) :: rest => State.runHeld n ((s.updCtx c (fun x => { x with held := rest })).runTurn c op p) c
    else s

/-- The context a deferred answer is for still has the session that asked. -/
def State.awaits (s : State) (p : Pkt) : Bool := (s.ctx p.ctx).isOpen && (s.ctx p.ctx).busy && (s.ctx p.ctx).session == p.session

/-- Answer a command that has waited, and go on with what its context holds. -/
def State.finish (s : State) (op : Nat) (p : Pkt) (st : Status) (params : List Byte) : State :=
  if p.port = .flue then s.answer p 7 op st params
  else if s.awaits p then
    State.runHeld 40 ((s.updCtx p.ctx (fun x => { x with busy := false, safAt := none })).answer p p.ctx op st params) p.ctx
  else s

/-- A forwarded command takes effect on the active too, now that the standby has acknowledged it or will never do so (R371). Where its session has
departed, it takes effect without an answer. -/
def State.forwardDone (s : State) (op : Nat) (p : Pkt) : State :=
  if s.awaits p then
    let s := s.updCtx p.ctx (fun x => { x with busy := false, held := x.held.drop 1 })
    State.runHeld 40 { runOp op p { s with replay := 2 } with replay := 0 } p.ctx
  else { runOp op { p with port := .flue } s with sent := s.sent }

/-- The oldest forwarded command is done. -/
def State.forwardNext (s : State) : State :=
  match s.fwdOut with
  | [] => s
  | (op, p) :: rest => { s with fwdOut := rest }.forwardDone op p

/-- Every forwarded command is done: the standby is DETACHED or silent. -/
def State.forwardAll (s : State) : State := s.fwdOut.foldl (fun t _ => t.forwardNext) s

/-- Commands that wait for SAF go on once it runs (R323). -/
def State.safReady (s : State) : State :=
  if s.r .SAF_STAT_STATE = 0 then s
  else
    [0, 1, 2, 3, 4, 5, 6, 7].foldl (fun t c =>
      if (t.ctx c).safAt.isSome then State.runHeld 40 (t.updCtx c (fun x => { x with busy := false, safAt := none })) c else t) s

end Sys2Proof.Machine
end

