-- ==== Sys2Proof/Machine/Resume.lean ====
section
/-! DEFINITION. Sys2Proof/Machine/Resume.lean: the events that answer or release waiting commands: the boot, the HMP's return (R382), domains
switched (R431), mailbox answers (R76), SAF's time limit (R392), and the Flue's acknowledgements (R358, R371). -/

namespace Sys2Proof.Machine

/-- BOOT_START: supplies, REFCLK and RESET_N allow the boot (R438). -/
def execBootStart (f : BootFacts) (s : State) : Host.Outcome State Fault Refusal := .next (s.boot f).safReady

/-- HMP_RESTART_DONE (R382, R417, R435): commands are read again and every lease starts over. -/
def execHmpRestartDone (s : State) : Host.Outcome State Fault Refusal :=
  .next (
    if s.hmpRun || s.asleep then s
    else
      let s := { s with hmpRun := true, update := { s.update with hmpAt := if s.update.began.isSome then some s.now0 else s.update.hmpAt } }
      let s := [0, 1, 2, 3, 4, 5, 6, 7].foldl (fun t c => if (t.ctx c).isOpen then t.restartLease c else t) s
      [0, 1, 2, 3, 4, 5, 6, 7].foldl (fun t c => State.runHeld 40 t c) s)

/-- DOMAIN_SWITCH_DONE (R431): one domain of a POWER_DOMAIN_SET has reached its state; with the last one the command is answered. -/
def execDomainSwitchDone (domain : Fin 12) (s : State) : Host.Outcome State Fault Refusal :=
  let d := domain.val
  match s.power.doms.find? (fun e => e.1 == d) with
  | none => .next s
  | some e =>
    let waiter := s.power.waiter
    let s := s.updPower (fun q => { q with doms := q.doms.filter (fun k => k.1 != d) })
    let s := if e.2 then s.domainOn d else s.domainOff d
    .next (
      if s.power.doms ≠ [] then s
      else
        let s := (s.updPower (fun q => { q with waiter := none })).raise .domainChange 0xFF 0 0 [] s.power.mask
        match waiter with
        | some p => s.finish 0x0021 p .ok []
        | none => s)

/-! Mailbox answers. -/

/-- The waiter of the oldest tunnelled message of a service to a node, taken off its list. -/
def State.takeWaiter (s : State) (a svc : Nat) : Option Pkt × State :=
  let l := (s.hnode a).box.awaiting
  match l.find? (fun m => m.svc == svc) with
  | none => (none, s)
  | some m => (m.waiter, s.updHnode a (fun h => { h with box := { h.box with awaiting := l.erase m } }))

/-- Answer the host whose tunnelled message a node has answered, with the node's message. -/
def State.tunnelled (s : State) (a svc : Nat) (m : List Byte) : State :=
  match s.takeWaiter a svc with
  | (some p, s) => s.finish 0x0132 p .ok m
  | (none, s) => s

/-- PRELOAD_ACK: the node holds the mode, or does not (R77). -/
def State.preloadAck (s : State) (a k result : Nat) : State :=
  (s.updSched k (fun m =>
    let rest := m.loaded.filter (· != a)
    { m with loaded := if result = 0 then rest ++ [a] else rest })).showPreloaded

/-- IDENT: the identity that was assigned confirms its address (R70). -/
def State.identAnswer (s : State) (a : Nat) (body : List Byte) : State :=
  let h := s.hnode a
  if h.asking && claimVendor body == claimVendor h.claim && claimSerial body == claimSerial h.claim then s.confirm a else s

/-- MAILBOX_MESSAGE_RX (R76): the oldest complete message of a node is acted upon. -/
def execMailboxMessageRx (addr : Fin 255) (s : State) : Host.Outcome State Fault Refusal :=
  let a := addr.val
  match (s.hnode a).box.inbox with
  | [] => .next s
  | m :: rest =>
    let s := s.updHnode a (fun h => { h with box := { h.box with inbox := rest } })
    let svc := fld m 0 1
    let body := slice m 4 (fld m 2 2)
    .next (
      if svc = 0x82 then s.identAnswer a body
      else if svc = 0x90 then (if fld body 0 1 < 8 then s.preloadAck a (fld body 0 1) (fld body 1 1) else s)
      else if svc = 0x93 then (if fld body 0 4 = 0x80000000 then s else s.heardDelta a (fldI body 0 4))
      else if svc = 0xFF then s.tunnelled a (fld body 0 1) m
      else if 0xC0 ≤ svc then s.tunnelled a (svc - 0x80) m
      else s)

/-! SAF and the partner. -/

/-- SAF_ANSWER_TIMEOUT (R392): a command forwarded to SAF has waited 100 ms. -/
def execSafAnswerTimeout (ctx : Fin 8) (s : State) : Host.Outcome State Fault Refusal :=
  let c := ctx.val
  match (s.ctx c).safAt, (s.ctx c).held with
  | some t, (op, p) :: rest =>
    .next (if t + msT 100 ≤ s.now0 then (s.updCtx c (fun x => { x with held := rest })).finish op p .unavailable [] else s)
  | _, _ => .next s

/-- FLUE_CONFIG_RX (R371): a forwarded command takes effect on the standby; an acknowledgement lets the oldest forwarded command take effect on
the active; the partner tells its SYNC, and a DETACHED one acknowledges nothing. -/
def execFlueConfigRx (m : FlueConfig) (ok : Bool) (s : State) : Host.Outcome State Fault Refusal :=
  .next (s.flueRx ok fun s =>
    match m with
    | .command op p => runOp op { p with port := .flue, ctx := 7 } s
    | .ack => s.forwardNext
    | .sync v =>
      if s.isActive then
        let s := s.w .TWIN_STAT_SYNC 0 v.val
        if v.val = 3 then s.forwardAll else s
      else s)

/-- FLUE_SILENT (R358, R368). -/
def execFlueSilent (s : State) : Host.Outcome State Fault Refusal := .next (if s.twin.silent then s else s.silence.forwardAll)

end Sys2Proof.Machine
end

