-- ==== Sys2Proof/Machine/Dispatch.lean ====
section
/-! DEFINITION. Sys2Proof/Machine/Dispatch.lean: one arm per command, each one direct call of its meaning. -/

namespace Sys2Proof.Machine

/-- The effect of a command on everything but the queue. -/
def exec (i : Instr) (s : State) : Host.Outcome State Fault Refusal :=
  match i with
  | .tick => Sys2Proof.Machine.execTick s
  | .segmentDeparture index => Sys2Proof.Machine.execSegmentDeparture index s
  | .slotCutoff die desc => Sys2Proof.Machine.execSlotCutoff die desc s
  | .taskCommit core std => Sys2Proof.Machine.execTaskCommit core std s
  | .frameReturn port h arrival => Sys2Proof.Machine.execFrameReturn port h arrival s
  | .segmentArrival port c => Sys2Proof.Machine.execSegmentArrival port c s
  | .mailboxMessageRx addr => Sys2Proof.Machine.execMailboxMessageRx addr s
  | .identTimeout addr => Sys2Proof.Machine.execIdentTimeout addr s
  | .deltaTimeout addr => Sys2Proof.Machine.execDeltaTimeout addr s
  | .delayPoll addr => Sys2Proof.Machine.execDelayPoll addr s
  | .nodeGone addr => Sys2Proof.Machine.execNodeGone addr s
  | .keeperReadmit addr => Sys2Proof.Machine.execKeeperReadmit addr s
  | .inputLagEnd => Sys2Proof.Machine.execInputLagEnd s
  | .portLinkDown port hiBer => Sys2Proof.Machine.execPortLinkDown port hiBer s
  | .portLinkUp port => Sys2Proof.Machine.execPortLinkUp port s
  | .listenTimeout => Sys2Proof.Machine.execListenTimeout s
  | .kindlingFrameRx port h rank => Sys2Proof.Machine.execKindlingFrameRx port h rank s
  | .kindlingTick => Sys2Proof.Machine.execKindlingTick s
  | .kindleComplete topo => Sys2Proof.Machine.execKindleComplete topo s
  | .noPartnerTimeout => Sys2Proof.Machine.execNoPartnerTimeout s
  | .rollCallComplete => Sys2Proof.Machine.execRollCallComplete s
  | .switchDecision => Sys2Proof.Machine.execSwitchDecision s
  | .switchTick => Sys2Proof.Machine.execSwitchTick s
  | .nodeFrameRx node port c => Sys2Proof.Machine.execNodeFrameRx node port c s
  | .nodeKindlingAccept node cycle prio serial => Sys2Proof.Machine.execNodeKindlingAccept node cycle prio serial s
  | .nodeLoopBack node port => Sys2Proof.Machine.execNodeLoopBack node port s
  | .nodeLoopEnd node port => Sys2Proof.Machine.execNodeLoopEnd node port s
  | .nodeTinSample node cycle inputs safe => Sys2Proof.Machine.execNodeTinSample node cycle inputs safe s
  | .nodeToutLatch node cycle => Sys2Proof.Machine.execNodeToutLatch node cycle s
  | .nodeTransition node block second => Sys2Proof.Machine.execNodeTransition node block second s
  | .nodeEmptyHoldEnd node ty index limit => Sys2Proof.Machine.execNodeEmptyHoldEnd node ty index limit s
  | .nodeFrameTimeout node => Sys2Proof.Machine.execNodeFrameTimeout node s
  | .nodeDesatDetect node block leg after => Sys2Proof.Machine.execNodeDesatDetect node block leg after s
  | .nodeGateUndervolt node block leg => Sys2Proof.Machine.execNodeGateUndervolt node block leg s
  | .identReq node => Sys2Proof.Machine.execIdentReq node s
  | .preload node => Sys2Proof.Machine.execPreload node s
  | .unload node => Sys2Proof.Machine.execUnload node s
  | .emptyCfg node => Sys2Proof.Machine.execEmptyCfg node s
  | .delay node => Sys2Proof.Machine.execDelay node s
  | .pdelaySet node => Sys2Proof.Machine.execPdelaySet node s
  | .counters node => Sys2Proof.Machine.execCounters node s
  | .mailboxRelease node => Sys2Proof.Machine.execMailboxRelease node s
  | .unknownService node => Sys2Proof.Machine.execUnknownService node s
  | .nodeSafeContainerRx node place b => Sys2Proof.Machine.execNodeSafeContainerRx node place b s
  | .nodeSafeWatchdog node place => Sys2Proof.Machine.execNodeSafeWatchdog node place s
  | .taskDispatch core => Sys2Proof.Machine.execTaskDispatch core s
  | .delayDue die => Sys2Proof.Machine.execDelayDue die s
  | .taskPost core desc => Sys2Proof.Machine.execTaskPost core desc s
  | .stateMove die => Sys2Proof.Machine.execStateMove die s
  | .traceDrain die => Sys2Proof.Machine.execTraceDrain die s
  | .sharedLoadComplete core => Sys2Proof.Machine.execSharedLoadComplete core s
  | .unitResult core => Sys2Proof.Machine.execUnitResult core s
  | .haltReq core => Sys2Proof.Machine.execHaltReq core s
  | .halt core => Sys2Proof.Machine.execHalt core s
  | .resume core => Sys2Proof.Machine.execResume core s
  | .add k imm w => Sys2Proof.Machine.execAdd k imm w s
  | .sub k w => Sys2Proof.Machine.execSub k w s
  | .adds k imm w => Sys2Proof.Machine.execAdds k imm w s
  | .subs k w => Sys2Proof.Machine.execSubs k w s
  | .and k imm w => Sys2Proof.Machine.execAnd k imm w s
  | .or k imm w => Sys2Proof.Machine.execOr k imm w s
  | .xor k imm w => Sys2Proof.Machine.execXor k imm w s
  | .shl k imm w => Sys2Proof.Machine.execShl k imm w s
  | .shr k imm w => Sys2Proof.Machine.execShr k imm w s
  | .shra k imm w => Sys2Proof.Machine.execShra k imm w s
  | .shls k imm w => Sys2Proof.Machine.execShls k imm w s
  | .min k w => Sys2Proof.Machine.execMin k w s
  | .max k w => Sys2Proof.Machine.execMax k w s
  | .abs k w => Sys2Proof.Machine.execAbs k w s
  | .neg k w => Sys2Proof.Machine.execNeg k w s
  | .cls k w => Sys2Proof.Machine.execCls k w s
  | .slt k imm w => Sys2Proof.Machine.execSlt k imm w s
  | .sltu k imm w => Sys2Proof.Machine.execSltu k imm w s
  | .mul k w => Sys2Proof.Machine.execMul k w s
  | .mulf k w => Sys2Proof.Machine.execMulf k w s
  | .mulhu k w => Sys2Proof.Machine.execMulhu k w s
  | .ldw k w => Sys2Proof.Machine.execLdw k w s
  | .ldh k w => Sys2Proof.Machine.execLdh k w s
  | .ldhu k w => Sys2Proof.Machine.execLdhu k w s
  | .ldb k w => Sys2Proof.Machine.execLdb k w s
  | .ldbu k w => Sys2Proof.Machine.execLdbu k w s
  | .stw k w => Sys2Proof.Machine.execStw k w s
  | .sth k w => Sys2Proof.Machine.execSth k w s
  | .stb k w => Sys2Proof.Machine.execStb k w s
  | .ld2 k w => Sys2Proof.Machine.execLd2 k w s
  | .st2 k w => Sys2Proof.Machine.execSt2 k w s
  | .mac2 k w => Sys2Proof.Machine.execMac2 k w s
  | .msu2 k w => Sys2Proof.Machine.execMsu2 k w s
  | .mpy2 k w => Sys2Proof.Machine.execMpy2 k w s
  | .macx2 k w => Sys2Proof.Machine.execMacx2 k w s
  | .ldp2 k w => Sys2Proof.Machine.execLdp2 k w s
  | .mac k w => Sys2Proof.Machine.execMac k w s
  | .msu k w => Sys2Proof.Machine.execMsu k w s
  | .mpy k w => Sys2Proof.Machine.execMpy k w s
  | .addac k w => Sys2Proof.Machine.execAddac k w s
  | .subac k w => Sys2Proof.Machine.execSubac k w s
  | .clrac k w => Sys2Proof.Machine.execClrac k w s
  | .negac k w => Sys2Proof.Machine.execNegac k w s
  | .absac k w => Sys2Proof.Machine.execAbsac k w s
  | .shac k w => Sys2Proof.Machine.execShac k w s
  | .mvac k w => Sys2Proof.Machine.execMvac k w s
  | .mvda k w => Sys2Proof.Machine.execMvda k w s
  | .mvacl k w => Sys2Proof.Machine.execMvacl k w s
  | .mvacm k w => Sys2Proof.Machine.execMvacm k w s
  | .mvach k w => Sys2Proof.Machine.execMvach k w s
  | .br k w => Sys2Proof.Machine.execBr k w s
  | .call k w => Sys2Proof.Machine.execCall k w s
  | .beqz k w => Sys2Proof.Machine.execBeqz k w s
  | .bnez k w => Sys2Proof.Machine.execBnez k w s
  | .bltz k w => Sys2Proof.Machine.execBltz k w s
  | .bgez k w => Sys2Proof.Machine.execBgez k w s
  | .bgtz k w => Sys2Proof.Machine.execBgtz k w s
  | .blez k w => Sys2Proof.Machine.execBlez k w s
  | .bfs k w => Sys2Proof.Machine.execBfs k w s
  | .bfc k w => Sys2Proof.Machine.execBfc k w s
  | .jr k w => Sys2Proof.Machine.execJr k w s
  | .ret k w => Sys2Proof.Machine.execRet k w s
  | .repi k w => Sys2Proof.Machine.execRepi k w s
  | .repr k w => Sys2Proof.Machine.execRepr k w s
  | .hysb k w => Sys2Proof.Machine.execHysb k w s
  | .hysv k w => Sys2Proof.Machine.execHysv k w s
  | .hyst k w => Sys2Proof.Machine.execHyst k w s
  | .csc k w => Sys2Proof.Machine.execCsc k w s
  | .crot k w => Sys2Proof.Machine.execCrot k w s
  | .cvec k w => Sys2Proof.Machine.execCvec k w s
  | .mova k w => Sys2Proof.Machine.execMova k w s
  | .movda k w => Sys2Proof.Machine.execMovda k w s
  | .movm k w => Sys2Proof.Machine.execMovm k w s
  | .movdm k w => Sys2Proof.Machine.execMovdm k w s
  | .adda k w => Sys2Proof.Machine.execAdda k w s
  | .movc k w => Sys2Proof.Machine.execMovc k w s
  | .movtc k w => Sys2Proof.Machine.execMovtc k w s
  | .movde k w => Sys2Proof.Machine.execMovde k w s
  | .moved k w => Sys2Proof.Machine.execMoved k w s
  | .eset k w => Sys2Proof.Machine.execEset k w s
  | .erh k w => Sys2Proof.Machine.execErh k w s
  | .ehead k w => Sys2Proof.Machine.execEhead k w s
  | .efix k w => Sys2Proof.Machine.execEfix k w s
  | .eadd k w => Sys2Proof.Machine.execEadd k w s
  | .esub k w => Sys2Proof.Machine.execEsub k w s
  | .shle k w => Sys2Proof.Machine.execShle k w s
  | .mvace k w => Sys2Proof.Machine.execMvace k w s
  | .ldi k w imm32 => Sys2Proof.Machine.execLdi k w imm32 s
  | .ldia k w imm32 => Sys2Proof.Machine.execLdia k w imm32 s
  | .ldim k w imm32 => Sys2Proof.Machine.execLdim k w imm32 s
  | .nop k w => Sys2Proof.Machine.execNop k w s
  | .tend k w => Sys2Proof.Machine.execTend k w s
  | .brk k w => Sys2Proof.Machine.execBrk k w s
  | .torqueBandUpdate axis => Sys2Proof.Machine.execTorqueBandUpdate axis s
  | .alignEnd axis => Sys2Proof.Machine.execAlignEnd axis s
  | .pinTrgEdge pin falling fine => Sys2Proof.Machine.execPinTrgEdge pin falling fine s
  | .intervalEnd record => Sys2Proof.Machine.execIntervalEnd record s
  | .adcStart conv falling fine => Sys2Proof.Machine.execAdcStart conv falling fine s
  | .adcConversionDone conv raw => Sys2Proof.Machine.execAdcConversionDone conv raw s
  | .refOutOfBand conv => Sys2Proof.Machine.execRefOutOfBand conv s
  | .refSettled conv => Sys2Proof.Machine.execRefSettled conv s
  | .tinCapture pin falling => Sys2Proof.Machine.execTinCapture pin falling s
  | .bellowsHoldover tb => Sys2Proof.Machine.execBellowsHoldover tb s
  | .toutPulseStart pin => Sys2Proof.Machine.execToutPulseStart pin s
  | .toutPulseEnd pin => Sys2Proof.Machine.execToutPulseEnd pin s
  | .ptpFrameRx port frame => Sys2Proof.Machine.execPtpFrameRx port frame s
  | .ptpEgress port => Sys2Proof.Machine.execPtpEgress port s
  | .ptpTxTimeout port => Sys2Proof.Machine.execPtpTxTimeout port s
  | .tbNowRead ctx tb word => Sys2Proof.Machine.execTbNowRead ctx tb word s
  | .recTlastRead record word => Sys2Proof.Machine.execRecTlastRead record word s
  | .rcRead endpoint bar offset => Sys2Proof.Machine.execRcRead endpoint bar offset s
  | .registerWrite endpoint bar offset value => Sys2Proof.Machine.execRegisterWrite endpoint bar offset value s
  | .fieldInputSample ch mv microAmps vfield => Sys2Proof.Machine.execFieldInputSample ch mv microAmps vfield s
  | .fieldReadbackSample ch high => Sys2Proof.Machine.execFieldReadbackSample ch high s
  | .fieldShortTimeout ch => Sys2Proof.Machine.execFieldShortTimeout ch s
  | .fieldThermalTrip ch => Sys2Proof.Machine.execFieldThermalTrip ch s
  | .fieldRetryEnd ch => Sys2Proof.Machine.execFieldRetryEnd ch s
  | .fieldSupplyUv group vfield => Sys2Proof.Machine.execFieldSupplyUv group vfield s
  | .fieldSupplyRecover group vfield => Sys2Proof.Machine.execFieldSupplyRecover group vfield s
  | .testPulseStart ch => Sys2Proof.Machine.execTestPulseStart ch s
  | .testPulseCheck ch high => Sys2Proof.Machine.execTestPulseCheck ch high s
  | .testPulseEnd ch => Sys2Proof.Machine.execTestPulseEnd ch s
  | .fieldModeOffEnd ch => Sys2Proof.Machine.execFieldModeOffEnd ch s
  | .safEvaluation => Sys2Proof.Machine.execSafEvaluation s
  | .safFaultEntry cause => Sys2Proof.Machine.execSafFaultEntry cause s
  | .safHeartbeatLoss => Sys2Proof.Machine.execSafHeartbeatLoss s
  | .safConnWatchdog conn => Sys2Proof.Machine.execSafConnWatchdog conn s
  | .connRestart conn => Sys2Proof.Machine.execConnRestart conn s
  | .connStartFail conn => Sys2Proof.Machine.execConnStartFail conn s
  | .safInputSample ch mv microAmps vfield => Sys2Proof.Machine.execSafInputSample ch mv microAmps vfield s
  | .sigDiscrepancy sig => Sys2Proof.Machine.execSigDiscrepancy sig s
  | .safResetRelease zone second => Sys2Proof.Machine.execSafResetRelease zone second s
  | .resetStuck zone second => Sys2Proof.Machine.execResetStuck zone second s
  | .safeSessionTimeout => Sys2Proof.Machine.execSafeSessionTimeout s
  | .safeLockoutEnd => Sys2Proof.Machine.execSafeLockoutEnd s
  | .flueTickRx m ok => Sys2Proof.Machine.execFlueTickRx m ok s
  | .flueDigestRx cycle die desc digest ok => Sys2Proof.Machine.execFlueDigestRx cycle die desc digest ok s
  | .flueRecordRx m ok => Sys2Proof.Machine.execFlueRecordRx m ok s
  | .flueSentRx frame addr ty blocks ok => Sys2Proof.Machine.execFlueSentRx frame addr ty blocks ok s
  | .flueContainerRx cycle conn bytes ok => Sys2Proof.Machine.execFlueContainerRx cycle conn bytes ok s
  | .flueRelayRx c ok => Sys2Proof.Machine.execFlueRelayRx c ok s
  | .flueFrameRx content ok => Sys2Proof.Machine.execFlueFrameRx content ok s
  | .flueConfigRx m ok => Sys2Proof.Machine.execFlueConfigRx m ok s
  | .flueSilent => Sys2Proof.Machine.execFlueSilent s
  | .flueLaneDown lane => Sys2Proof.Machine.execFlueLaneDown lane s
  | .partnerFrameTimeout => Sys2Proof.Machine.execPartnerFrameTimeout s
  | .roleSwapTick => Sys2Proof.Machine.execRoleSwapTick s
  | .joinCopyComplete copy => Sys2Proof.Machine.execJoinCopyComplete copy s
  | .badPacket p op why => Sys2Proof.Machine.execBadPacket p op why s
  | .leaseExpiry ctx => Sys2Proof.Machine.execLeaseExpiry ctx s
  | .eventResend ctx => Sys2Proof.Machine.execEventResend ctx s
  | .commandDoorbell endpoint index => Sys2Proof.Machine.execCommandDoorbell endpoint index s
  | .replyRingConsume endpoint index => Sys2Proof.Machine.execReplyRingConsume endpoint index s
  | .eventRingConsume endpoint index => Sys2Proof.Machine.execEventRingConsume endpoint index s
  | .ctxEnable endpoint enable => Sys2Proof.Machine.execCtxEnable endpoint enable s
  | .ctxReset endpoint => Sys2Proof.Machine.execCtxReset endpoint s
  | .ctxBeat endpoint => Sys2Proof.Machine.execCtxBeat endpoint s
  | .pcieLinkEvent endpoint => Sys2Proof.Machine.execPcieLinkEvent endpoint s
  | .dmaError endpoint => Sys2Proof.Machine.execDmaError endpoint s
  | .sspiWrite => Sys2Proof.Machine.execSspiWrite s
  | .sspiRead whole => Sys2Proof.Machine.execSspiRead whole s
  | .sspiStatus => Sys2Proof.Machine.execSspiStatus s
  | .ethNeighbourAnswer port own => Sys2Proof.Machine.execEthNeighbourAnswer port own s
  | .udpReassemblyTimeout port part => Sys2Proof.Machine.execUdpReassemblyTimeout port part s
  | .announce port up speed => Sys2Proof.Machine.execAnnounce port up speed s
  | .discover p => Sys2Proof.Machine.execDiscover p s
  | .login p => Sys2Proof.Machine.execLogin p s
  | .logout p => Sys2Proof.Machine.execLogout p s
  | .keepalive p => Sys2Proof.Machine.execKeepalive p s
  | .seqGet p => Sys2Proof.Machine.execSeqGet p s
  | .eventMaskSet p => Sys2Proof.Machine.execEventMaskSet p s
  | .deviceInfoGet p => Sys2Proof.Machine.execDeviceInfoGet p s
  | .hostsGet p => Sys2Proof.Machine.execHostsGet p s
  | .claim p => Sys2Proof.Machine.execClaim p s
  | .release p => Sys2Proof.Machine.execRelease p s
  | .claimsGet p => Sys2Proof.Machine.execClaimsGet p s
  | .configLease p => Sys2Proof.Machine.execConfigLease p s
  | .faultClear p => Sys2Proof.Machine.execFaultClear p s
  | .regRead p => Sys2Proof.Machine.execRegRead p s
  | .regWrite p => Sys2Proof.Machine.execRegWrite p s
  | .netConfigSet p => Sys2Proof.Machine.execNetConfigSet p s
  | .netConfigGet p => Sys2Proof.Machine.execNetConfigGet p s
  | .loginTableSet p => Sys2Proof.Machine.execLoginTableSet p s
  | .loginTableGet p => Sys2Proof.Machine.execLoginTableGet p s
  | .powerStateSet p => Sys2Proof.Machine.execPowerStateSet p s
  | .powerDomainSet p => Sys2Proof.Machine.execPowerDomainSet p s
  | .deviceReset p => Sys2Proof.Machine.execDeviceReset p s
  | .powerStatusGet p => Sys2Proof.Machine.execPowerStatusGet p s
  | .healthGet p => Sys2Proof.Machine.execHealthGet p s
  | .ageingGet p => Sys2Proof.Machine.execAgeingGet p s
  | .ringStatusGet p => Sys2Proof.Machine.execRingStatusGet p s
  | .ringCountersGet p => Sys2Proof.Machine.execRingCountersGet p s
  | .ringKindle p => Sys2Proof.Machine.execRingKindle p s
  | .ringStop p => Sys2Proof.Machine.execRingStop p s
  | .ringNodesGet p => Sys2Proof.Machine.execRingNodesGet p s
  | .ringAddrSet p => Sys2Proof.Machine.execRingAddrSet p s
  | .schedBegin p => Sys2Proof.Machine.execSchedBegin p s
  | .schedSegments p => Sys2Proof.Machine.execSchedSegments p s
  | .schedKeepers p => Sys2Proof.Machine.execSchedKeepers p s
  | .schedClose p => Sys2Proof.Machine.execSchedClose p s
  | .schedSwitch p => Sys2Proof.Machine.execSchedSwitch p s
  | .schedAbort p => Sys2Proof.Machine.execSchedAbort p s
  | .nodeEmptySet p => Sys2Proof.Machine.execNodeEmptySet p s
  | .ringTimeGet p => Sys2Proof.Machine.execRingTimeGet p s
  | .ringNodeMail p => Sys2Proof.Machine.execRingNodeMail p s
  | .twinStatusGet p => Sys2Proof.Machine.execTwinStatusGet p s
  | .twinConfigSet p => Sys2Proof.Machine.execTwinConfigSet p s
  | .twinRoleSwap p => Sys2Proof.Machine.execTwinRoleSwap p s
  | .twinDetach p => Sys2Proof.Machine.execTwinDetach p s
  | .twinJoin p => Sys2Proof.Machine.execTwinJoin p s
  | .twinAxGet p => Sys2Proof.Machine.execTwinAxGet p s
  | .fbConfigSet p => Sys2Proof.Machine.execFbConfigSet p s
  | .fbConfigGet p => Sys2Proof.Machine.execFbConfigGet p s
  | .fbCalGet p => Sys2Proof.Machine.execFbCalGet p s
  | .fbCalSet p => Sys2Proof.Machine.execFbCalSet p s
  | .fbCalSave p => Sys2Proof.Machine.execFbCalSave p s
  | .fbStatusGet p => Sys2Proof.Machine.execFbStatusGet p s
  | .fbIndexRefSet p => Sys2Proof.Machine.execFbIndexRefSet p s
  | .emuConfigSet p => Sys2Proof.Machine.execEmuConfigSet p s
  | .emuStatusGet p => Sys2Proof.Machine.execEmuStatusGet p s
  | .emuRestart p => Sys2Proof.Machine.execEmuRestart p s
  | .servoBind p => Sys2Proof.Machine.execServoBind p s
  | .servoConfigSet p => Sys2Proof.Machine.execServoConfigSet p s
  | .servoConfigGet p => Sys2Proof.Machine.execServoConfigGet p s
  | .motorSet p => Sys2Proof.Machine.execMotorSet p s
  | .motorGet p => Sys2Proof.Machine.execMotorGet p s
  | .motorSave p => Sys2Proof.Machine.execMotorSave p s
  | .psConfigSet p => Sys2Proof.Machine.execPsConfigSet p s
  | .psConfigGet p => Sys2Proof.Machine.execPsConfigGet p s
  | .vtSet p => Sys2Proof.Machine.execVtSet p s
  | .servoStatusGet p => Sys2Proof.Machine.execServoStatusGet p s
  | .servoAlign p => Sys2Proof.Machine.execServoAlign p s
  | .motionConfigSet p => Sys2Proof.Machine.execMotionConfigSet p s
  | .motionConfigGet p => Sys2Proof.Machine.execMotionConfigGet p s
  | .moveAbs p => Sys2Proof.Machine.execMoveAbs p s
  | .moveVel p => Sys2Proof.Machine.execMoveVel p s
  | .motionStop p => Sys2Proof.Machine.execMotionStop p s
  | .vmConfigSet p => Sys2Proof.Machine.execVmConfigSet p s
  | .vmPlantSet p => Sys2Proof.Machine.execVmPlantSet p s
  | .vmRamp p => Sys2Proof.Machine.execVmRamp p s
  | .followConfigSet p => Sys2Proof.Machine.execFollowConfigSet p s
  | .followConfigGet p => Sys2Proof.Machine.execFollowConfigGet p s
  | .followFactor p => Sys2Proof.Machine.execFollowFactor p s
  | .camDefine p => Sys2Proof.Machine.execCamDefine p s
  | .camPoints p => Sys2Proof.Machine.execCamPoints p s
  | .camStart p => Sys2Proof.Machine.execCamStart p s
  | .homeStart p => Sys2Proof.Machine.execHomeStart p s
  | .groupDefine p => Sys2Proof.Machine.execGroupDefine p s
  | .groupMove p => Sys2Proof.Machine.execGroupMove p s
  | .groupStop p => Sys2Proof.Machine.execGroupStop p s
  | .stepBind p => Sys2Proof.Machine.execStepBind p s
  | .stepConfigSet p => Sys2Proof.Machine.execStepConfigSet p s
  | .stepConfigGet p => Sys2Proof.Machine.execStepConfigGet p s
  | .motionStatusGet p => Sys2Proof.Machine.execMotionStatusGet p s
  | .recConfigSet p => Sys2Proof.Machine.execRecConfigSet p s
  | .recConfigGet p => Sys2Proof.Machine.execRecConfigGet p s
  | .recStart p => Sys2Proof.Machine.execRecStart p s
  | .recStop p => Sys2Proof.Machine.execRecStop p s
  | .recTrigger p => Sys2Proof.Machine.execRecTrigger p s
  | .recRead p => Sys2Proof.Machine.execRecRead p s
  | .recStatusGet p => Sys2Proof.Machine.execRecStatusGet p s
  | .acqBwGet p => Sys2Proof.Machine.execAcqBwGet p s
  | .adcConfigSet p => Sys2Proof.Machine.execAdcConfigSet p s
  | .adcCalSet p => Sys2Proof.Machine.execAdcCalSet p s
  | .adcStatusGet p => Sys2Proof.Machine.execAdcStatusGet p s
  | .timeGet p => Sys2Proof.Machine.execTimeGet p s
  | .timeSet p => Sys2Proof.Machine.execTimeSet p s
  | .timeStep p => Sys2Proof.Machine.execTimeStep p s
  | .timeIncSet p => Sys2Proof.Machine.execTimeIncSet p s
  | .bellowsConfigSet p => Sys2Proof.Machine.execBellowsConfigSet p s
  | .bellowsFeed p => Sys2Proof.Machine.execBellowsFeed p s
  | .tinConfigSet p => Sys2Proof.Machine.execTinConfigSet p s
  | .tinCaptureGet p => Sys2Proof.Machine.execTinCaptureGet p s
  | .toutConfigSet p => Sys2Proof.Machine.execToutConfigSet p s
  | .toutStop p => Sys2Proof.Machine.execToutStop p s
  | .ptpConfigSet p => Sys2Proof.Machine.execPtpConfigSet p s
  | .ptpBind p => Sys2Proof.Machine.execPtpBind p s
  | .ptpTx p => Sys2Proof.Machine.execPtpTx p s
  | .ptpTxtsGet p => Sys2Proof.Machine.execPtpTxtsGet p s
  | .fieldConfigSet p => Sys2Proof.Machine.execFieldConfigSet p s
  | .fieldConfigGet p => Sys2Proof.Machine.execFieldConfigGet p s
  | .fieldOutSet p => Sys2Proof.Machine.execFieldOutSet p s
  | .fieldOutClear p => Sys2Proof.Machine.execFieldOutClear p s
  | .fieldStatusGet p => Sys2Proof.Machine.execFieldStatusGet p s
  | .fieldChStatusGet p => Sys2Proof.Machine.execFieldChStatusGet p s
  | .safeStatusGet p => Sys2Proof.Machine.execSafeStatusGet p s
  | .safeConnStatusGet p => Sys2Proof.Machine.execSafeConnStatusGet p s
  | .safeLogGet p => Sys2Proof.Machine.execSafeLogGet p s
  | .safeSetGet p => Sys2Proof.Machine.execSafeSetGet p s
  | .safeLogin p => Sys2Proof.Machine.execSafeLogin p s
  | .safeLogout p => Sys2Proof.Machine.execSafeLogout p s
  | .safePasswordSet p => Sys2Proof.Machine.execSafePasswordSet p s
  | .safeConnSet p => Sys2Proof.Machine.execSafeConnSet p s
  | .safeAxisSet p => Sys2Proof.Machine.execSafeAxisSet p s
  | .safeSignalSet p => Sys2Proof.Machine.execSafeSignalSet p s
  | .safeZoneSet p => Sys2Proof.Machine.execSafeZoneSet p s
  | .safeChannelSet p => Sys2Proof.Machine.execSafeChannelSet p s
  | .safeCommit p => Sys2Proof.Machine.execSafeCommit p s
  | .safeDiscard p => Sys2Proof.Machine.execSafeDiscard p s
  | .safeFuncReq p => Sys2Proof.Machine.execSafeFuncReq p s
  | .updateBegin p => Sys2Proof.Machine.execUpdateBegin p s
  | .updateData p => Sys2Proof.Machine.execUpdateData p s
  | .updateVerify p => Sys2Proof.Machine.execUpdateVerify p s
  | .updateActivate p => Sys2Proof.Machine.execUpdateActivate p s
  | .updateConfirm p => Sys2Proof.Machine.execUpdateConfirm p s
  | .updateAbort p => Sys2Proof.Machine.execUpdateAbort p s
  | .updateStatusGet p => Sys2Proof.Machine.execUpdateStatusGet p s
  | .fwInventoryGet p => Sys2Proof.Machine.execFwInventoryGet p s
  | .sootRead p => Sys2Proof.Machine.execSootRead p s
  | .sootStatusGet p => Sys2Proof.Machine.execSootStatusGet p s
  | .traceRead p => Sys2Proof.Machine.execTraceRead p s
  | .traceStatusGet p => Sys2Proof.Machine.execTraceStatusGet p s
  | .loopProgWrite p => Sys2Proof.Machine.execLoopProgWrite p s
  | .grateDescSet p => Sys2Proof.Machine.execGrateDescSet p s
  | .grateDescGet p => Sys2Proof.Machine.execGrateDescGet p s
  | .grateCounterSet p => Sys2Proof.Machine.execGrateCounterSet p s
  | .grateArrivalSet p => Sys2Proof.Machine.execGrateArrivalSet p s
  | .gratePost p => Sys2Proof.Machine.execGratePost p s
  | .grateMove p => Sys2Proof.Machine.execGrateMove p s
  | .grateTraceCfg p => Sys2Proof.Machine.execGrateTraceCfg p s
  | .grateStatusGet p => Sys2Proof.Machine.execGrateStatusGet p s
  | .updateActivationTick => Sys2Proof.Machine.execUpdateActivationTick s
  | .updateReadyCheck => Sys2Proof.Machine.execUpdateReadyCheck s
  | .updateConfirmTimeout => Sys2Proof.Machine.execUpdateConfirmTimeout s
  | .updateFallbackTick => Sys2Proof.Machine.execUpdateFallbackTick s
  | .powerOn => Sys2Proof.Machine.execPowerOn s
  | .resetNRecognised => Sys2Proof.Machine.execResetNRecognised s
  | .bootStart f => Sys2Proof.Machine.execBootStart f s
  | .thermalTrip => Sys2Proof.Machine.execThermalTrip s
  | .supplyTrip => Sys2Proof.Machine.execSupplyTrip s
  | .refclkLoss => Sys2Proof.Machine.execRefclkLoss s
  | .hmpWatchdog => Sys2Proof.Machine.execHmpWatchdog s
  | .thermalWarn die tj => Sys2Proof.Machine.execThermalWarn die tj s
  | .supplyWarn outside => Sys2Proof.Machine.execSupplyWarn outside s
  | .wakeEdge => Sys2Proof.Machine.execWakeEdge s
  | .wakeTimer => Sys2Proof.Machine.execWakeTimer s
  | .powerStateChangeDone => Sys2Proof.Machine.execPowerStateChangeDone s
  | .domainSwitchDone domain => Sys2Proof.Machine.execDomainSwitchDone domain s
  | .ageingSlackSample m => Sys2Proof.Machine.execAgeingSlackSample m s
  | .ageingHour => Sys2Proof.Machine.execAgeingHour s
  | .ageingDay => Sys2Proof.Machine.execAgeingDay s
  | .ageingVraise => Sys2Proof.Machine.execAgeingVraise s
  | .ageingCoreWorn core => Sys2Proof.Machine.execAgeingCoreWorn core s
  | .vcoreRewrite mv => Sys2Proof.Machine.execVcoreRewrite mv s
  | .vraiseConfirm mv => Sys2Proof.Machine.execVraiseConfirm mv s
  | .vraiseRetry => Sys2Proof.Machine.execVraiseRetry s
  | .pmbAlert => Sys2Proof.Machine.execPmbAlert s
  | .sootWrite => Sys2Proof.Machine.execSootWrite s
  | .nodeIndexLatch node block qcnt sin cos => Sys2Proof.Machine.execNodeIndexLatch node block qcnt sin cos s
  | .nodeOvertemp node block hot trip => Sys2Proof.Machine.execNodeOvertemp node block hot trip s
  | .nodeGateSupplyRecover node block leg => Sys2Proof.Machine.execNodeGateSupplyRecover node block leg s
  | .emuEdge emu => Sys2Proof.Machine.execEmuEdge emu s
  | .safAnswerTimeout ctx => Sys2Proof.Machine.execSafAnswerTimeout ctx s
  | .hmpRestartDone => Sys2Proof.Machine.execHmpRestartDone s
  | .flueLaneUp lane lat => Sys2Proof.Machine.execFlueLaneUp lane lat s
  | .ethLinkDown port => Sys2Proof.Machine.execEthLinkDown port s

end Sys2Proof.Machine
end

