-- ==== Sys2Proof/Safety.lean ====
section
/-! DEFINITION. Sys2Proof/Safety.lean: the terms in which claims about the block are stated: when a step is safe, when a command packet is
carried out and in which state it finds the block, and when a loop core issues an instruction. -/

namespace Sys2Proof

/-- A step is safe: it answers a next state. -/
def Machine.State.safe (s : Machine.State) : Prop := ∃ t, Machine.step s = .next t

/-- A command takes effect and leaves a state of which `P` holds. -/
def Gives (c : Instr) (s : Machine.State) (P : Machine.State → Prop) : Prop := ∃ t, Machine.exec c s = .next t ∧ P t

namespace Machine

/-! Command packets (R389 to R393). -/

/-- The state as an accepted command finds it: the packet taken from its port, E advanced, the lease restarted, ACK taken. -/
def State.entered (s : State) (p : Pkt) : State := ((s.take p).getD s).accept p p.ctx

/-- A packet from a port whose SEQ is the one its session expects, and whose context no command holds (R389, R390). -/
structure Accepted (s : State) (p : Pkt) : Prop where
  direct : s.replay = 0 ∧ p.port ≠ .flue
  taken : (s.take p).isSome = true
  serves : p.port.serves p.ctx = true ∧ s.twinPath p.ctx = false
  session : (s.ctx p.ctx).isOpen = true ∧ (s.ctx p.ctx).session = p.session
  expected : s.seqBehind p.ctx p.seq = 0
  free : (s.ctx p.ctx).busy = false

/-- The command need not wait: not for the partner, to which an active unit forwards a change of class W or N state (R371), nor for SAF
while it is starting (R323). -/
def State.ready (u : State) (fwd saf : Bool) : Prop := (fwd = true → u.forwards = false) ∧ (saf = true → u.r .SAF_STAT_STATE ≠ 0)

/-- A command packet is carried out in context `c`, which finds the block in state `u`: as an accepted packet, as traffic of HC7 from the
partner, as a held command whose turn has come, or as one whose forwarding the partner has acknowledged. -/
def Carries (s : State) (p : Pkt) (fwd saf : Bool) (u : State) (c : Nat) : Prop :=
  (Accepted s p ∧ u = s.entered p ∧ c = p.ctx ∧ u.ready fwd saf) ∨
  (s.replay = 0 ∧ p.port = .flue ∧ s.take p = some u ∧ c = 7) ∨
  (s.replay = 1 ∧ u = s ∧ c = p.ctx ∧ u.ready fwd saf) ∨
  (s.replay = 2 ∧ u = s ∧ c = p.ctx)

/-- The unit takes the opcode in its power state, and the context has the right that the opcode asks (R439, R377). -/
def State.grants (u : State) (c op : Nat) (right : Option Nat) : Prop :=
  (u.recovering = true → recoveryOpcode op = true) ∧
  (match right with
   | none => True
   | some b => u.twinPath c = true ∨ bit (u.ctx c).rights b = true)

/-- A change of class W or N state may be made here: not on a standby that is SYNCED or JOINING, except by its partner (R371). -/
def State.open_ (u : State) (p : Pkt) : Prop := u.standbyBound = false ∨ p.port = .flue

/-! Loop cores (R98 to R123). -/

/-- The core as the present instruction sees it: interlocked results of the registers it touches are written, and TS tells of a corrected
error (R117, R105). -/
def State.seen (s : State) (k : Issue) (touch : List Nat) : Core :=
  let x := s.core k.core.val
  (if k.ecc = .corrected then { x with ts := orBits x.ts 8 } else x).interlock touch

/-- The registers that show the instruction: LC_STAT.PC, and the count of corrected errors. -/
def State.noted (s : State) (k : Issue) : State :=
  let s' := s.w .LC_STAT_PC k.core.val (s.core k.core.val).pc
  if k.ecc = .corrected then s'.inc .LC_ECC_CORR k.core.val else s'

/-- The core issues the instruction of these words: it runs, program memory holds them at its program counter, and no uncorrectable
error stands in what the instruction reads. -/
structure Fetches (s : State) (k : Issue) (words : List W32) (mem : Bool) : Prop where
  runs : s.issues k.core.val = true
  holds : (s.core k.core.val).holds (s.core k.core.val).pc words = true
  clean : k.ecc ≠ .progError ∧ (mem = true → k.ecc ≠ .dataError)

/-- The block after an instruction of `len` words has made of the core it saw the core `y`. -/
def State.retired (s : State) (k : Issue) (touch : List Nat) (len : Nat) (y : Core) : State :=
  let x := s.seen k touch
  (s.noted k).updCore k.core.val (fun _ => (x.closeIssue y).advance x.pc x.slots len)

end Machine

end Sys2Proof
end

