-- ==== Sys2Proof/Certificates/Slice0/Obligations.lean ====
section
/-! DEFINITION. Sys2Proof/Certificates/Slice0/Obligations.lean: what is claimed of the block, for the provers. -/

open Sys2Proof Sys2Proof.Machine

/-! Loop cores: what the instructions do (R96 to R127). -/

/-- An instruction whose words stand at the program counter of a core that issues, and which is legal there, makes `f` of the core it
sees; `f` is given the core with the old-value windows of the instruction before it, and the core with them closed. -/
def Claim.loop {n : Nat} (s : State) (k : Issue) (o : LoopOp) (imm : Bool) (w : BitVec n) (rest : List W32) (touch : List Nat)
    (legal : Prop) (c : Instr) (f : Core → Core → Core) : Prop :=
  Fetches s k (o.word imm w :: rest) false → legal →
    exec c s = .next (s.retired k touch (o.word imm w :: rest).length (f (s.seen k touch) (s.seen k touch).fresh))

/-- The instructions of format 0x0 and their immediate forms of format 0x1: `a` is Ds, `b` is Dt or the immediate. -/
def Claim.alu (s : State) (k : Issue) (o : LoopOp) (imm : Bool) (w : BitVec 22) (c : Instr) (f : Core → W32 → W32 → Core) : Prop :=
  Claim.loop s k o imm w [] (if imm then [dD w, dS w] else [dD w, dS w, dT w]) ((imm || zeroFields w [(6, 0)]) = true) c
    (fun x y => f y (x.rd (dS w)) (if imm then BitVec.ofInt 32 (fieldI w 11 0) else x.rd (dT w)))

/-- The results of the ALU instructions of two operands, in their register and immediate forms (Table 4.7, R112). -/
def Claim.AluTwoOperandResults : Prop :=
  ∀ (s : State) (k : Issue) (imm : Bool) (w : BitVec 22),
    Claim.alu s k .add imm w (.add k imm w) (fun y a b => y.setD (dD w) (a + b)) ∧
    Claim.alu s k .adds imm w (.adds k imm w) (fun y a b => y.setDSat (dD w) (a.toInt + b.toInt)) ∧
    Claim.alu s k .and imm w (.and k imm w) (fun y a b => y.setD (dD w) (a &&& b)) ∧
    Claim.alu s k .or imm w (.or k imm w) (fun y a b => y.setD (dD w) (a ||| b)) ∧
    Claim.alu s k .xor imm w (.xor k imm w) (fun y a b => y.setD (dD w) (a ^^^ b)) ∧
    Claim.alu s k .slt imm w (.slt k imm w) (fun y a b => y.setD (dD w) (if a.toInt < b.toInt then 1 else 0)) ∧
    Claim.alu s k .sltu imm w (.sltu k imm w) (fun y a b => y.setD (dD w) (if a.toNat < b.toNat then 1 else 0)) ∧
    Claim.alu s k .sub false w (.sub k w) (fun y a b => y.setD (dD w) (a - b)) ∧
    Claim.alu s k .subs false w (.subs k w) (fun y a b => y.setDSat (dD w) (a.toInt - b.toInt)) ∧
    Claim.alu s k .min false w (.min k w) (fun y a b => y.setD (dD w) (if a.toInt ≤ b.toInt then a else b)) ∧
    Claim.alu s k .max false w (.max k w) (fun y a b => y.setD (dD w) (if a.toInt ≤ b.toInt then b else a)) ∧
    Claim.alu s k .mul false w (.mul k w) (fun y a b => y.setDLate (dD w) (a * b)) ∧
    Claim.alu s k .mulhu false w (.mulhu k w) (fun y a b => y.setDLate (dD w) (BitVec.ofNat 32 (a.toNat * b.toNat / 2 ^ 32))) ∧
    Claim.alu s k .mulf false w (.mulf k w) (fun y a b =>
      let v := divRound (a.toInt * b.toInt) (2 ^ 31)
      let z := y.setDLate (dD w) (BitVec.ofInt 32 (sat32 v))
      if sat32 v = v then z else z.setSat)

/-- A shift: by Dt[4:0], or by imm[4:0] with the rest of the immediate zero. -/
def Claim.shift (s : State) (k : Issue) (o : LoopOp) (imm : Bool) (w : BitVec 22) (c : Instr) (f : Core → W32 → Nat → Core) : Prop :=
  Claim.loop s k o imm w [] (if imm then [dD w, dS w] else [dD w, dS w, dT w])
    ((if imm then zeroFields w [(11, 5)] else zeroFields w [(6, 0)]) = true) c
    (fun x y => f y (x.rd (dS w)) (if imm then field w 4 0 else (x.rd (dT w)).toNat % 32))

/-- The shifts and the instructions of one operand (Table 4.7, R112). -/
def Claim.ShiftAndOneOperandResults : Prop :=
  ∀ (s : State) (k : Issue) (imm : Bool) (w : BitVec 22),
    Claim.shift s k .shl imm w (.shl k imm w) (fun y a n => y.setD (dD w) (a <<< n)) ∧
    Claim.shift s k .shr imm w (.shr k imm w) (fun y a n => y.setD (dD w) (a >>> n)) ∧
    Claim.shift s k .shra imm w (.shra k imm w) (fun y a n => y.setD (dD w) (a.sshiftRight n)) ∧
    Claim.shift s k .shls imm w (.shls k imm w) (fun y a n => y.setDSat (dD w) (a.toInt * 2 ^ n)) ∧
    Claim.loop s k .abs false w [] [dD w, dS w] (zeroFields w [(11, 0)] = true) (.abs k w)
      (fun x y => y.setDSat (dD w) (x.rd (dS w)).toInt.natAbs) ∧
    Claim.loop s k .neg false w [] [dD w, dS w] (zeroFields w [(11, 0)] = true) (.neg k w)
      (fun x y => y.setDSat (dD w) (-(x.rd (dS w)).toInt)) ∧
    Claim.loop s k .cls false w [] [dD w, dS w] (zeroFields w [(11, 0)] = true) (.cls k w)
      (fun x y => y.setD (dD w) (BitVec.ofNat 32 (redundant (x.rd (dS w))))) ∧
    Claim.loop s k .nop false w [] [] (zeroFields w [(21, 0)] = true) (.nop k w) (fun _ y => y)

/-- What the shared writes of a loop core do: a 32-bit result saturates and sets SAT, an accumulator saturates at 80 bits, sets OVG and
locks, and the result that comes a slot late is read old by the next instruction (R108, R112, Table 4.8). -/
def Obligations.LoopRegisterWrites : Prop :=
  (∀ (y : Core) (i j : Nat) (v : W32), Tbl.get 0 (y.setD i v).d j = if i = j then v else Tbl.get 0 y.d j) ∧
  (∀ (y : Core) (i : Nat) (v : W32), (y.setDLate i v).rd i = Tbl.get 0 y.d i ∧ Tbl.get 0 (y.setDLate i v).d i = v) ∧
  (∀ (y : Core) (i : Nat) (v : Int), -(2 ^ 31) ≤ v → v < 2 ^ 31 →
    (Tbl.get 0 (y.setDSat i v).d i).toInt = v ∧ (y.setDSat i v).sr = y.sr ∧ (y.setDSat i v).ts = y.ts) ∧
  (∀ (y : Core) (i : Nat) (v : Int), 2 ^ 31 ≤ v →
    (Tbl.get 0 (y.setDSat i v).d i).toInt = 2 ^ 31 - 1 ∧ (y.setDSat i v).sr = y.sr ||| 0x100 ∧ (y.setDSat i v).ts = y.ts ||| 2) ∧
  (∀ (y : Core) (i : Nat) (v : Int), v < -(2 ^ 31) →
    (Tbl.get 0 (y.setDSat i v).d i).toInt = -(2 ^ 31) ∧ (y.setDSat i v).sr = y.sr ||| 0x100 ∧ (y.setDSat i v).ts = y.ts ||| 2) ∧
  (∀ (y : Core) (a : Nat) (v : Int), -(2 ^ 79) ≤ v → v < 2 ^ 79 → (y.setAc a v).acc a = v ∧ (y.setAc a v).sr = y.sr) ∧
  (∀ (y : Core) (a : Nat) (v : Int), 2 ^ 79 ≤ v →
    (y.setAc a v).acc a = 2 ^ 79 - 1 ∧ (y.setAc a v).sr = y.sr ||| (2 ^ a + 2 ^ (4 + a)) ∧ (y.setAc a v).ts = y.ts ||| 1) ∧
  (∀ (x y : Core) (a : Nat) (v : Int), x.locked a = true → x.accumulate y a v = y)

/-- The accumulator instructions of format 0x4 (R107 to R111): products are Q17.63, a locked accumulator stays as it is, and MPY, CLRAC and
MVDA clear the lock as they write. -/
def Obligations.AccumulatorResults : Prop :=
  ∀ (s : State) (k : Issue) (w : BitVec 22),
    let z : Prop := zeroFields w [(19, 18), (7, 0)] = true
    let p (x : Core) : Int := (x.rd (acDr w)).toInt * (x.rd (acDt w)).toInt * 2
    Claim.loop s k .mac false w [] [acDr w, acDt w] z (.mac k w) (fun x y => x.accumulate y (acA w) (x.acc (acA w) + p x)) ∧
    Claim.loop s k .msu false w [] [acDr w, acDt w] z (.msu k w) (fun x y => x.accumulate y (acA w) (x.acc (acA w) - p x)) ∧
    Claim.loop s k .mpy false w [] [acDr w, acDt w] z (.mpy k w) (fun x y => (y.unlock (acA w)).setAc (acA w) (p x)) ∧
    Claim.loop s k .addac false w [] [] (zeroFields w [(17, 0)] = true) (.addac k w)
      (fun x y => x.accumulate y (acA w) (x.acc (acA w) + x.acc (acB w))) ∧
    Claim.loop s k .subac false w [] [] (zeroFields w [(17, 0)] = true) (.subac k w)
      (fun x y => x.accumulate y (acA w) (x.acc (acA w) - x.acc (acB w))) ∧
    Claim.loop s k .clrac false w [] [] (zeroFields w [(19, 0)] = true) (.clrac k w) (fun _ y => (y.unlock (acA w)).setAc (acA w) 0) ∧
    Claim.loop s k .negac false w [] [] (zeroFields w [(19, 0)] = true) (.negac k w) (fun x y => y.setAc (acA w) (-x.acc (acA w))) ∧
    Claim.loop s k .absac false w [] [] (zeroFields w [(19, 0)] = true) (.absac k w) (fun x y => y.setAc (acA w) (x.acc (acA w)).natAbs) ∧
    Claim.loop s k .shac false w [] [] (zeroFields w [(19, 8), (1, 0)] = true) (.shac k w)
      (fun x y => y.setAc (acA w) (scale (x.acc (acA w)) (acS w))) ∧
    Claim.loop s k .mvac false w [] [acDr w] (zeroFields w [(19, 18), (12, 8), (0, 0)] = true) (.mvac k w)
      (fun x y => y.setDSat (acDr w) (moveOut (x.accOut (acA w)).toInt (acS w) (acRnd w))) ∧
    Claim.loop s k .mvda false w [] [acDr w] (zeroFields w [(19, 18), (12, 8), (1, 0)] = true) (.mvda k w)
      (fun x y => (y.unlock (acA w)).setAc (acA w) (scale ((x.rd (acDr w)).toInt * 2 ^ 32) (acS w))) ∧
    Claim.loop s k .mvacl false w [] [acDr w] (zeroFields w [(19, 18), (12, 0)] = true) (.mvacl k w)
      (fun x y => y.setD (acDr w) ((x.accOut (acA w)).extractLsb' 0 32)) ∧
    Claim.loop s k .mvacm false w [] [acDr w] (zeroFields w [(19, 18), (12, 0)] = true) (.mvacm k w)
      (fun x y => y.setD (acDr w) ((x.accOut (acA w)).extractLsb' 32 32)) ∧
    Claim.loop s k .mvach false w [] [acDr w] (zeroFields w [(19, 18), (12, 0)] = true) (.mvach k w)
      (fun x y => y.setD (acDr w) (((x.accOut (acA w)).extractLsb' 64 16).signExtend 32))

/-- The exponent instructions of format 0x9 and the moves of exponents (R113, R114, Table 4.1). -/
def Claim.ExponentResults : Prop :=
  ∀ (s : State) (k : Issue) (w : BitVec 22),
    Claim.loop s k .eset false w [] [] (zeroFields w [(18, 8)] = true) (.eset k w) (fun _ y => y.setE (exK w) (fieldI w 7 0) 31) ∧
    Claim.loop s k .erh false w [] [] (zeroFields w [(18, 0)] = true) (.erh k w) (fun x y => y.setE (exK w) (x.expo (exK w)).x 31) ∧
    Claim.loop s k .ehead false w [] [exDr w] (zeroFields w [(18, 13), (7, 0)] = true) (.ehead k w)
      (fun x y => y.setE (exK w) (x.expo (exK w)).x (min (x.expo (exK w)).h (redundant (x.rd (exDr w))))) ∧
    Claim.loop s k .efix false w [] [] (zeroFields w [(18, 8), (7, 3)] = true) (.efix k w)
      (fun x y => y.setE (exK w) ((x.expo (exK w)).x - ((x.expo (exK w)).h - field w 2 0 : Nat)) ((x.expo (exK w)).h - field w 2 0)) ∧
    Claim.loop s k .eadd false w [] [] (zeroFields w [(12, 0)] = true) (.eadd k w)
      (fun x y => y.setE (exK w) ((x.expo (exI w)).x + (x.expo (exJ w)).x) 31) ∧
    Claim.loop s k .esub false w [] [] (zeroFields w [(12, 0)] = true) (.esub k w)
      (fun x y => y.setE (exK w) ((x.expo (exI w)).x - (x.expo (exJ w)).x) 31) ∧
    Claim.loop s k .shle false w [] [exDr w] (zeroFields w [(18, 13), (7, 0)] = true) (.shle k w)
      (fun x y => y.setDSat (exDr w) ((x.rd (exDr w)).toInt * 2 ^ (x.expo (exK w)).h)) ∧
    Claim.loop s k .mvace false w [] [exDr w] (zeroFields w [(18, 13), (7, 3)] = true) (.mvace k w) (fun x y =>
      let e := (x.expo (exK w)).x
      let z := y.setDSat (exDr w) (moveOut (x.accOut (field w 1 0)).toInt (clampInt (-32) 31 e) (field w 2 2 == 1))
      if clampInt (-32) 31 e = e then z else z.setEov) ∧
    Claim.loop s k .movde false w [] [mvDst w] (zeroFields w [(16, 15), (11, 0)] = true) (.movde k w)
      (fun x y => y.setD (mvDst w) (x.expo (mvSrc w)).word) ∧
    Claim.loop s k .moved false w [] [mvSrc w] (zeroFields w [(21, 20), (11, 0)] = true) (.moved k w)
      (fun x y => y.setE (mvDst w) (toSigned 8 (x.rd (mvSrc w)).toNat) (bits (x.rd (mvSrc w)).toNat 12 8))

/-- The register moves of format 0x8 and the long immediates of format 0xA (Table 4.7): a moved address register or modifier is read old by
the next instruction. -/
def Claim.MoveResults : Prop :=
  ∀ (s : State) (k : Issue) (w : BitVec 22) (v : W32),
    Claim.loop s k .mova false w [] [mvSrc w] (zeroFields w [(21, 21), (11, 0)] = true) (.mova k w)
      (fun x y => y.setALate (mvDst w) (x.rd (mvSrc w))) ∧
    Claim.loop s k .movda false w [] [mvDst w] (zeroFields w [(16, 16), (11, 0)] = true) (.movda k w)
      (fun x y => y.setD (mvDst w) (Tbl.get 0 x.a (mvSrc w))) ∧
    Claim.loop s k .movm false w [] [mvSrc w] (zeroFields w [(21, 20), (11, 0)] = true) (.movm k w)
      (fun x y => y.setMLate (mvDst w) (x.rd (mvSrc w))) ∧
    Claim.loop s k .movdm false w [] [mvDst w] (zeroFields w [(16, 15), (11, 0)] = true) (.movdm k w)
      (fun x y => y.setD (mvDst w) (x.modReg (mvSrc w))) ∧
    Claim.loop s k .adda false w [] [] (zeroFields w [(21, 21), (16, 12)] = true) (.adda k w)
      (fun x y => y.setALate (mvDst w) (Tbl.get 0 x.a (mvDst w) + BitVec.ofInt 32 (fieldI w 11 0))) ∧
    Claim.loop s k .ldi false w [v] [mvDst w] (zeroFields w [(16, 0)] = true) (.ldi k w v) (fun _ y => y.setD (mvDst w) v) ∧
    Claim.loop s k .ldia false w [v] [] (zeroFields w [(21, 21), (16, 0)] = true) (.ldia k w v) (fun _ y => y.setALate (mvDst w) v) ∧
    Claim.loop s k .ldim false w [v] [] (zeroFields w [(21, 20), (16, 0)] = true) (.ldim k w v) (fun _ y => y.setMLate (mvDst w) v)

/-- The arithmetic and logic instructions (Table 4.7, R112): of two operands, shifts, and of one operand. -/
def Obligations.AluResults : Prop := Claim.AluTwoOperandResults ∧ Claim.ShiftAndOneOperandResults

/-- The exponent instructions and the moves (Table 4.7). -/
def Obligations.ExponentAndMoveResults : Prop := Claim.ExponentResults ∧ Claim.MoveResults

/-- A load of `size` bytes (R101 to R106): at the aligned address that its mode gives, scratch, the state view and the task window answer into
Dd, or the pair, which the next instruction still reads old; shared SRAM stalls the core. -/
def Claim.load (s : State) (k : Issue) (o : LoopOp) (w : BitVec 24) (size : Nat) (signed : Bool) (c : Instr) : Prop :=
  let touch := if size = 8 then [lsD w, lsD w + 1] else [lsD w]
  let x := s.seen k touch
  let a := (lsAddress w size x x.fresh).1
  let y := (lsAddress w size x x.fresh).2
  let from_ (f : Nat → Byte) : List Byte := (List.range size).map f
  Fetches s k [o.word false w] true → lsLegal w = true → (size = 8 → lsD w % 2 = 0) → a % size = 0 →
    (a < 0x10000 → exec c s = .next (s.retired k touch 1 (y.putLoad true (lsD w) size signed (from_ fun i => x.scratch.read (a + i))))) ∧
    (0x10000 ≤ a → a < 0x18000 →
      exec c s = .next (s.retired k touch 1 (y.putLoad true (lsD w) size signed (from_ fun i => x.viewByte (a - 0x10000 + i))))) ∧
    (0x800000 ≤ a → a < 0x810000 → windowLoadTraps (a - 0x800000) size = false →
      exec c s = .next (s.retired k touch 1
        (y.putLoad true (lsD w) size signed (from_ fun i => (s.noted k).windowByte x (a - 0x800000 + i))))) ∧
    (0x400000 ≤ a → a < 0x800000 →
      exec c s = .next (s.retired k touch 1
        { y with load := some { addr := a - 0x400000, size := size, signed := signed, dst := lsD w } }))

/-- Loads (R101 to R104, R106, R117). -/
def Claim.LoadResults : Prop :=
  ∀ (s : State) (k : Issue) (w : BitVec 24),
    Claim.load s k .ldw w 4 false (.ldw k w) ∧ Claim.load s k .ldh w 2 true (.ldh k w) ∧ Claim.load s k .ldhu w 2 false (.ldhu k w) ∧
    Claim.load s k .ldb w 1 true (.ldb k w) ∧ Claim.load s k .ldbu w 1 false (.ldbu k w) ∧ Claim.load s k .ld2 w 8 false (.ld2 k w)

/-- A store of the low `size` bytes of Dd, or of the pair (R101 to R104, R106, R143): scratch takes them at once, the state view in the
task's own copy of the line, shared SRAM through the commit queue, the window into staging; a word at TW_POST posts a descriptor. -/
def Claim.store (s : State) (k : Issue) (o : LoopOp) (w : BitVec 24) (size : Nat) (c : Instr) : Prop :=
  let touch := if size = 8 then [lsD w, lsD w + 1] else [lsD w]
  let x := s.seen k touch
  let a := (lsAddress w size x x.fresh).1
  let y := (lsAddress w size x x.fresh).2
  let b := (le 4 (x.rd (lsD w)).toNat ++ (if size = 8 then le 4 (x.rd (lsD w + 1)).toNat else [])).take size
  Fetches s k [o.word false w] true → lsLegal w = true → (size = 8 → lsD w % 2 = 0) → a % size = 0 →
    (a < 0x10000 → exec c s = .next (s.retired k touch 1 { y with scratch := y.scratch.writeN a b })) ∧
    (0x10000 ≤ a → a < 0x18000 → exec c s = .next (s.retired k touch 1 (y.storeView (a - 0x10000) b))) ∧
    (0x400000 ≤ a → a < 0x6F0000 → y.queue.length < 256 →
      exec c s = .next (s.retired k touch 1 { y with queue := y.queue ++ [(a - 0x400000, size, leNat b)] })) ∧
    (0x801000 ≤ a → a < 0x801400 →
      exec c s = .next (s.retired k touch 1 { y with staging := y.staging.writeN (a - 0x801000) b })) ∧
    (∀ t, a = 0x80000C → y.task = some t →
      let u := (s.noted k).post (k.core.val / 16) (leNat b) t.cycle
      exec c s = .next (u.1.updCore k.core.val
        (fun _ => (x.closeIssue { y with postRefused := !u.2 }).advance x.pc x.slots 1)))

/-- Stores (R101 to R104, R106, R143). -/
def Claim.StoreResults : Prop :=
  ∀ (s : State) (k : Issue) (w : BitVec 24),
    Claim.store s k .stw w 4 (.stw k w) ∧ Claim.store s k .sth w 2 (.sth k w) ∧ Claim.store s k .stb w 1 (.stb k w) ∧
    Claim.store s k .st2 w 8 (.st2 k w)

/-- An access of the wrong alignment traps ALIGN, one outside Table 4.4 traps ADDR_RANGE, and so do a load of a part of the task window that
cannot be read and a store to shared SRAM at or above 0x6F0000, to the parameter view or to the input area; a full commit queue
traps CQ_FULL (R101, R104, R106, Table 5.3). -/
def Claim.accessTraps (s : State) (k : Issue) (o : LoopOp) (w : BitVec 24) (size : Nat) (isStore : Bool) (c : Instr) : Prop :=
  let touch := if size = 8 then [lsD w, lsD w + 1] else [lsD w]
  let x := s.seen k touch
  let a := (lsAddress w size x x.fresh).1
  let y := (lsAddress w size x x.fresh).2
  let traps (t : Trap) : Prop := exec c s = .next ((s.noted k).trap k.core.val (s.core k.core.val).pc t)
  Fetches s k [o.word false w] true → lsLegal w = true → (size = 8 → lsD w % 2 = 0) →
    (a % size ≠ 0 → traps .align) ∧
    (a % size = 0 → ¬(a < 0x18000 ∨ (0x400000 ≤ a ∧ a < 0x810000)) → traps .addrRange) ∧
    (a % size = 0 → isStore = false → 0x800000 ≤ a → a < 0x810000 → windowLoadTraps (a - 0x800000) size = true → traps .addrRange) ∧
    (a % size = 0 → isStore = true → 0x6F0000 ≤ a → a < 0x800000 → traps .addrRange) ∧
    (a % size = 0 → isStore = true → 0x400000 ≤ a → a < 0x6F0000 → 256 ≤ y.queue.length → traps .cqFull) ∧
    (a % size = 0 → isStore = true → 0x800000 ≤ a → a < 0x810000 → a ≠ 0x80000C → ¬(0x801000 ≤ a ∧ a < 0x801400) → traps .addrRange)

/-- Where loads and stores trap. -/
def Obligations.AccessTraps : Prop :=
  ∀ (s : State) (k : Issue) (w : BitVec 24),
    Claim.accessTraps s k .ldw w 4 false (.ldw k w) ∧ Claim.accessTraps s k .ldh w 2 false (.ldh k w) ∧
    Claim.accessTraps s k .ldhu w 2 false (.ldhu k w) ∧ Claim.accessTraps s k .ldb w 1 false (.ldb k w) ∧
    Claim.accessTraps s k .ldbu w 1 false (.ldbu k w) ∧ Claim.accessTraps s k .ld2 w 8 false (.ld2 k w) ∧
    Claim.accessTraps s k .stw w 4 true (.stw k w) ∧ Claim.accessTraps s k .sth w 2 true (.sth k w) ∧
    Claim.accessTraps s k .stb w 1 true (.stb k w) ∧ Claim.accessTraps s k .st2 w 8 true (.st2 k w)

/-- What loads and stores do where they do not trap (R101 to R106, Table 4.7). -/
def Obligations.LoadAndStoreResults : Prop := Claim.LoadResults ∧ Claim.StoreResults

/-- A parallel load of format 0x3: 8 bytes that local memory or the task window answers go to the pair, which the next instruction reads old,
and the address register is modified by the modifier of its number (R106, R115, Table 4.8). -/
def Claim.loaded (s : State) (x : Core) (l : Option (Nat × Nat)) (y z : Core) : Prop :=
  match l with
  | none => z = y
  | some (a, d) => ∃ b, s.loadBytes x (x.addrReg a).toNat 8 = .ok (.inl b) ∧
      z = ((y.setDLate d (BitVec.ofNat 32 (fld b 0 4))).setDLate (d + 1) (BitVec.ofNat 32 (fld b 4 4))).setA a
        (modAddr (x.addrReg a) (x.modReg a))

/-- A dual multiply-accumulate with its two parallel loads. -/
def Claim.dual (s : State) (k : Issue) (o : LoopOp) (w : BitVec 25) (legal : Bool) (c : Instr) (mac : Bool) (f : Core → Core → Core) : Prop :=
  let x := s.seen k (dualTouch w mac)
  Fetches s k [o.word false w] (field w 15 15 == 1 || field w 8 8 == 1) → dualLegal w = true → legal = true →
    ∀ y z, Claim.loaded (s.noted k) x (dualLoad w false) (f x x.fresh) y → Claim.loaded (s.noted k) x (dualLoad w true) y z →
      exec c s = .next (s.retired k (dualTouch w mac) 1 z)

/-- The dual multiply-accumulate instructions of format 0x3 (Table 4.7, R107, R108): AC(2p) takes D(2x) D(2y), AC(2p+1) takes D(2x+1) D(2y+1),
or D(2x+1) D(2y) for MACX2; a locked accumulator stays; LDP2 only loads. -/
def Obligations.DualMacResults : Prop :=
  ∀ (s : State) (k : Issue) (w : BitVec 25),
    let a := 2 * field w 24 24
    let i := 2 * field w 23 20
    let j := 2 * field w 19 16
    let p (x : Core) (m n : Nat) : Int := (x.rd m).toInt * (x.rd n).toInt * 2
    Claim.dual s k .mac2 w true (.mac2 k w) true (fun x y =>
      x.accumulate (x.accumulate y a (x.acc a + p x i j)) (a + 1) (x.acc (a + 1) + p x (i + 1) (j + 1))) ∧
    Claim.dual s k .msu2 w true (.msu2 k w) true (fun x y =>
      x.accumulate (x.accumulate y a (x.acc a - p x i j)) (a + 1) (x.acc (a + 1) - p x (i + 1) (j + 1))) ∧
    Claim.dual s k .mpy2 w true (.mpy2 k w) true (fun x y =>
      (((y.unlock a).setAc a (p x i j)).unlock (a + 1)).setAc (a + 1) (p x (i + 1) (j + 1))) ∧
    Claim.dual s k .macx2 w true (.macx2 k w) true (fun x y =>
      x.accumulate (x.accumulate y a (x.acc a + p x i j)) (a + 1) (x.acc (a + 1) + p x (i + 1) j)) ∧
    Claim.dual s k .ldp2 w (zeroFields w [(24, 16)]) (.ldp2 k w) false (fun _ y => y)

/-- The torque decision of R124, by its list. -/
def Claim.torque (e b : Int) (prev new : Nat) : Prop :=
  let p := if prev = 2 then 0 else prev
  let c := if b < 0 then 0 else b
  (e > c → new = 1) ∧ (¬e > c → e < -c → new = 3) ∧ (¬e > c → ¬e < -c → p = 1 → e ≤ 0 → new = 0) ∧
  (¬e > c → ¬e < -c → ¬(p = 1 ∧ e ≤ 0) → p = 3 → e ≥ 0 → new = 0) ∧
  (¬e > c → ¬e < -c → ¬(p = 1 ∧ e ≤ 0) → ¬(p = 3 ∧ e ≥ 0) → new = p)

/-- The flux decision of R124. -/
def Claim.flux (e b : Int) (prev new : Nat) : Prop :=
  let c := if b < 0 then 0 else b
  (e > c → new = 1) ∧ (¬e > c → e < -c → new = 0) ∧ (¬e > c → ¬e < -c → new = prev)

/-- R124: HYSB takes the torque error in Dx, the flux error in D(x+1), the bands in Dy and D(y+1) and the previous code in Dd, and writes a code
of three bits, which R124's list decides. -/
def Obligations.HysbDecides : Prop :=
  ∀ (s : State) (k : Issue) (w : BitVec 22),
    let touch := [dD w, dS w, dS w + 1, dT w, dT w + 1]
    let x := s.seen k touch
    Fetches s k [LoopOp.word .hysb false w] false → zeroFields w [(6, 0)] = true → dS w < 31 → dT w < 31 →
      ∃ code, code < 8 ∧
        Claim.torque (x.rd (dS w)).toInt (x.rd (dT w)).toInt ((x.rd (dD w)).toNat % 4) (code % 4) ∧
        Claim.flux (x.rd (dS w + 1)).toInt (x.rd (dT w + 1)).toInt ((x.rd (dD w)).toNat / 4 % 2) (code / 4) ∧
        exec (.hysb k w) s = .next (s.retired k touch 1 (x.fresh.setD (dD w) (BitVec.ofNat 32 code)))

/-- R126: HYST's result, as the interlocked result of the hysteresis unit. -/
def Obligations.HystPredicts : Prop :=
  ∀ (s : State) (k : Issue) (w : BitVec 22),
    let touch := [dD w, dS w, dS w + 1, dT w, dT w + 1]
    let x := s.seen k touch
    let e := (x.rd (dS w)).toInt
    let sl := (x.rd (dS w + 1)).toInt
    let b := if (x.rd (dT w)).toInt < 0 then 0 else (x.rd (dT w)).toInt
    let n : Int := min (x.rd (dT w + 1)).toNat 65536
    let edge := if 0 < sl then b else -b
    let q : Rat := (n * (edge - e) : Int) / (sl : Rat)
    Fetches s k [LoopOp.word .hyst false w] false → zeroFields w [(6, 0)] = true → dS w < 31 → dT w < 31 →
      ∃ v : W32,
        ((sl = 0 ∨ n = 0) → v = 0xFFFFFFFF) ∧
        (sl ≠ 0 → n ≠ 0 → ∀ t : Int, (t : Rat) ≤ q → q < (t : Rat) + 1 →
          (t < 0 → v = 0) ∧ (0 ≤ t → t < n → (v.toNat : Int) = t) ∧ (n ≤ t → v = 0xFFFFFFFF)) ∧
        exec (.hyst k w) s = .next (s.retired k touch 1 { x.fresh with units := x.fresh.units ++ [{ dst := [(dD w, v)] }] })

/-- HYSV and the CORDIC unit (R125, R127): HYSV loads entry Dx of vector table t, which the next instruction reads old; CSC, CROT and CVEC leave
an interlocked result whose values saturate to Q1.31. -/
def Obligations.TableAndCordicResults : Prop :=
  (∀ (s : State) (k : Issue) (w : BitVec 22),
    let x := s.seen k [dD w, dS w]
    let t := field w 1 0
    let v := (lookupOld x.oldVtb t (Tbl.get 0 x.vtb t)).toNat
    let i := (x.rd (dS w)).toNat
    Fetches s k [LoopOp.word .hysv false w] true → zeroFields w [(11, 2)] = true →
      (i < bits v 29 24 → i < 32 → ∀ b, (s.noted k).loadBytes x (bits v 23 2 * 4 + 4 * i) 4 = .ok (.inl b) →
        exec (.hysv k w) s = .next (s.retired k [dD w, dS w] 1 (x.fresh.setDLate (dD w) (BitVec.ofNat 32 (leNat b))))) ∧
      ((bits v 29 24 ≤ i ∨ 32 ≤ i) →
        exec (.hysv k w) s = .next ((s.noted k).trap k.core.val (s.core k.core.val).pc .vtIndex))) ∧
  (∀ (s : State) (k : Issue) (w : BitVec 22),
    Claim.loop s k .csc false w [] [dD w, dD w + 1, dS w] ((zeroFields w [(11, 0)] && decide (dD w < 31)) = true) (.csc k w)
      (fun x y =>
        let v := cordicCsc (x.rd (dS w))
        { y with units := y.units ++ [{ dst := [(dD w, BitVec.ofInt 32 (sat32 v.1)), (dD w + 1, BitVec.ofInt 32 (sat32 v.2))] }] }) ∧
    Claim.loop s k .crot false w [] [dD w, dD w + 1, dS w, dS w + 1, dT w]
      ((zeroFields w [(6, 0)] && decide (dD w < 31) && decide (dS w < 31)) = true) (.crot k w)
      (fun x y =>
        let v := cordicRot (x.rd (dS w)) (x.rd (dS w + 1)) (x.rd (dT w))
        let sat := sat32 v.1 ≠ v.1 || sat32 v.2 ≠ v.2
        { y with units := y.units ++ [{
          dst := [(dD w, BitVec.ofInt 32 (sat32 v.1)), (dD w + 1, BitVec.ofInt 32 (sat32 v.2))]
          setSr := if sat then 0x100 else 0, setTs := if sat then 2 else 0 }] }) ∧
    Claim.loop s k .cvec false w [] [dD w, dD w + 1, dS w, dS w + 1]
      ((zeroFields w [(11, 0)] && decide (dD w < 31) && decide (dS w < 31)) = true) (.cvec k w)
      (fun x y =>
        let v := cordicVec (x.rd (dS w)) (x.rd (dS w + 1))
        { y with units := y.units ++ [{
          dst := [(dD w, v.1), (dD w + 1, v.2)]
          setSr := if x.rd (dS w) = 0 ∧ x.rd (dS w + 1) = 0 then 0x400 else 0, cvec := true }] }))

/-- Control registers (R99, R100, Table 4.2): what MOVC reads and MOVTC writes; a number the table does not list, and a MOVTC to a read-only
one, trap ILLEGAL. -/
def Obligations.ControlRegisters : Prop :=
  ∀ (s : State) (k : Issue) (w : BitVec 22),
    (let x := s.seen k [mvDst w]
     let u := s.noted k
     let reads (v : Nat) : Prop := exec (.movc k w) s = .next (s.retired k [mvDst w] 1 (x.fresh.setD (mvDst w) (BitVec.ofNat 32 v)))
     Fetches s k [LoopOp.word .movc false w] false → zeroFields w [(16, 12)] = true →
       (field w 11 0 = 0x000 → reads x.pc) ∧
       (field w 11 0 = 0x001 → reads (x.oldLr.getD x.lr)) ∧
       (field w 11 0 = 0x002 → x.movtc = false → reads x.srFull) ∧
       (field w 11 0 = 0x003 → reads (x.oldTctl.getD x.tctl)) ∧
       (field w 11 0 = 0x004 → reads x.ts) ∧
       (∀ t, x.task = some t → field w 11 0 = 0x005 → reads (u.sinceTick t.cycle)) ∧
       (∀ t, x.task = some t → field w 11 0 = 0x006 → reads (u.cutoffOf t.bytes t.cycle).toNat) ∧
       (∀ t, x.task = some t → field w 11 0 = 0x007 → reads (u.clk - t.since)) ∧
       (∀ i, i < 3 → field w 11 0 = 0x010 + i → reads (x.levelReg i RepLevel.start)) ∧
       (∀ i, i < 3 → field w 11 0 = 0x014 + i → reads (x.levelReg i RepLevel.last)) ∧
       (∀ i, i < 3 → field w 11 0 = 0x018 + i → reads (x.levelReg i RepLevel.count)) ∧
       (∀ i, i < 4 → field w 11 0 = 0x020 + i → reads (lookupOld x.oldVtb i (Tbl.get 0 x.vtb i)).toNat) ∧
       ((field w 11 0 = 0x013 ∨ field w 11 0 = 0x017 ∨ (7 < field w 11 0 ∧ field w 11 0 < 0x010) ∨
           (0x01A < field w 11 0 ∧ field w 11 0 < 0x020) ∨ 0x023 < field w 11 0) →
         exec (.movc k w) s = .next (u.trap k.core.val (s.core k.core.val).pc .illegal))) ∧
    (let x := s.seen k [mvSrc w]
     let y := { x.fresh with movtc := true }
     let v := (x.rd (mvSrc w)).toNat
     let writes (z : Core) : Prop := exec (.movtc k w) s = .next (s.retired k [mvSrc w] 1 z)
     Fetches s k [LoopOp.word .movtc false w] false → zeroFields w [(21, 17)] = true →
       (field w 11 0 = 0x001 → writes { y with lr := v % 16384, oldLr := some y.lr }) ∧
       (field w 11 0 = 0x002 → writes (y.writeSr v)) ∧
       (field w 11 0 = 0x003 → writes { y with tctl := v % 2, oldTctl := some y.tctl }) ∧
       (∀ i, i < 4 → field w 11 0 = 0x020 + i →
         writes { y with vtb := Tbl.set 0 y.vtb i (vtbWord v), oldVtb := [(i, Tbl.get 0 y.vtb i)] }) ∧
       ((field w 11 0 = 0x000 ∨ (3 < field w 11 0 ∧ field w 11 0 < 0x020) ∨ 0x023 < field w 11 0) →
         exec (.movtc k w) s = .next ((s.noted k).trap k.core.val (s.core k.core.val).pc .illegal)))

/-- A branch that is taken to `t`, or is not taken, in a place where a branch may stand (R118). -/
def Claim.branch (s : State) (k : Issue) (o : LoopOp) (w : BitVec 24) (touch : List Nat) (zero : List (Nat × Nat)) (c : Instr)
    (link : Bool) (taken : Core → Prop) (target : Core → Int) : Prop :=
  let x := s.seen k touch
  let y := if link then { x.fresh with lr := (x.slotsLast (x.pc + 1) + 1) % 16384 } else x.fresh
  Fetches s k [o.word false w] false → zeroFields w zero = true → (s.core k.core.val).slots = 0 → x.branchBarred = false →
    (taken x → ∀ t : Nat, target x = t → t < 16384 → exec c s = .next (s.retired k touch 1 { y with slots := 2, target := some t })) ∧
    (¬taken x → exec c s = .next (s.retired k touch 1 { y with slots := 2, target := none })) ∧
    (taken x → ¬(0 ≤ target x ∧ target x < 16384) →
      exec c s = .next ((s.noted k).trap k.core.val (s.core k.core.val).pc .addrRange))

/-- The branches of format 0x5: when each is taken and where it goes; CALL keeps the first word after the second delay slot in LR. -/
def Obligations.BranchResults : Prop :=
  ∀ (s : State) (k : Issue) (w : BitVec 24),
    let rel (x : Core) : Int := x.pc + fieldI w 15 0
    let d (x : Core) : Int := (x.rd (brD w)).toInt
    Claim.branch s k .br w [] [(23, 16)] (.br k w) false (fun _ => True) rel ∧
    Claim.branch s k .call w [] [(23, 16)] (.call k w) true (fun _ => True) rel ∧
    Claim.branch s k .beqz w [brD w] [(18, 16)] (.beqz k w) false (fun x => d x = 0) rel ∧
    Claim.branch s k .bnez w [brD w] [(18, 16)] (.bnez k w) false (fun x => d x ≠ 0) rel ∧
    Claim.branch s k .bltz w [brD w] [(18, 16)] (.bltz k w) false (fun x => d x < 0) rel ∧
    Claim.branch s k .bgez w [brD w] [(18, 16)] (.bgez k w) false (fun x => 0 ≤ d x) rel ∧
    Claim.branch s k .bgtz w [brD w] [(18, 16)] (.bgtz k w) false (fun x => 0 < d x) rel ∧
    Claim.branch s k .blez w [brD w] [(18, 16)] (.blez k w) false (fun x => d x ≤ 0) rel ∧
    Claim.branch s k .bfs w [] [(18, 16)] (.bfs k w) false (fun x => bit x.flagSr (brD w) = true) rel ∧
    Claim.branch s k .bfc w [] [(18, 16)] (.bfc k w) false (fun x => bit x.flagSr (brD w) = false) rel ∧
    Claim.branch s k .jr w [brD w] [(18, 0)] (.jr k w) false (fun _ => True) (fun x => ((x.rd (brD w)).toNat : Int)) ∧
    Claim.branch s k .ret w [] [(23, 0)] (.ret k w) false (fun _ => True) (fun x => ((x.oldLr.getD x.lr : Nat) : Int))

/-- The branches, with their words (R118, Table 4.7); JR and RET with their unused fields zero, which else are no instructions. -/
def Claim.isBranch (k : Issue) (i : Instr) (word : W32) : Prop :=
  ∃ w : BitVec 24,
    (i = .br k w ∧ word = LoopOp.word .br false w) ∨ (i = .call k w ∧ word = LoopOp.word .call false w) ∨
    (i = .beqz k w ∧ word = LoopOp.word .beqz false w) ∨ (i = .bnez k w ∧ word = LoopOp.word .bnez false w) ∨
    (i = .bltz k w ∧ word = LoopOp.word .bltz false w) ∨ (i = .bgez k w ∧ word = LoopOp.word .bgez false w) ∨
    (i = .bgtz k w ∧ word = LoopOp.word .bgtz false w) ∨ (i = .blez k w ∧ word = LoopOp.word .blez false w) ∨
    (i = .bfs k w ∧ word = LoopOp.word .bfs false w) ∨ (i = .bfc k w ∧ word = LoopOp.word .bfc false w) ∨
    (i = .jr k w ∧ word = LoopOp.word .jr false w) ∨ (i = .ret k w ∧ word = LoopOp.word .ret false w)

/-- The unused fields of a branch, a repeat, TEND or BRK are zero (R115). -/
def Claim.flowLegal : Instr → Bool
  | .br _ w | .call _ w => zeroFields w [(23, 16)]
  | .beqz _ w | .bnez _ w | .bltz _ w | .bgez _ w | .bgtz _ w | .blez _ w | .bfs _ w | .bfc _ w => zeroFields w [(18, 16)]
  | .jr _ w => zeroFields w [(18, 0)]
  | .ret _ w => zeroFields w [(23, 0)]
  | .repr _ w => zeroFields w [(13, 5)]
  | .tend _ w | .brk _ w => zeroFields w [(21, 0)]
  | _ => true

/-- The instructions that may not stand in a delay slot (R118). -/
def Claim.noSlot (k : Issue) (i : Instr) (word : W32) : Prop :=
  Claim.isBranch k i word ∨
  (∃ w : BitVec 26, (i = .repi k w ∧ word = LoopOp.word .repi false w) ∨ (i = .repr k w ∧ word = LoopOp.word .repr false w)) ∨
  (∃ w : BitVec 22, (i = .tend k w ∧ word = LoopOp.word .tend false w) ∨ (i = .brk k w ∧ word = LoopOp.word .brk false w))

/-- R118 whole: a branch that does not trap leaves two delay slots, taken or not; an instruction in the first leaves one, and goes on at the next
word; the one in the second is followed by the target of a taken branch, else by the next word; and a branch, REPI, REPR, TEND or
BRK in a delay slot traps SLOT. -/
def Obligations.DelaySlots : Prop :=
  (∀ (s : State) (k : Issue) (i : Instr) (word : W32), Claim.isBranch k i word → Claim.flowLegal i = true → Fetches s k [word] false →
    (s.core k.core.val).slots = 0 →
      Gives i s (fun t => (t.core k.core.val).slots = 2 ∨
        ∃ cause, t = (s.noted k).trap k.core.val (s.core k.core.val).pc cause)) ∧
  (∀ (y : Core) (pc len : Nat), 0 < len → y.reps = [] → y.advance pc 2 len = { y with slots := 1, pc := (pc + len) % 16384 }) ∧
  (∀ (y : Core) (pc len t : Nat), y.target = some t →
    (y.advance pc 1 len).pc = t ∧ (y.advance pc 1 len).slots = 0 ∧ (y.advance pc 1 len).target = none) ∧
  (∀ (y : Core) (pc len : Nat), 0 < len → y.target = none → y.reps = [] →
    (y.advance pc 1 len).pc = (pc + len) % 16384 ∧ (y.advance pc 1 len).slots = 0) ∧
  (∀ (s : State) (k : Issue) (i : Instr) (word : W32), Claim.noSlot k i word → Claim.flowLegal i = true → Fetches s k [word] false →
    (s.core k.core.val).slots ≠ 0 → exec i s = .next ((s.noted k).trap k.core.val (s.core k.core.val).pc .slot))

/-- What stands in the way of a repeat, in Table 4.9: nothing. -/
def Claim.repeatClear (x : Core) (last count : Nat) : Prop :=
  (∀ l ∈ x.reps, l.last ≠ x.pc) ∧ count ≤ 65535 ∧ last ≤ 16383 ∧ (x.walkBody last (last - x.pc) (x.pc + 1) 0).1 = false ∧
  (∀ l ∈ x.reps, last ≤ l.last)

/-- A block repeat (R119, Table 4.9): a count above zero opens a level around the body, count 0 goes on after the body, a fourth level traps
REP_DEPTH; and the traps of Table 4.9. -/
def Claim.repeat_ (s : State) (k : Issue) (o : LoopOp) (w : BitVec 26) (touch : List Nat) (legal : Prop) (c : Instr) (count : Core → Nat) : Prop :=
  let x := s.seen k touch
  let last := x.pc + 1 + field w 25 14
  let traps (t : Trap) : Prop := exec c s = .next ((s.noted k).trap k.core.val (s.core k.core.val).pc t)
  Fetches s k [o.word false w] false → legal → (s.core k.core.val).slots = 0 →
    (Claim.repeatClear x last (count x) → 0 < count x → x.reps.length < 3 →
      exec c s = .next (s.retired k touch 1
        { x.fresh with reps := x.reps ++ [{ start := x.pc + 1, last := last, count := count x }] })) ∧
    (Claim.repeatClear x last (count x) → count x = 0 →
      exec c s = .next (s.retired k touch 1 { x.fresh with target := some last })) ∧
    (Claim.repeatClear x last (count x) → 0 < count x → 3 ≤ x.reps.length → traps .repDepth) ∧
    ((∃ l ∈ x.reps, l.last = x.pc) → traps .slot) ∧
    ((∀ l ∈ x.reps, l.last ≠ x.pc) → 65535 < count x → traps .repCount)

/-- REPI and REPR, and what happens at the end of a body: the innermost level loops back while iterations are left, else it closes and the
enclosing one is looked at on the same word. -/
def Obligations.RepeatResults : Prop :=
  (∀ (s : State) (k : Issue) (w : BitVec 26),
    Claim.repeat_ s k .repi w [] True (.repi k w) (fun _ => field w 13 0) ∧
    Claim.repeat_ s k .repr w [field w 4 0] (zeroFields w [(13, 5)] = true) (.repr k w) (fun x => (x.rd (field w 4 0)).toNat)) ∧
  (∀ (y : Core) (pc len : Nat) (ls : List RepLevel) (l : RepLevel), 0 < len → y.target = none →
    y.reps = ls ++ [l] → l.last = pc + len - 1 → 1 < l.count →
      (y.advance pc 0 len).pc = l.start ∧ (y.advance pc 0 len).reps = ls ++ [{ l with count := l.count - 1 }]) ∧
  (∀ (y : Core) (pc len : Nat) (l : RepLevel), 0 < len → y.target = none →
    y.reps = [l] → l.last = pc + len - 1 → l.count ≤ 1 →
      (y.advance pc 0 len).pc = (pc + len) % 16384 ∧ (y.advance pc 0 len).reps = []) ∧
  (∀ (y : Core) (pc len : Nat) (l m : RepLevel), 0 < len → y.target = none →
    y.reps = [m, l] → l.last = pc + len - 1 → m.last = l.last → l.count ≤ 1 → 1 < m.count →
      (y.advance pc 0 len).pc = m.start ∧ (y.advance pc 0 len).reps = [{ m with count := m.count - 1 }])

/-- The ends of a task on its core, and the events of a core (R104, R117, R120, R122): TEND keeps OVGP and closes the levels; BRK halts with
debug access open, else traps; an outstanding result is written; a shared load returns once every task of the cycle before has
ended; HALT_REQ, HALT and RESUME. -/
def Obligations.TaskEndAndCoreEvents : Prop :=
  (∀ (s : State) (k : Issue) (w : BitVec 22), zeroFields w [(21, 0)] = true → (s.core k.core.val).slots = 0 →
    (Fetches s k [LoopOp.word .tend false w] false → exec (.tend k w) s = .next (s.retired k [] 1
      { (s.seen k []).fresh with ended := true, endOvgp := (s.seen k []).oldTctl.getD (s.seen k []).tctl, reps := [] })) ∧
    (Fetches s k [LoopOp.word .brk false w] false → s.fuse .debug 0 ≠ 0 →
      exec (.brk k w) s = .next (s.retired k [] 1 { (s.seen k []).fresh with haltReq := true })) ∧
    (Fetches s k [LoopOp.word .brk false w] false → s.fuse .debug 0 = 0 →
      exec (.brk k w) s = .next ((s.noted k).trap k.core.val (s.core k.core.val).pc .brk))) ∧
  (∀ (s : State) (n : Fin 64) (u : UnitResult) (us : List UnitResult), (s.core n.val).units = u :: us →
    exec (.unitResult n) s = .next (s.updCore n.val fun x => { x.settle u with units := us })) ∧
  (∀ (s : State) (n : Fin 64) (l : SharedLoad) (t : Task), (s.core n.val).load = some l → (s.core n.val).task = some t →
    s.cyclePending (n.val / 16) (cycAdd t.cycle (Config.cycleModulus - 1)) = false → s.recordsIn (n.val / 16) t.cycle = true →
    exec (.sharedLoadComplete n) s = .next (s.updCore n.val fun y => { y with load := none }.putLoad false l.dst l.size l.signed
      ((List.range l.size).map (fun i => (s.sramOf (n.val / 16)).readAt t.cycle (l.addr + i))))) ∧
  (∀ (s : State) (n : Fin 64), s.fuse .debug 0 ≠ 0 → s.r .LC_STAT_STATE n.val = 1 →
    exec (.haltReq n) s = .next (s.updCore n.val fun x => { x with haltReq := true })) ∧
  (∀ (s : State) (n : Fin 64), s.r .LC_STAT_STATE n.val = 1 → (s.core n.val).haltReq = true → (s.core n.val).canHalt = true →
    (s.core n.val).ended = false →
    exec (.halt n) s = .next ((s.updCore n.val fun x => { x with haltReq := false }).w .LC_STAT_STATE n.val 2)) ∧
  (∀ (s : State) (n : Fin 64), s.r .LC_STAT_STATE n.val = 2 → exec (.resume n) s = .next (s.w .LC_STAT_STATE n.val 1))

/-! Host commands: how a packet becomes a command (R389 to R393). -/

/-- The opcode index: the opcode that a command packet of a row carries (Table 14.14); LOGIN and DISCOVER, which need no session, left out. -/
def Claim.packet : Instr → Option (Nat × Pkt)
  | .logout p => some (0x0002, p)
  | .keepalive p => some (0x0003, p)
  | .seqGet p => some (0x0004, p)
  | .eventMaskSet p => some (0x0005, p)
  | .deviceInfoGet p => some (0x0006, p)
  | .hostsGet p => some (0x0007, p)
  | .claim p => some (0x0008, p)
  | .release p => some (0x0009, p)
  | .claimsGet p => some (0x000A, p)
  | .configLease p => some (0x000B, p)
  | .faultClear p => some (0x000C, p)
  | .regRead p => some (0x000D, p)
  | .regWrite p => some (0x000E, p)
  | .netConfigSet p => some (0x000F, p)
  | .netConfigGet p => some (0x0010, p)
  | .loginTableSet p => some (0x0011, p)
  | .loginTableGet p => some (0x0012, p)
  | .powerStateSet p => some (0x0020, p)
  | .powerDomainSet p => some (0x0021, p)
  | .deviceReset p => some (0x0022, p)
  | .powerStatusGet p => some (0x0023, p)
  | .healthGet p => some (0x0024, p)
  | .ageingGet p => some (0x0025, p)
  | .ringStatusGet p => some (0x0100, p)
  | .ringCountersGet p => some (0x0101, p)
  | .ringKindle p => some (0x0110, p)
  | .ringStop p => some (0x0111, p)
  | .ringNodesGet p => some (0x0112, p)
  | .ringAddrSet p => some (0x0113, p)
  | .schedBegin p => some (0x0120, p)
  | .schedSegments p => some (0x0121, p)
  | .schedKeepers p => some (0x0122, p)
  | .schedClose p => some (0x0123, p)
  | .schedSwitch p => some (0x0124, p)
  | .schedAbort p => some (0x0125, p)
  | .nodeEmptySet p => some (0x0130, p)
  | .ringTimeGet p => some (0x0131, p)
  | .ringNodeMail p => some (0x0132, p)
  | .twinStatusGet p => some (0x0140, p)
  | .twinConfigSet p => some (0x0141, p)
  | .twinRoleSwap p => some (0x0142, p)
  | .twinDetach p => some (0x0143, p)
  | .twinJoin p => some (0x0144, p)
  | .twinAxGet p => some (0x0145, p)
  | .fbConfigSet p => some (0x0201, p)
  | .fbConfigGet p => some (0x0202, p)
  | .fbCalGet p => some (0x0203, p)
  | .fbCalSet p => some (0x0204, p)
  | .fbCalSave p => some (0x0205, p)
  | .fbStatusGet p => some (0x0206, p)
  | .fbIndexRefSet p => some (0x0207, p)
  | .emuConfigSet p => some (0x0210, p)
  | .emuStatusGet p => some (0x0211, p)
  | .emuRestart p => some (0x0212, p)
  | .servoBind p => some (0x0220, p)
  | .servoConfigSet p => some (0x0221, p)
  | .servoConfigGet p => some (0x0222, p)
  | .motorSet p => some (0x0223, p)
  | .motorGet p => some (0x0224, p)
  | .motorSave p => some (0x0225, p)
  | .psConfigSet p => some (0x0226, p)
  | .psConfigGet p => some (0x0227, p)
  | .vtSet p => some (0x0228, p)
  | .servoStatusGet p => some (0x0229, p)
  | .servoAlign p => some (0x022A, p)
  | .motionConfigSet p => some (0x0301, p)
  | .motionConfigGet p => some (0x0302, p)
  | .moveAbs p => some (0x0310, p)
  | .moveVel p => some (0x0311, p)
  | .motionStop p => some (0x0312, p)
  | .vmConfigSet p => some (0x0320, p)
  | .vmPlantSet p => some (0x0321, p)
  | .vmRamp p => some (0x0322, p)
  | .followConfigSet p => some (0x0330, p)
  | .followConfigGet p => some (0x0331, p)
  | .followFactor p => some (0x0332, p)
  | .camDefine p => some (0x0340, p)
  | .camPoints p => some (0x0341, p)
  | .camStart p => some (0x0342, p)
  | .homeStart p => some (0x0350, p)
  | .groupDefine p => some (0x0360, p)
  | .groupMove p => some (0x0361, p)
  | .groupStop p => some (0x0362, p)
  | .stepBind p => some (0x0370, p)
  | .stepConfigSet p => some (0x0371, p)
  | .stepConfigGet p => some (0x0372, p)
  | .motionStatusGet p => some (0x0380, p)
  | .recConfigSet p => some (0x0401, p)
  | .recConfigGet p => some (0x0402, p)
  | .recStart p => some (0x0403, p)
  | .recStop p => some (0x0404, p)
  | .recTrigger p => some (0x0405, p)
  | .recRead p => some (0x0406, p)
  | .recStatusGet p => some (0x0407, p)
  | .acqBwGet p => some (0x0408, p)
  | .adcConfigSet p => some (0x0410, p)
  | .adcCalSet p => some (0x0411, p)
  | .adcStatusGet p => some (0x0412, p)
  | .timeGet p => some (0x0501, p)
  | .timeSet p => some (0x0502, p)
  | .timeStep p => some (0x0503, p)
  | .timeIncSet p => some (0x0504, p)
  | .bellowsConfigSet p => some (0x0505, p)
  | .bellowsFeed p => some (0x0506, p)
  | .tinConfigSet p => some (0x0510, p)
  | .tinCaptureGet p => some (0x0511, p)
  | .toutConfigSet p => some (0x0512, p)
  | .toutStop p => some (0x0513, p)
  | .ptpConfigSet p => some (0x0520, p)
  | .ptpBind p => some (0x0521, p)
  | .ptpTx p => some (0x0522, p)
  | .ptpTxtsGet p => some (0x0523, p)
  | .fieldConfigSet p => some (0x0601, p)
  | .fieldConfigGet p => some (0x0602, p)
  | .fieldOutSet p => some (0x0603, p)
  | .fieldOutClear p => some (0x0604, p)
  | .fieldStatusGet p => some (0x0605, p)
  | .fieldChStatusGet p => some (0x0606, p)
  | .safeStatusGet p => some (0x0701, p)
  | .safeConnStatusGet p => some (0x0702, p)
  | .safeLogGet p => some (0x0703, p)
  | .safeSetGet p => some (0x0704, p)
  | .safeLogin p => some (0x0710, p)
  | .safeLogout p => some (0x0711, p)
  | .safePasswordSet p => some (0x0712, p)
  | .safeConnSet p => some (0x0720, p)
  | .safeAxisSet p => some (0x0721, p)
  | .safeSignalSet p => some (0x0722, p)
  | .safeZoneSet p => some (0x0723, p)
  | .safeChannelSet p => some (0x0724, p)
  | .safeCommit p => some (0x0730, p)
  | .safeDiscard p => some (0x0731, p)
  | .safeFuncReq p => some (0x0740, p)
  | .updateBegin p => some (0x0801, p)
  | .updateData p => some (0x0802, p)
  | .updateVerify p => some (0x0803, p)
  | .updateActivate p => some (0x0804, p)
  | .updateConfirm p => some (0x0805, p)
  | .updateAbort p => some (0x0806, p)
  | .updateStatusGet p => some (0x0807, p)
  | .fwInventoryGet p => some (0x0808, p)
  | .sootRead p => some (0x0901, p)
  | .sootStatusGet p => some (0x0902, p)
  | .traceRead p => some (0x0910, p)
  | .traceStatusGet p => some (0x0911, p)
  | .loopProgWrite p => some (0x0A01, p)
  | .grateDescSet p => some (0x0A10, p)
  | .grateDescGet p => some (0x0A11, p)
  | .grateCounterSet p => some (0x0A12, p)
  | .grateArrivalSet p => some (0x0A13, p)
  | .gratePost p => some (0x0A14, p)
  | .grateMove p => some (0x0A15, p)
  | .grateTraceCfg p => some (0x0A16, p)
  | .grateStatusGet p => some (0x0A17, p)
  | _ => none

/-- R389 and R379: what becomes of the packet of any command but SEQ_GET when SESSION does not name the context's session, when its SEQ
has been executed, when its SEQ is none, and when an earlier command holds the context: it is answered as R389 says and its own
effect does not happen. -/
def Obligations.CommandSequence : Prop :=
  ∀ (s t : State) (i : Instr) (op : Nat) (p : Pkt),
    let c := p.ctx
    let x := t.ctx c
    Claim.packet i = some (op, p) → op ≠ 4 → p.port ≠ .flue → s.replay = 0 → s.take p = some t →
    (¬(p.port.serves c = true ∧ t.twinPath c = false ∧ x.isOpen = true ∧ x.session = p.session) →
      exec i s = .next (t.emit (replyPacket p c op .noSession []))) ∧
    (p.port.serves c = true → t.twinPath c = false → x.isOpen = true → x.session = p.session →
      (p.seq % 65536 = x.nextSeq % 65536 → x.busy = true → x.held.length = 32 →
        exec i s = .next ((t.restartLease c).emit (replyPacket p c op .refusedFull []))) ∧
      (p.seq % 65536 = x.nextSeq % 65536 → x.busy = true → x.held.length < 32 →
        exec i s = .next ((t.accept p c).updCtx c (fun y => { y with held := y.held ++ [(op, p)] }))) ∧
      (∀ d, 1 ≤ d → d ≤ 64 → (p.seq + d) % 65536 = x.nextSeq % 65536 → ∀ k, x.history.find? (fun k => k.seq == p.seq) = some k →
        exec i s = .next (((t.inc .HOST_CNT2_DUP c).restartLease c).emit { k with flags := 1 })) ∧
      (∀ d, 1 ≤ d → d ≤ 64 → (p.seq + d) % 65536 = x.nextSeq % 65536 → x.history.find? (fun k => k.seq == p.seq) = none →
        exec i s = .next ((t.inc .HOST_CNT2_DUP c).restartLease c)) ∧
      ((∀ d, d ≤ 64 → (p.seq + d) % 65536 ≠ x.nextSeq % 65536) →
        exec i s = .next ((t.inc .HOST_CNT_BAD_SEQ c).emit (replyPacket p c op .badSeq (le 2 x.nextSeq ++ [0, 0])))))

/-- The commands that only the holder of the configuration lease may give (marked C in Table 14.14). -/
def Claim.needsLease : Instr → Bool
  | .netConfigSet _ | .loginTableSet _ | .powerStateSet _ | .powerDomainSet _ | .deviceReset _ | .ringKindle _
  | .ringStop _ | .ringAddrSet _ | .schedBegin _ | .schedSegments _ | .schedKeepers _ | .schedClose _
  | .schedSwitch _ | .schedAbort _ | .nodeEmptySet _ | .ringNodeMail _ | .twinConfigSet _ | .twinRoleSwap _
  | .twinDetach _ | .twinJoin _ | .emuConfigSet _ | .emuRestart _ | .servoBind _ | .vmConfigSet _
  | .groupDefine _ | .stepBind _ | .adcConfigSet _ | .adcCalSet _ | .ptpConfigSet _ | .loopProgWrite _
  | .grateDescSet _ | .grateCounterSet _ | .grateArrivalSet _ | .gratePost _ | .grateMove _ | .grateTraceCfg _ => true
  | _ => false

/-- R383: a command marked C from a context that does not hold the configuration lease is refused, and nothing of its effect happens; where
PLEN fits, with NOT_OWNER and who holds the lease. -/
def Obligations.LeaseGuards : Prop :=
  ∀ (s u : State) (i : Instr) (op : Nat) (p : Pkt) (n : Nat),
    Claim.packet i = some (op, p) → Claim.needsLease i = true → Carries s p true true u n → u.recovering = false →
    u.holdsLease n = false →
      exec i s = .next (u.answer p n op .badParam []) ∨
      exec i s = .next (u.answer p n op .notOwner (le 2 0xFFFF ++ le 1 (u.cfgLease.getD 0xFF) ++ [0]))
/-- What an opcode asks of the context that gives it. -/
def Claim.meets (u : State) (n : Nat) : Need → Prop
  | .nothing => True
  | .lease => u.holdsLease n = true
  | .owns ok ids => ok = true ∧ ∀ id ∈ ids, isResource id = true ∧ u.owns n id = true
  | .claim ids => ∀ id ∈ ids, isResource id = true ∧ (u.owner id = none ∨ u.owns n id = true)
  | .ptp q => q < 2
  | .write ok _ => ok = true

/-- A command packet that is carried out, from a context that may give it, with PLEN, ranges and states as `cond` says, makes of the block that it
finds the block and the parameters that `eff` says, and is answered OK with them. -/
def Claim.ok (s : State) (p : Pkt) (i : Instr) (op : Nat) (need : Need) (right : Option Nat) (fwd saf : Bool) (cond : Prop)
    (eff : State → State × List Byte) : Prop :=
  cond → ∀ (u : State) (n : Nat), Carries s p fwd saf u n → u.grants n op right → Claim.meets u n need → (fwd = true → u.open_ p) →
    exec i s = .next ((eff u).1.answer p n op .ok (eff u).2)

/-- A command that reads: the block is as it was but for the answer. -/
def Claim.reads (s : State) (p : Pkt) (i : Instr) (op : Nat) (cond : Prop) (reply : State → List Byte) : Prop :=
  Claim.ok s p i op .nothing none false false cond (fun u => (u, reply u))

/-- A command that reads `k` registers from BAR0 address `a` on. -/
def Claim.regs (s : State) (p : Pkt) (i : Instr) (op : Nat) (cond : Prop) (a k : Nat) : Prop :=
  Claim.ok s p i op .nothing none false false cond (fun u => ((u.readRegs p.ctx a k).2, (u.readRegs p.ctx a k).1))

/-- A command that acts on this unit alone, answered OK without parameters. -/
def Claim.acts (s : State) (p : Pkt) (i : Instr) (op : Nat) (need : Need) (cond : Prop) (eff : State → State) : Prop :=
  Claim.ok s p i op need none false false cond (fun u => (eff u, []))

/-- A command that changes class W or N state, so that the active of a pair forwards it (R371). -/
def Claim.sets (s : State) (p : Pkt) (i : Instr) (op : Nat) (need : Need) (cond : Prop) (eff : State → State) : Prop :=
  Claim.ok s p i op need none true false cond (fun u => (eff u, []))

/-- Sessions (R381, R386, R402): what the commands of an open session do. -/
def Claim.SessionCommands : Prop :=
  ∀ (s : State) (p : Pkt),
    Claim.acts s p (.keepalive p) 0x0003 .nothing (p.len = 0) (fun u => u) ∧
    (p.len = 0 → ∀ u n, Carries s p false false u n → exec (.logout p) s = .next ((u.answer p n 0x0002 .ok []).endSession p.ctx)) ∧
    Claim.acts s p (.eventMaskSet p) 0x0005 .nothing (p.len = 4 ∧ bits (p.u 0 2) 14 11 = 0 ∧ zeroBytes p.params 2 2 = true)
      (fun u => u.updCtx p.ctx (fun x => { x with mask := p.u 0 2 })) ∧
    Claim.reads s p (.deviceInfoGet p) 0x0006 (p.len = 0) State.deviceRecord ∧
    Claim.reads s p (.hostsGet p) 0x0007 (p.len = 0) (fun u => (List.range 8).flatMap u.hostRecord) ∧
    Claim.reads s p (.claimsGet p) 0x000A (p.len = 1 ∧ p.u 0 1 < 8) (fun u =>
      le 2 (u.claimsOf (p.u 0 1)).length ++ [0, 0] ++ (u.claimsOf (p.u 0 1)).flatMap (fun k => le 2 k.1 ++ le 1 k.2 ++ [0])) ∧
    -- SEQ_GET is accepted at any SEQ, is not counted as a command of the context, and changes nothing but the lease.
    (∀ t, s.replay = 0 → p.port ≠ .flue → s.take p = some t → p.port.serves p.ctx = true → t.twinPath p.ctx = false →
      (t.ctx p.ctx).isOpen = true → (t.ctx p.ctx).session = p.session → p.len = 0 → t.recovering = false →
        let x := t.ctx p.ctx
        exec (.seqGet p) s = .next ((t.restartLease p.ctx).emit (replyPacket p p.ctx 0x0004 .ok
          (le 2 x.nextSeq ++ le 2 x.lastSeq ++ le 2 x.evNext ++ le 2 ((x.events.head?.map (fun e => e.seq)).getD x.evNext)))))

/-- A LOGIN whose header and parameters are inside Table 14.13. -/
def Claim.loginFits (p : Pkt) : Prop :=
  p.port ≠ .flue ∧ p.session = 0 ∧ p.len = 14 ∧ 10 ≤ p.u 8 2 ∧ p.u 8 2 ≤ 60000 ∧ p.u 12 1 < 2 ∧
    (p.port.eth.isSome = true → p.u 13 1 = 0xFF ∨ p.u 13 1 = 7 ∨ (2 ≤ p.u 13 1 ∧ p.u 13 1 ≤ 5))

/-- LOGIN and DISCOVER (R378 to R380, R403): which login opens a session, which resumes one and which is refused; a device record at most once
in 100 ms for a source address. -/
def Obligations.LoginAndDiscover : Prop :=
  (∀ (s t : State) (p : Pkt), Claim.loginFits p → s.take p = some t →
    (∀ c rights, t.resumable p = none → t.loginCtx p = .ok c → t.loginRights p (p.u 13 1) = some rights →
      exec (.login p) s = .next (t.openSession p c rights)) ∧
    (∀ c rights, t.resumable p = some c → t.loginRights p c = some rights → (t.ctx c).busy = false →
      exec (.login p) s = .next (t.resumeSession p c rights)) ∧
    (∀ c rights, t.resumable p = some c → t.loginRights p c = some rights → (t.ctx c).busy = true →
      exec (.login p) s = .next (t.updCtx c (fun x => { x with held := x.held ++ [(0x0001, p)], resuming := true }))) ∧
    (t.resumable p = none → p.port.eth.isSome = true → p.u 13 1 = 0xFF → (∀ c ∈ [2, 3, 4, 5], (t.ctx c).isOpen = true) →
      exec (.login p) s = .next (t.emit (replyPacket p p.ctx 0x0001 .refusedFull []))) ∧
    (t.resumable p = none → p.port.eth.isSome = true → p.u 13 1 ≠ 0xFF → (t.ctx (p.u 13 1)).isOpen = true →
      (t.ctx (p.u 13 1)).hostId ≠ p.u 0 8 →
      exec (.login p) s = .next (t.emit (replyPacket p p.ctx 0x0001 .badState [])))) ∧
  (∀ (s : State) (p : Pkt) (c rights : Nat),
    let x := (s.openSession p c rights).ctx c
    x.isOpen = true ∧ ((s.ctx c).used.length ≤ 16 → x.session ≠ 0 ∧ x.session ∉ (s.ctx c).used) ∧ x.nextSeq = (p.seq + 1) % 65536 ∧ x.evNext = 0 ∧ x.hostId = p.u 0 8 ∧ x.rights = rights ∧ x.leaseMs = p.u 8 2 ∧
      x.events = [] ∧ x.history = [] ∧ (c < 8 → ∀ d, d < 8 → d ≠ c → p.port.eth.isSome = true → s.twinPath d = false →
        (s.ctx d).hostId = p.u 0 8 → ((s.openSession p c rights).ctx d).isOpen = false)) ∧
  (∀ (s t : State) (p : Pkt), p.port ≠ .flue → s.take p = some t → p.len = 0 →
    (Tbl.get 0 t.discovered p.addr = 0 ∨ Tbl.get 0 t.discovered p.addr + msT 100 ≤ t.now0 + 1 →
      let v := { t with discovered := Tbl.set 0 t.discovered p.addr (t.now0 + 1) }
      exec (.discover p) s = .next (v.emit (replyPacket p p.ctx 0 .ok t.deviceRecord))) ∧
    (Tbl.get 0 t.discovered p.addr ≠ 0 → t.now0 + 1 < Tbl.get 0 t.discovered p.addr + msT 100 → exec (.discover p) s = .next t))

/-- Ownership and the records of the unit (R383 to R385, R471, R378, R398). -/
def Obligations.OwnershipCommands : Prop :=
  ∀ (s : State) (p : Pkt),
    let ids := (List.range (p.u 0 2)).map (fun k => p.u (4 + 2 * k) 2)
    let a := p.u 0 2
    let rec_ := slice p.params 4 32
    Claim.ok s p (.claim p) 0x0008 (.claim ids) (some 1) false false
      (p.len = 4 + 2 * p.u 0 2 ∧ p.u 0 2 ≤ 818 ∧ p.u 2 1 ≤ 2 ∧ p.u 3 1 = 0 ∧ ∀ id ∈ ids, 0x600 ≤ id → s.rb .FIO_CH_STAT_OWNER (id - 0x600) = false)
      (fun u => ({ u with claims := ids.foldl (fun t id => Tbl.set none t id (some { ctx := p.ctx, onDepart := p.u 2 1 })) u.claims }, [])) ∧
    Claim.acts s p (.release p) 0x0009 (.owns true ids) (p.len = 4 + 2 * p.u 0 2 ∧ zeroBytes p.params 2 2 = true)
      (fun u => { u with claims := ids.foldl (fun t id => Tbl.set none t id none) u.claims }) ∧
    Claim.ok s p (.configLease p) 0x000B .nothing (some 0) false false
      (p.len = 1 ∧ p.u 0 1 = 1 ∧ (s.cfgLease = none ∨ s.cfgLease = some p.ctx)) (fun u => ({ u with cfgLease := some p.ctx }, [])) ∧
    Claim.acts s p (.configLease p) 0x000B .nothing (p.len = 1 ∧ p.u 0 1 = 0)
      (fun u => { u with cfgLease := if u.cfgLease = some p.ctx then none else u.cfgLease }) ∧
    Claim.acts s p (.faultClear p) 0x000C (.owns (decide (a < 648)) [a])
      (p.len = 2 ∧ s.fc a ≠ 4 ∧ ∀ k ∈ (s.axis a).causes, s.causeStands a k.1 = false)
      (fun u => if (u.axis a).causes = [] ∧ u.fc a = 0 then u
        else
          let v := u.updAxis a (fun x => { x with fc := 0, causes := [] })
          (if 3 ≤ u.fc a then v.leaveInhibit a else v).raise .faultCleared 0 1 a) ∧
    Claim.sets s p (.netConfigSet p) 0x000F .lease
      (p.len = 36 ∧ p.u 0 1 < 2 ∧ p.u 1 1 < 2 ∧ p.u 2 1 < 2 ∧ p.u 3 1 = 0 ∧ netOk rec_ = true)
      (fun u => (u.recSet .net (p.u 0 1 * 2 + p.u 1 1) rec_).recFlash .net (p.u 0 1 * 2 + p.u 1 1) rec_ (bit (p.u 2 1) 0)) ∧
    Claim.reads s p (.netConfigGet p) 0x0010 (p.len = 2 ∧ p.u 0 1 < 2 ∧ p.u 1 1 < 2) (fun u => u.cfg .net (p.u 0 1 * 2 + p.u 1 1)) ∧
    Claim.sets s p (.loginTableSet p) 0x0011 .lease
      (p.len = 36 ∧ p.u 0 1 < 16 ∧ p.u 1 1 < 2 ∧ zeroBytes p.params 2 2 = true ∧ loginEntryOk rec_ = true)
      (fun u => (u.recSet .loginTable (p.u 0 1) rec_).recFlash .loginTable (p.u 0 1) rec_ (bit (p.u 1 1) 0)) ∧
    Claim.reads s p (.loginTableGet p) 0x0012 (p.len = 0) (fun u => (List.range 16).flatMap (fun i => u.cfg .loginTable i)) ∧
    Claim.ok s p (.regRead p) 0x000D .nothing none false false
      (p.len = 8 ∧ p.u 0 4 % 4 = 0 ∧ p.u 0 4 + 4 * p.u 4 2 ≤ 0x100000 ∧ p.u 0 4 < 0x100000 ∧ p.u 4 2 ≤ 1018 ∧ zeroBytes p.params 6 2 = true)
      (fun u => ((u.readRegs p.ctx (p.u 0 4) (p.u 4 2)).2, (u.readRegs p.ctx (p.u 0 4) (p.u 4 2)).1)) ∧
    Claim.sets s p (.regWrite p) 0x000E .nothing
      (p.len = 8 ∧ p.u 0 4 % 4 = 0 ∧ p.u 0 4 < 0x100000 ∧ s.writes p.ctx (p.u 0 4) (p.u 4 4) (p.port == .flue) = true)
      (fun u => u.writeReg (p.u 0 4) (p.u 4 4))

/-- Status opcodes answer the registers of their chapter, as a read of them (R404): which registers, from which address on. -/
def Claim.StatusCommands : Prop :=
  ∀ (s : State) (p : Pkt),
    let a := p.u 0 1
    Claim.regs s p (.twinStatusGet p) 0x0140 (p.len = 0) 0x40000 9 ∧
    Claim.regs s p (.twinAxGet p) 0x0145 (p.len = 4 ∧ p.u 0 2 ≤ 639 ∧ p.u 0 2 + p.u 2 2 ≤ 640) (0x40100 + 4 * p.u 0 2) (p.u 2 2) ∧
    Claim.regs s p (.emuStatusGet p) 0x0211 (p.len = 1 ∧ a < 4) (0x70800 + 16 * a) 2 ∧
    Claim.regs s p (.servoStatusGet p) 0x0229 (p.len = 1 ∧ a < 128) (0x80000 + 32 * a) 8 ∧
    Claim.regs s p (.motionStatusGet p) 0x0380 (p.len = 2 ∧ p.u 0 2 < 640) (0x90000 + 32 * p.u 0 2) 8 ∧
    Claim.regs s p (.grateStatusGet p) 0x0A17 (p.len = 1 ∧ a < 4) (0x60000 + 64 * a) 9 ∧
    Claim.regs s p (.fieldStatusGet p) 0x0605 (p.len = 0) 0xC0000 4 ∧
    Claim.regs s p (.fieldChStatusGet p) 0x0606 (p.len = 1 ∧ a < 24) (0xC0100 + 16 * a) 3 ∧
    Claim.regs s p (.powerStatusGet p) 0x0023 (p.len = 0) 0xE0000 6 ∧
    Claim.regs s p (.healthGet p) 0x0024 (p.len = 0) 0xE0020 10 ∧
    Claim.regs s p (.sootStatusGet p) 0x0902 (p.len = 0) 0xE0100 3 ∧
    Claim.regs s p (.traceStatusGet p) 0x0911 (p.len = 0) 0xE0110 4 ∧
    Claim.regs s p (.updateStatusGet p) 0x0807 (p.len = 0) 0xF0000 4 ∧
    Claim.regs s p (.ringCountersGet p) 0x0101 (p.len = 2 ∧ 1 ≤ a ∧ a ≤ 254 ∧ a + p.u 1 1 ≤ 255) (0x20100 + 16 * a) (4 * p.u 1 1) ∧
    Claim.ok s p (.ringStatusGet p) 0x0100 .nothing none false false (p.len = 0) (fun u =>
      let x := u.readRegs p.ctx 0x20000 2
      let y := x.2.readRegs p.ctx 0x20010 9
      let z := y.2.readRegs p.ctx 0x20050 9
      (z.2, x.1 ++ y.1 ++ z.1)) ∧
    Claim.ok s p (.ringTimeGet p) 0x0131 .nothing none false false (p.len = 0) (fun u =>
      let x := u.readRegs p.ctx 0x30030 3
      (x.2, x.1 ++ x.2.head.usedD.flatMap (fun d => le 1 d.1 ++ leInt 4 d.2))) ∧
    Claim.ok s p (.fbStatusGet p) 0x0206 .nothing none false false (p.len = 1 ∧ a < 128) (fun u =>
      let x := u.readRegs p.ctx (0x70000 + 16 * a) 4
      (x.2, leInt 8 (u.fb a).pos ++ leInt 8 (u.fb a).speed ++ le 4 (u.fb a).theta ++ x.1)) ∧
    Claim.ok s p (.fwInventoryGet p) 0x0808 .nothing none false false (p.len = 0) (fun u =>
      let x := u.readRegs p.ctx 0xF0010 8
      let y := x.2.readRegs p.ctx 0xF0040 2
      (y.2, x.1 ++ y.1)) ∧
    Claim.ok s p (.ageingGet p) 0x0025 .nothing none false false (p.len = 0) (fun u =>
      let x := u.readRegs p.ctx 0xE0060 13
      (x.2, x.1 ++ (List.range 8).flatMap (fun k => le 1 (x.2.fitStatus k) ++ [0, 0, 0] ++
        leInt 4 (if (x.2.sched k).phase = 2 then computeWindow (x.2.sched k).period (x.2.sched k).inDone else 0)))) ∧
    Claim.reads s p (.acqBwGet p) 0x0408 (p.len = 0) (fun u =>
      le 4 (u.r .ACQ_BW_USED) ++ le 4 (u.r .ACQ_AREA_ALLOC) ++ (List.range 32).flatMap (fun r => le 2 (u.acq r).rate)) ∧
    Claim.ok s p (.recStatusGet p) 0x0407 .nothing none false false (p.len = 1 ∧ a < 32) (fun u =>
      ((((u.rc .REC_CNT_MISS a).rc .REC_CNT_HOLDOFF a).rc .REC_CNT2_WRAPS a).rc .REC_CNT2_ACCEPTED a,
        le 4 (u.r .REC_STAT_STATE a + 8 * u.r .REC_STAT_PRE_SHORT a + 256 * u.r .REC_STAT_CAUSE a) ++ le 4 (u.r .REC_SEQ_SEQ a) ++
        le 4 (u.r .REC_TRIG_SEQ_SEQ a) ++ le 2 (u.r .REC_CNT_MISS a) ++ le 2 (u.r .REC_CNT_HOLDOFF a) ++ le 2 (u.r .REC_CNT2_WRAPS a) ++
        le 2 (u.r .REC_CNT2_ACCEPTED a) ++ le 4 (u.r .REC_TLAST0_T a) ++ le 4 (u.r .REC_TLAST1_T a) ++ le 4 (u.r .REC_TLAST2_T a))) ∧
    Claim.ok s p (.adcStatusGet p) 0x0412 .nothing none false false (p.len = 1 ∧ a < 2) (fun u =>
      ((u.rc .ADC_CNT_START_LOST a).rc .ADC_CNT_CLIP a,
        le 4 (u.r .ADC_STAT_SETTLED a + 2 * u.r .ADC_STAT_REF a + 8 * u.r .ADC_STAT_INTERLEAVED a + 16 * u.r .ADC_STAT_START a) ++
        le 2 (u.r .ADC_CNT_START_LOST a) ++ le 2 (u.r .ADC_CNT_CLIP a) ++ le 4 (u.r .ADC_RATE_RATE a)))

/-- The commands of an open session, and the status opcodes (R381, R386, R402, R404). -/
def Obligations.SessionAndStatusCommands : Prop := Claim.SessionCommands ∧ Claim.StatusCommands

/-- Commands to the ring (R61, R74, R76, R86, R90). -/
def Obligations.RingCommands : Prop :=
  ∀ (s : State) (p : Pkt),
    let a := p.u 0 1
    Claim.sets s p (.ringKindle p) 0x0110 .lease
      (p.len = 4 ∧ a ≤ 1 ∧ (p.u 1 1 = 1 ∨ p.u 1 1 = 2) ∧ (p.u 2 1 = 0xFF ∨ p.u 2 1 < 8 ∧ (s.sched (p.u 2 1)).phase = 2) ∧ p.u 3 1 ≤ 1 ∧
        (s.headIs .off = true ∨ s.headIs .conflict = true))
      (fun u =>
        let v := ((u.w .RK_CFG_GEN 0 a).w .RK_CFG_TOPO 0 (p.u 1 1)).w .RK_CFG_START_SM 0 (p.u 2 1)
        (if bit (p.u 3 1) 0 then ((v.saveFld .RK_CFG_GEN 0).saveFld .RK_CFG_TOPO 0).saveFld .RK_CFG_START_SM 0 else v).goListen) ∧
    Claim.acts s p (.ringStop p) 0x0111 .lease (p.len = 0)
      (fun u => if u.headIs .off = true then u else if u.sends = true then u.updHead (fun h => { h with stopping := true }) else u.goOff) ∧
    Claim.reads s p (.ringNodesGet p) 0x0112 (p.len = 2 ∧ 1 ≤ a ∧ a ≤ 254 ∧ a + p.u 1 1 ≤ 255)
      (fun u => (List.range (p.u 1 1)).flatMap (fun i => u.nodeRecord (a + i))) ∧
    -- ADDR 0 deletes the identity's entry; an entry it had at another address goes in any case.
    Claim.sets s p (.ringAddrSet p) 0x0113 .lease
      (p.len = 12 ∧ p.u 10 1 ≤ 254 ∧ p.u 11 1 ≤ 1 ∧
        (p.u 10 1 = 0 ∨ ∀ e, s.mapEntry (p.u 10 1) = some e → e.vendor = p.u 0 2 ∧ e.serial = p.u 2 8))
      (fun u =>
        let n := p.u 10 1
        let v := match u.mapped? (p.u 0 2) (p.u 2 8) with | some b => if b = n then u else u.unmap b | none => u
        let v := if n = 0 then v else
          let w := v.setMap n (some { vendor := p.u 0 2, serial := p.u 2 8, fixed := true })
          (if w.r .NODE_STATE_PRESENCE n = 0 then w.w .NODE_STATE_PRESENCE n 3 else w).recallWaiting (p.u 0 2) (p.u 2 8)
        if bit (p.u 11 1) 0 then v.saveMap (p.u 0 2) (p.u 2 8) n else v) ∧
    Claim.sets s p (.nodeEmptySet p) 0x0130 .lease
      ((p.len = 4 ∨ (p.u 1 1 = 3 ∧ 4 < p.len ∧ p.len ≤ 260 ∧ p.len % 4 = 0)) ∧ 1 ≤ a ∧ a ≤ 254 ∧ 1 ≤ p.u 1 1 ∧ p.u 1 1 ≤ 3 ∧
        reactOk (p.u 1 1) (p.u 2 1) (p.u 3 1) = true ∧ s.r .NODE_STATE_PRESENCE a = 1)
      (fun u =>
        let body := le 1 (p.u 1 1) ++ le 1 (p.u 2 1) ++ le 1 (p.u 3 1) ++ [0] ++ p.params.drop 4
        { u with empties := Tbl.set [] u.empties (a * 8 + p.u 1 1) body }.mail a 0x12 body) ∧
    -- A tunnelled message waits in the node's mailbox, and its answer is the reply: the context is held.
    (2 ≤ p.len → 1 ≤ a → a ≤ 254 → 0x40 ≤ p.u 1 1 → p.u 1 1 ≤ 0x7F → s.r .NODE_STATE_PRESENCE a = 1 →
      ((s.hnode a).box.outq.filter (fun m => m.waiter.isSome)).length + (s.hnode a).box.awaiting.length < 4 →
      ∀ u n, Carries s p false false u n → u.grants n 0x0132 none → u.holdsLease n = true →
        exec (.ringNodeMail p) s = .next ((u.updHnode a (fun h => { h with box := { h.box with
          outq := h.box.outq ++ [{ svc := p.u 1 1, body := p.params.drop 2, waiter := some p }] } })).updCtx n
            (fun x => { x with busy := true })))

/-- Building, closing and switching schedule modes (R13, R41, R44, R77, R79). -/
def Obligations.ScheduleCommands : Prop :=
  ∀ (s : State) (p : Pkt),
    let k := p.u 0 1
    let n := p.u 1 1
    let segs := place 0 ((s.sched k).segs ++ (List.range n).map (segEntry p.params))
    let m := s.planMode k (s.sched k)
    Claim.sets s p (.schedBegin p) 0x0120 .lease
      (p.len = 14 ∧ k < 8 ∧ zeroBytes p.params 1 3 = true ∧ 800 ≤ p.u 4 4 ∧ p.u 4 4 ≤ 100000 ∧ 2 * p.u 8 2 ≤ p.u 4 4 ∧ 2 * p.u 10 2 ≤ p.u 4 4 ∧
        10 ≤ p.u 12 2 ∧ p.u 12 2 ≤ 1000 ∧ s.modeBusy k = false)
      (fun u =>
        let v := if (u.sched k).phase = 2 then
            (List.range 255).foldl (fun x a => if u.holdsPreload k a then x.mail a 0x11 (le 1 k) else x) u else u
        (v.updSched k (fun _ => { phase := 1, period := p.u 4 4, tinLead := p.u 8 2, toutOfs := p.u 10 2, pw := p.u 12 2 })).showPreloaded) ∧
    Claim.sets s p (.schedSegments p) 0x0121 .lease
      (p.len = 2 + 8 * n ∧ k < 8 ∧ (s.sched k).phase = 1 ∧ ((List.range n).map (segEntry p.params)).all segOk = true ∧
        (List.range n).all (fun i => zeroBytes p.params (7 + 8 * i) 3) = true ∧ segsDistinct segs = true ∧ frameLen segs ≤ 65535)
      (fun u => u.updSched k (fun x => { x with segs := segs })) ∧
    Claim.sets s p (.schedKeepers p) 0x0122 .lease
      (p.len = 2 + n ∧ k < 8 ∧ (s.sched k).phase = 1 ∧ (n = 0 ∨ (3 ≤ n ∧ n ≤ 16)) ∧ ∀ i, i < n → 1 ≤ p.u (2 + i) 1 ∧ p.u (2 + i) 1 ≤ 254)
      (fun u => u.updSched k (fun x => { x with keepers := ((List.range n).map (fun i => p.u (2 + i) 1)).eraseDups })) ∧
    Claim.ok s p (.schedClose p) 0x0123 .lease none true false
      (p.len = 1 ∧ k < 8 ∧ m.phase = 1 ∧ s.admits k m = true ∧ s.modeDwellFits m = true ∧ s.modeStepFits m = true ∧
        (m.segs.filter (fun g => g.ty == 5)).length ≤ 8)
      (fun u =>
        let v := u.updSched k (fun _ => { m with phase := 2, noFit := false, loaded := [], barred := [] })
        let v := if m.cls = 2 then
            v.raise .ringBreakUncovered 0 0 0 (le 1 k ++ [0, 0, 0] ++ le 4 m.brk ++
              le 4 (((modeDescs v.allDescs k).filter (fun d => (m.slot d.2.2).isSome)).foldl (fun x d => max x (descWcet d.2.2)) 0))
          else v
        ((m.nodes.foldl (fun x a => if (x.hnode a).started then x.preloadInto k a else x) v).showPreloaded,
          le 1 m.cls ++ le 2 (frameLen m.segs) ++ le 4 m.inDone ++ leInt 4 (computeWindow m.period m.inDone))) ∧
    Claim.acts s p (.schedSwitch p) 0x0124 .lease
      (p.len = 1 ∧ k < 8 ∧ (s.sched k).noFit = false ∧ s.rb .SW_STAT_ARMED = false ∧ bit (s.r .SW_STAT_PRELOADED) k = true ∧
        ¬(s.cyclic = true ∧ s.mode = k) ∧ (s.headIs .rollCall = true ∨ s.headIs .cyclic = true ∨ s.headIs .follow = true))
      (fun u => u.armSwitch k) ∧
    Claim.acts s p (.schedAbort p) 0x0125 .lease (p.len = 0 ∧ s.rb .SW_STAT_ARMED = true ∧ s.head.decided = false) (fun u => u.dropSwitch 2 0)

/-- Commands to the twin pair (R366 to R373, R371). -/
def Claim.TwinCommands : Prop :=
  ∀ (s : State) (p : Pkt),
    Claim.acts s p (.twinConfigSet p) 0x0141 .lease
      (p.len = 4 ∧ p.u 0 1 < 2 ∧ 10 ≤ p.u 2 2 ∧ p.u 2 2 ≤ 1000 ∧ (bit (p.u 0 1) 0 = s.rb .TWIN_CFG_ENABLE ∨ s.headIs .off = true))
      (fun u =>
        let v := (u.wb .TWIN_CFG_ENABLE 0 (bit (p.u 0 1) 0)).w .TWIN_CFG_EPS_MAX 0 (p.u 2 2)
        let v := if p.u 1 1 = 0 then v else v.w .TWIN_CFG_LATE_LIMIT 0 (p.u 1 1)
        ((v.saveFld .TWIN_CFG_ENABLE 0).saveFld .TWIN_CFG_EPS_MAX 0).saveFld .TWIN_CFG_LATE_LIMIT 0) ∧
    Claim.sets s p (.twinRoleSwap p) 0x0142 .lease
      (p.len = 4 ∧ p.u 0 4 < Config.cycleModulus ∧ (if p.port = .flue then s.isStandby else s.isActive) = true ∧ s.r .TWIN_STAT_SYNC = 2 ∧
        16 ≤ cycDiff (p.u 0 4) s.cycle ∧ cycDiff (p.u 0 4) s.cycle < 2 ^ 31 ∧ s.swapOpen = true)
      (fun u => (if u.rb .UPD_STAT_TWIN_HALF then u.fresh.2 else u).updTwin (fun t => { t with swapAt := some (p.u 0 4) })) ∧
    Claim.acts s p (.twinDetach p) 0x0143 .lease (p.len = 0 ∧ s.isStandby = true) State.detach ∧
    Claim.acts s p (.twinJoin p) 0x0144 .lease
      (p.len = 0 ∧ s.isStandby = true ∧ s.r .TWIN_STAT_SYNC = 3 ∧ s.twin.silent = false) State.joinLine

/-- The loop processor's commands (R129 to R147, R420): program words, descriptors, counters, posts, moves and the trace. -/
def Claim.GrateCommands : Prop :=
  ∀ (s : State) (p : Pkt),
    let g := p.u 0 1
    let i := p.u 2 2
    let b := slice p.params 4 32
    let old := s.desc g i
    let all := (Tbl.set [] s.descsLatest (g * 4096 + i) b).map (fun e => (e.1 / 4096, e.1 % 4096, e.2))
    Claim.sets s p (.loopProgWrite p) 0x0A01 .lease
      (p.len = 6 + 4 * p.u 4 2 ∧ g < 64 ∧ p.u 1 1 = 0 ∧ p.u 2 2 < 16384 ∧ p.u 2 2 + p.u 4 2 ≤ 16384 ∧ s.boundTo g = false)
      (fun u => (List.range (p.u 4 2)).foldl (fun v j => v.updCore g (fun x => { x with
        prog := Tbl.set 0 x.prog ((p.u 2 2 + j) ^^^ (u.bankOf g * 8192)) (BitVec.ofNat 32 (p.u (6 + 4 * j) 4)) })) u) ∧
    Claim.sets s p (.grateDescSet p) 0x0A10 .lease
      (p.len = 36 ∧ g < 4 ∧ p.u 1 1 = 0 ∧ i < 4096 ∧ descOk b = true ∧
        (s.worn (g * 16 + descCore b) = false ∨ (old ≠ [] ∧ descCore b = descCore old)) ∧
        (descEnabled b = true → ctrsApart s.closedMask all = true) ∧
        (∀ k, k < 8 → bit s.closedMask k = true → bit (descSmask b) k = true → s.dueFits (s.sched k) b = true) ∧
        (descEnabled b = true → descEnabled (s.descLatest g i) = false → s.cyclic = true → bit (descSmask b) s.mode = true →
          s.loadFits all s.mode (s.sched s.mode) = true) ∧
        (descEnabled old = true → s.modeInUse (descSmask old) = true → onlyArgEnable old b = true) ∧
        (descEnabled b = true → descDelayed b = true → delayedCount all g ≤ 1024))
      (fun u => { u with descsNext := Tbl.set [] u.descsNext (g * 4096 + i) b }) ∧
    Claim.reads s p (.grateDescGet p) 0x0A11 (p.len = 4 ∧ g < 4 ∧ p.u 1 1 = 0 ∧ i < 4096) (fun u => slice (u.desc g i) 0 32) ∧
    Claim.sets s p (.grateCounterSet p) 0x0A12 .lease
      (p.len = 6 ∧ g < 4 ∧ p.u 1 1 = 0 ∧ i < 1024 ∧
        ∀ d ∈ s.dieDescs g, descEnabled d.2 = true → descCtr d.2 = i → s.modeInUse (descSmask d.2) = false)
      (fun u => { u with reloadNext := Tbl.insert u.reloadNext (g * 1024 + i) (p.u 4 2) }) ∧
    Claim.sets s p (.grateArrivalSet p) 0x0A13 .lease
      (p.len = 4 + 4 * p.u 3 1 ∧ g < 8 ∧ (s.sched g).phase = 1 ∧ 1 ≤ p.u 1 1 ∧ p.u 1 1 ≤ 254 ∧ 1 ≤ p.u 2 1 ∧ p.u 2 1 ≤ 4 ∧ p.u 3 1 ≤ 4 ∧
        ∀ j, j < p.u 3 1 → p.u (5 + 4 * j) 1 = 0 ∧ p.u (4 + 4 * j) 1 < 4 ∧ p.u (6 + 4 * j) 2 < 1024)
      (fun u =>
        let entries := (List.range (p.u 3 1)).map (fun j => (p.u (4 + 4 * j) 1, p.u (6 + 4 * j) 2))
        { u with arrMap := Tbl.set [] u.arrMap ((g * 256 + p.u 1 1) * 8 + p.u 2 1) entries }) ∧
    Claim.acts s p (.gratePost p) 0x0A14 .lease
      (p.len = 4 ∧ g < 4 ∧ p.u 1 1 = 0 ∧ i < 4096 ∧ descSlot old = false ∧ descCtr old = 0xFFFF ∧ s.postRefused g i = false)
      (fun u => (u.post g i u.cycle).1) ∧
    Claim.sets s p (.grateMove p) 0x0A15 .lease
      (p.len = 12 ∧ g < 4 ∧ p.u 1 1 < 16 ∧ s.worn (g * 16 + p.u 1 1) = false ∧ i < 4096 ∧ zeroBytes p.params 6 2 = true ∧
        descSvbase old + 32 * p.u 4 2 ≤ 32768 ∧ p.u 8 4 < Config.cycleModulus ∧ 16 ≤ cycDiff (p.u 8 4) s.cycle ∧
        cycDiff (p.u 8 4) s.cycle < 2 ^ 31)
      (fun u => u.updGrate g (fun x => { x with moves := x.moves ++ [{ core := p.u 1 1, desc := i, lines := p.u 4 2, cycle := p.u 8 4 }] })) ∧
    Claim.sets s p (.grateTraceCfg p) 0x0A16 .lease
      (p.len = 8 ∧ g < 4 ∧ p.u 1 1 = 0 ∧ i < 2048 ∧ p.u 4 1 < 2 ∧ zeroBytes p.params 5 3 = true)
      (fun u => (u.w .GR_TRACE_CFG_EVMASK g i).w .GR_TRACE_CFG_ENABLE g (p.u 4 1)) ∧
    Claim.reads s p (.traceRead p) 0x0910 (p.len = 8 ∧ g < 4 ∧ p.u 1 1 = 0 ∧ i ≤ 254) (fun u => u.traceReply g (p.u 4 4) i) ∧
    Claim.reads s p (.sootRead p) 0x0901 (p.len = 8 ∧ p.u 0 1 ≤ 120 ∧ p.u 1 1 < 2 ∧ zeroBytes p.params 2 2 = true)
      (fun u => u.sootReply (p.u 1 1 != 0) (p.u 4 4) (p.u 0 1)) ∧
    -- The entries that a read finds begin at FIRST, or at the oldest one held, and none where FIRST is still to come.
    (∀ next held first : Nat, next < 2 ^ 32 → first < 2 ^ 32 → held ≤ 2 ^ 20 →
      (∀ back, 0 < back → back ≤ held → first = (next + 2 ^ 32 - back) % 2 ^ 32 → firstHeld next held first = (first, back)) ∧
      (∀ back, held < back → back ≤ 2 ^ 31 → first = (next + 2 ^ 32 - back) % 2 ^ 32 → 0 < held →
        firstHeld next held first = ((next + 2 ^ 32 - held) % 2 ^ 32, held)) ∧
      (firstHeld next held next = (next, 0)))

/-- The opcodes of the twin pair and of the Grate (Tables 5.8 and 13.5), and the histories. -/
def Obligations.TwinAndGrateCommands : Prop := Claim.TwinCommands ∧ Claim.GrateCommands

/-- Feedback and encoder-emulation commands (R161, R167, R170): records from the next tick, calibration sets stored, tracked and saved. -/
def Obligations.FeedbackCommands : Prop :=
  ∀ (s : State) (p : Pkt),
    let a := p.u 0 1
    let old := s.recLatest .fb a
    let b := [(13, 1), (34, 1), (35, 1), (54, 2), (56, 4)].foldl (fun r f => keepZero old r f.1 f.2) (slice p.params 4 64)
    let cal := slice p.params 4 48
    let emu := le 2 (p.u 2 2) ++ le 1 (p.u 1 1) ++ [0] ++ slice p.params 4 12
    Claim.sets s p (.fbConfigSet p) 0x0201 (.owns (decide (a < 128)) [a])
      (p.len = 68 ∧ zeroBytes p.params 1 3 = true ∧ fbOk b = true ∧ (fbGuardedSame old b = true ∨ s.fc a = 3 ∨ s.psInhibit a = true))
      (fun u => u.recNext .fb a b) ∧
    Claim.reads s p (.fbConfigGet p) 0x0202 (p.len = 1 ∧ a < 128) (fun u => u.cfg .fb a) ∧
    Claim.reads s p (.fbCalGet p) 0x0203 (p.len = 2 ∧ a < 128 ∧ p.u 1 1 < 2) (fun u => if p.u 1 1 = 0 then u.trackedCal a else u.cfg .cal a) ∧
    Claim.sets s p (.fbCalSet p) 0x0204 (.owns (decide (a < 128)) [a])
      (p.len = 52 ∧ p.u 1 1 < 2 ∧ zeroBytes p.params 2 2 = true ∧ calOk cal = true ∧ (s.fc a = 3 ∨ s.psInhibit a = true))
      (fun u => (((u.recNext .cal a cal).recNext .calTracked a cal).recFlash .cal a cal (bit (p.u 1 1) 0)).updFb a
        (fun x => { x with calFresh := false })) ∧
    Claim.sets s p (.fbCalSave p) 0x0205 (.owns (decide (a < 128)) [a]) (p.len = 2 ∧ p.u 1 1 < 2)
      (fun u => (u.recSet .cal a (u.trackedCal a)).recFlash .cal a (u.trackedCal a) (bit (p.u 1 1) 0)) ∧
    Claim.sets s p (.fbIndexRefSet p) 0x0207 (.owns (decide (a < 128)) [a])
      (p.len = 8 ∧ zeroBytes p.params 1 3 = true ∧ (p.u 4 4 = 0xFFFFFFFF ∨ p.u 4 4 < 1024 * s.fbLines a))
      (fun u => (u.recNext .fb a (patch (u.recLatest .fb a) 16 (le 4 (p.u 4 4)))).clearReferenced a) ∧
    Claim.sets s p (.emuConfigSet p) 0x0210 .lease
      (p.len = 16 ∧ a < 4 ∧ p.u 1 1 < 2 ∧ p.u 2 2 < 648 ∧ 1 ≤ p.u 6 2 ∧ 8 ≤ p.u 8 2 ∧ p.u 8 2 ≤ 8000 ∧ 1 ≤ p.u 10 2 ∧
        (p.u 4 2 = 0 ∨ p.u 12 4 < 4 * p.u 4 2))
      (fun u => u.recNext .emu a emu) ∧
    Claim.acts s p (.emuRestart p) 0x0212 .lease (p.len = 1 ∧ a < 4) (fun u => u.emuRestart a)

/-- Servo, motor and power-stage commands (R161, R187, R189, R192). -/
def Obligations.ServoCommands : Prop :=
  ∀ (s : State) (p : Pkt),
    let a := p.u 0 1
    let own : Need := .owns (decide (a < 128)) [a]
    let save := bit (p.u 1 1) 0
    let b64 := slice p.params 4 64
    let b32 := slice p.params 4 32
    let servo := [(1, 1), (2, 1), (14, 1), (42, 2)].foldl (fun r f => keepZero (s.recLatest .servo a) r f.1 f.2) b64
    let flag : Prop := p.u 1 1 < 2 ∧ zeroBytes p.params 2 2 = true
    let addr := p.u 1 1
    let was := s.cfg .servoBind a
    let bound := s.rb .SV_STAT_BOUND a
    let same := bound && fld was 0 1 == addr && fld was 1 1 == p.u 2 1 && fld was 2 1 == p.u 3 1 && fld was 4 2 == p.u 4 2
    Claim.sets s p (.servoBind p) 0x0220 .lease
      (p.len = 8 ∧ a < 128 ∧ addr ≤ 254 ∧ p.u 2 1 < 4 ∧ p.u 3 1 < 4 ∧ p.u 4 2 < 4096 ∧ p.u 6 1 < 2 ∧ p.u 7 1 = 0 ∧
        (addr ≠ 0 → s.claimed addr = true ∧ p.u 2 1 < fld (s.hnode addr).claim 23 1 ∧
          (s.servoAxis addr (p.u 2 1) = none ∨ s.servoAxis addr (p.u 2 1) = some a) ∧ s.descInUse (p.u 3 1) (p.u 4 2) = false) ∧
        (same = true ∨ (addr ≠ 0 ∧ bound = false) ∨ 3 ≤ s.fc a) ∧ (bound = true → s.descInUse (fld was 2 1) (fld was 4 2) = false))
      (fun u =>
        let v := if addr = 0 then (u.unbindServo a, RecKind.servoBind.dflt) else u.bindServo a addr (p.u 2 1) (p.u 3 1) (p.u 4 2)
        v.1.recFlash .servoBind a v.2 (bit (p.u 6 1) 0)) ∧
    Claim.sets s p (.servoConfigSet p) 0x0221 own
      (p.len = 68 ∧ flag ∧ servoOk servo = true ∧ s.dwellFitsAll a servo (s.recLatest .ps a) = true)
      (fun u => (u.recNext .servo a servo).recFlash .servo a servo save) ∧
    Claim.reads s p (.servoConfigGet p) 0x0222 (p.len = 1 ∧ a < 128) (fun u => u.cfg .servo a) ∧
    Claim.sets s p (.motorSet p) 0x0223 own (p.len = 68 ∧ flag ∧ motorOk b64 = true ∧ s.quiet a = true)
      (fun u => (((u.recNext .motor a b64).recNext .motorTracked a b64).recFlash .motor a b64 save).updFb a (fun x => { x with motFresh := false })) ∧
    Claim.reads s p (.motorGet p) 0x0224 (p.len = 2 ∧ a < 128 ∧ p.u 1 1 < 2) (fun u => if p.u 1 1 = 0 then u.trackedMotor a else u.cfg .motor a) ∧
    Claim.sets s p (.motorSave p) 0x0225 own (p.len = 2 ∧ p.u 1 1 < 2)
      (fun u => (u.recSet .motor a (u.trackedMotor a)).recFlash .motor a (u.trackedMotor a) save) ∧
    Claim.sets s p (.psConfigSet p) 0x0226 own
      (p.len = 36 ∧ flag ∧ psOk b32 = true ∧ s.npcAgrees a b32 = true ∧ s.dwellFitsAll a (s.recLatest .servo a) b32 = true ∧ s.quiet a = true)
      (fun u => (u.recNext .ps a b32).recFlash .ps a b32 save) ∧
    Claim.reads s p (.psConfigGet p) 0x0227 (p.len = 1 ∧ a < 128) (fun u => u.cfg .ps a) ∧
    (let len := p.u 1 1
     let entries := (List.range len).map (fun i => p.u (4 + 4 * i) 4)
     Claim.sets s p (.vtSet p) 0x0228 own
      (p.len = 228 ∧ zeroBytes p.params 2 2 = true ∧ 1 ≤ len ∧ len ≤ (if s.npc a then 27 else 8) ∧ entries.all (stateOk (s.npc a)) = true ∧
        allDistinct entries = true ∧ (∀ i, i < 96 → p.u (132 + i) 1 < len ∨ p.u (132 + i) 1 = 0xFF) ∧ s.quiet a = true)
      (fun u => ((u.recNext .vt a (slice p.params 4 128)).recNext .selMap a (slice p.params 132 96)).recNext .vtb0 a
        (le 4 (0x804180 + len * 2 ^ 24)))) ∧
    Claim.acts s p (.servoAlign p) 0x022A own
      (p.len = 1 ∧ s.fc a = 0 ∧ (s.fb a).still = true ∧ s.r .FB_STAT_COMM_STATE a = 0 ∧ s.linear a = false ∧ (s.servo a).align = none)
      (fun u => (u.updServo a (fun x => { x with align := some 0 })).wb .SV_STAT_ALIGNING a true)

/-- Motion commands of an axis (R213 to R242): what is asked of the axis, and what is queued for its next set-point. -/
def Obligations.MotionCommands : Prop :=
  ∀ (s : State) (p : Pkt),
    let a := p.u 0 2
    let own : Need := .owns (decide (a < 648)) [a]
    let own640 : Need := .owns (decide (a < 640)) [a]
    let flag : Prop := p.u 2 1 < 2 ∧ p.u 3 1 = 0
    let save := bit (p.u 2 1) 0
    let m := s.motion a
    let motion := [(1, 1), (2, 1), (28, 2), (30, 2)].foldl (fun r f => keepZero (s.recLatest .motion a) r f.1 f.2) (slice p.params 4 128)
    let target := if save then m.p + p.i 4 8 else p.i 4 8
    let follower := keepZero (s.recLatest .follower a) (slice p.params 4 64) 3 1
    let method := s.mou a 3 1
    Claim.sets s p (.motionConfigSet p) 0x0301 own (p.len = 132 ∧ flag ∧ s.motionOk a motion = true)
      (fun u => (u.recNext .motion a motion).recFlash .motion a motion save) ∧
    Claim.reads s p (.motionConfigGet p) 0x0302 (p.len = 2 ∧ a < 648) (fun u => u.cfg .motion a) ∧
    Claim.sets s p (.moveAbs p) 0x0310 own
      (p.len = 12 ∧ flag ∧ s.inSoft a target = true ∧ s.fc a = 0 ∧ s.freeToward a (target - m.p) = true ∧ s.profiled a = true)
      (fun u => u.queueMotion a (.moveAbs (p.i 4 8) save)) ∧
    Claim.sets s p (.moveVel p) 0x0311 own
      (p.len = 8 ∧ zeroBytes p.params 2 2 = true ∧ (p.i 4 4).natAbs ≤ s.mou a 4 4 ∧ s.fc a = 0 ∧ s.freeToward a (p.i 4 4) = true ∧
        s.profiled a = true)
      (fun u => u.queueMotion a (.moveVel (p.i 4 4))) ∧
    Claim.sets s p (.motionStop p) 0x0312 own (p.len = 4 ∧ flag ∧ s.profiled a = true) (fun u => u.queueMotion a (.stop (p.u 2 1 == 1))) ∧
    Claim.sets s p (.followConfigSet p) 0x0330 own640 (p.len = 68 ∧ flag ∧ followerOk a follower = true)
      (fun u => (u.recNext .follower a follower).recFlash .follower a follower save) ∧
    Claim.reads s p (.followConfigGet p) 0x0331 (p.len = 2 ∧ a < 640) (fun u => u.cfg .follower a) ∧
    Claim.sets s p (.followFactor p) 0x0332 own640
      (p.len = 16 ∧ zeroBytes p.params 2 2 = true ∧ s.fc a = 0 ∧
        s.freeToward a (p.i 4 4 * s.ri .follower a 4 4 * (s.vm (s.flu a 0 1)).entry.v) = true)
      (fun u => u.queueMotion a (.factor (p.i 4 4) (p.u 8 8))) ∧
    Claim.sets s p (.camStart p) 0x0342 own640 (p.len = 4 ∧ p.u 2 1 < 64 ∧ p.u 3 1 = 0 ∧ s.fc a = 0 ∧ s.masterPeriod a ≠ 0)
      (fun u => u.queueMotion a (.cam (p.u 2 1))) ∧
    Claim.sets s p (.homeStart p) 0x0350 own640
      (p.len = 2 ∧ ¬(method = 5 ∧ 128 ≤ a) ∧ ((method ≠ 0 ∨ bit (s.mou a 0 1) 1 = true) → s.fc a = 0) ∧ (method = 0 → m.v = 0 ∧ m.a = 0) ∧
        (method = 0 ∨ (method = 4 ∧ (m.input (s.homeInput a method)).active = true) ∨ s.freeToward a (s.hdir a) = true))
      (fun u => u.queueMotion a .home) ∧
    Claim.sets s p (.stepBind p) 0x0370 .lease
      (p.len = 8 ∧ 128 ≤ a ∧ a < 640 ∧ p.u 2 1 ≤ 254 ∧ p.u 3 1 < 4 ∧ p.u 4 2 < 512 ∧ p.u 6 2 < 4096 ∧ p.u 2 1 = 0 ∧
        3 ≤ s.fc a ∧ (fld (s.cfg .stepBind (a - 128)) 0 1 ≠ 0 →
          s.descInUse (fld (s.cfg .stepBind (a - 128)) 1 1) (fld (s.cfg .stepBind (a - 128)) 4 2) = false))
      (fun u => u.recSet .stepBind (a - 128) []) ∧
    (let addr := p.u 2 1
     let loc := p.u 4 2
     let desc := s.descLatest (p.u 3 1) (p.u 6 2)
     let was := s.cfg .stepBind (a - 128)
     let b := le 1 addr ++ le 1 (p.u 3 1) ++ le 2 loc ++ le 2 (p.u 6 2) ++ [0, 0]
     Claim.sets s p (.stepBind p) 0x0370 .lease
      (p.len = 8 ∧ 128 ≤ a ∧ a < 640 ∧ 1 ≤ addr ∧ addr ≤ 254 ∧ p.u 3 1 < 4 ∧ loc < 512 ∧ p.u 6 2 < 4096 ∧ s.claimed addr = true ∧
        loc < fld (s.hnode addr).claim 24 1 * fld (s.hnode addr).claim 25 1 ∧ descAddr desc = addr ∧ descType desc = 2 ∧
        s.stepPlace addr loc desc = true ∧ (s.stepAxis addr loc = none ∨ s.stepAxis addr loc = some a) ∧
        (fld was 0 1 = 0 ∨ was = b ∨ 3 ≤ s.fc a) ∧ (fld was 0 1 ≠ 0 → s.descInUse (fld was 1 1) (fld was 4 2) = false) ∧
        s.descInUse (p.u 3 1) (p.u 6 2) = false)
      (fun u => u.recSet .stepBind (a - 128) b)) ∧
    (let b := slice p.params 4 64
     Claim.sets s p (.stepConfigSet p) 0x0371 (.owns (decide (128 ≤ a) && decide (a < 640)) [a])
      (p.len = 68 ∧ flag ∧ stepperOk b = true ∧ s.stepFits a (s.recLatest .motion a) b = true ∧
        (stepModel (s.recLatest .stepper (a - 128)) b = true → 3 ≤ s.fc a ∨ bit (s.stepper (a - 128)).stat 3 = true))
      (fun u => (u.recNext .stepper (a - 128) b).recFlash .stepper (a - 128) b save)) ∧
    Claim.reads s p (.stepConfigGet p) 0x0372 (p.len = 2 ∧ 128 ≤ a ∧ a < 640) (fun u => u.cfg .stepper (a - 128))

/-- Virtual masters, cam tables and groups (R224, R225, R231, R239 to R241). -/
def Obligations.MasterCamAndGroupCommands : Prop :=
  ∀ (s : State) (p : Pkt),
    let v := p.u 0 1
    let t := timeOf (slice p.params 4 12)
    let b := slice p.params 4 16
    let ms := (s.group v).members
    let delta (i : Nat) : Int := p.i (16 + 8 * i) 8 - (s.motion (ms.getD i 0)).p
    Claim.sets s p (.vmConfigSet p) 0x0320 .lease
      (p.len = 20 ∧ v < 8 ∧ p.u 1 1 < 2 ∧ zeroBytes p.params 2 2 = true ∧ fld b 0 1 < 8 ∧ fld b 0 1 % 4 ≠ 3 ∧ fld b 1 1 < 4 ∧ fld b 2 2 < 4096 ∧
        descSlot (s.desc (fld b 1 1) (fld b 2 2)) = false ∧ fld b 4 2 < 640 ∧ zeroBytes b 6 2 = true ∧ s.follows v = false)
      (fun u => ((u.recNext .vm v b).recFlash .vm v b (bit (p.u 1 1) 0)).updVm v (fun x => { x with lost := false })) ∧
    (∀ at_, t = some at_ →
      Claim.sets s p (.vmPlantSet p) 0x0321 (.owns (decide (v < 8)) [640 + v])
        (p.len = 28 ∧ zeroBytes p.params 1 3 = true ∧ s.ru .vm v 0 1 % 4 = 1 ∧ s.plantNow ≤ at_)
        (fun u => u.updVm v (fun x => { x with t0 := t, p0 := p.i 16 8, v0 := u.speedOf (640 + v) (p.i 24 4), ramps := [] })) ∧
      (∀ t0, (s.vm v).t0 = some t0 →
        Claim.sets s p (.vmRamp p) 0x0322 (.owns (decide (v < 8)) [640 + v])
          (p.len = 20 ∧ zeroBytes p.params 1 3 = true ∧ s.ru .vm v 0 1 % 4 = 1 ∧ s.plantNow ≤ at_ ∧ (s.vm v).tail.2 ≤ at_ ∧ t0 ≤ at_)
          (fun u =>
            let goal := u.speedOf (640 + v) (p.i 16 4)
            let te := t.getD 0 + rampTime (u.limits (640 + v) false) (u.vm v).tail.1 goal
            u.updVm v (fun x => { x with ramps := x.ramps ++ [(t.getD 0, goal, te)] })))) ∧
    Claim.sets s p (.camDefine p) 0x0340 (.owns (decide (v < 64)) [0x340 + v])
      (p.len = 16 ∧ p.u 1 1 < 2 ∧ 1 ≤ p.u 2 2 ∧ p.u 2 2 ≤ 4096 ∧ zeroBytes p.params 4 4 = true ∧ s.camUsed v = false)
      (fun u =>
        let clear (m : SharedSram) : SharedSram :=
          { m with base := Tbl.keep (fun k => !(decide (camBase v ≤ k) && decide (k < camBase v + 0x4000))) m.base }
        { u with
          cams := Tbl.set {} u.cams v { size := p.u 2 2, oneShot := bit (p.u 1 1) 0, rise := p.i 8 8 }
          sram := [0, 1, 2, 3].foldl (fun m g => Tbl.modify {} m g clear) u.sram }) ∧
    Claim.sets s p (.camPoints p) 0x0341 (.owns (decide (v < 64)) [0x340 + v])
      (p.len = 8 + 4 * p.u 4 2 ∧ p.u 1 1 = 0 ∧ p.u 4 2 ≤ 1000 ∧ zeroBytes p.params 6 2 = true ∧ p.u 2 2 + p.u 4 2 ≤ (s.cam v).size ∧
        s.camUsed v = false)
      (fun u =>
        let put (m : SharedSram) : SharedSram := { m with base := m.base.writeN (camBase v + 4 * p.u 2 2) (slice p.params 8 (4 * p.u 4 2)) }
        let point (c : Tbl Int) : Tbl Int := (List.range (p.u 4 2)).foldl (fun x i => Tbl.set 0 x (p.u 2 2 + i) (p.i (8 + 4 * i) 4)) c
        { u with
          cams := Tbl.modify {} u.cams v (fun c => { c with points := point c.points })
          sram := [0, 1, 2, 3].foldl (fun m g => Tbl.modify {} m g put) u.sram }) ∧
    (let axes := (List.range (p.u 1 1)).map (fun i => p.u (8 + 2 * i) 2)
     Claim.sets s p (.groupDefine p) 0x0360 .lease
      (p.len = 8 + 2 * p.u 1 1 ∧ v < 32 ∧ p.u 1 1 ≤ 16 ∧ p.u 2 1 < 4 ∧ p.u 3 1 = 0 ∧ p.u 4 2 < 4096 ∧ zeroBytes p.params 6 2 = true ∧
        (∀ a ∈ axes, a < 640 ∧ (s.groupOf a = none ∨ s.groupOf a = some v) ∧ (s.axisDie a = none ∨ s.axisDie a = some (p.u 2 1))) ∧
        distinct axes = true ∧ s.rb .GRP_STAT_MOVING v = false)
      (fun u =>
        let w := u.updGroup v (fun _ => if p.u 1 1 = 0 then {} else { members := axes, die := p.u 2 1, desc := p.u 4 2 })
        ((w.w .GRP_STAT_MEMBERS v (2 ^ p.u 1 1 - 1)).w .GRP_STAT_LEAD v 0).w .GRP_S_S v 0)) ∧
    Claim.sets s p (.groupMove p) 0x0361 (.owns (decide (v < 32)) ((0x300 + v) :: ms))
      (p.len = 16 + 8 * ms.length ∧ zeroBytes p.params 1 3 = true ∧
        (∀ i, i < ms.length → s.inSoft (ms.getD i 0) (p.i (16 + 8 * i) 8) = true) ∧ s.groupReady v = true ∧
        ∀ i, i < ms.length → s.freeToward (ms.getD i 0) (delta i) = true)
      (fun u =>
        let lead := leadOf ((List.range ms.length).map (fun i => (delta i, s.mou (ms.getD i 0) 4 4 * s.lsbPerU (ms.getD i 0) / 65536)))
        let w := (List.range ms.length).foldl (fun x i =>
          (x.updMotion (ms.getD i 0) (fun m => { m with groupStart := m.p, groupDelta := delta i })).queueMotion (ms.getD i 0) (.group v)) u
        (((w.groupLimits v lead (p.u 4 4) (p.u 8 4) (p.u 12 4)).w .GRP_STAT_LEAD v lead).wb .GRP_STAT_MOVING v true).w .GRP_S_S v 0) ∧
    Claim.sets s p (.groupStop p) 0x0362 (.owns (decide (v < 32)) [0x300 + v]) (p.len = 1)
      (fun u => if u.rb .GRP_STAT_MOVING v = true then u.updGroup v (fun x => { x with stopping := true }) else u)

/-- Recording and converter commands (R251 to R272). -/
def Claim.AcquisitionCommands : Prop :=
  ∀ (s : State) (p : Pkt),
    let r := p.u 0 1
    let own : Need := .owns (decide (r < 32)) [0x400 + r]
    let b := slice p.params 4 64
    let adc := slice p.params 0 20
    let cfg := fun k => if k = r then adc else s.cfg .adc k
    Claim.ok s p (.recConfigSet p) 0x0401 own none true false
      (p.len = 68 ∧ zeroBytes p.params 1 3 = true ∧ acqOk b = true ∧ s.acqLoop r 33 b = false ∧ s.acqSum (s.cfg .adc) (some (r, b)) ≤ 6400 ∧
        s.acqAlloc (r, b) ≤ 16777216 ∧ s.acqRuns r = false)
      (fun u =>
        let rate := acqRate (s.cfg .adc) b
        let v := (u.recSet .acq r b).updAcq r (fun _ => { configured := true, rate := rate })
        let v := ((v.w .REC_SEQ_SEQ r 0xFFFFFFFF).w .REC_TRIG_SEQ_SEQ r 0xFFFFFFFF).wb .REC_STAT_PRE_SHORT r false
        let v := ((v.w .REC_STAT_STATE r 0).w .REC_STAT_CAUSE r 0).w .ACQ_BW_USED 0 (v.acqSum (s.cfg .adc) none)
        let v := v.w .ACQ_AREA_ALLOC 0 (v.acqAlloc (r, b))
        let v := v.fresh.2.w .ACQ_WIN_FIRST r (v.fresh.1 % (16777217 - acqLength b))
        (v, le 2 rate ++ le 2 (v.r .ACQ_BW_USED))) ∧
    Claim.reads s p (.recConfigGet p) 0x0402 (p.len = 1 ∧ r < 32) (fun u => u.cfg .acq r) ∧
    Claim.sets s p (.recStart p) 0x0403 own (p.len = 1 ∧ (s.acq r).configured = true ∧ s.acqRuns r = false)
      (fun u =>
        let b := u.cfg .acq r
        let opens := acqIkind b == 0 || acqIkind b == 1
        let v := u.updAcq r (fun x => { ({ configured := true, rate := x.rate } : AcqRec) with
          cur := if opens then some { tStart := u.now 1, cut := acqIkind b == 0 } else none })
        let v := ((v.w .REC_SEQ_SEQ r 0xFFFFFFFF).w .REC_TRIG_SEQ_SEQ r 0xFFFFFFFF).w .REC_STAT_CAUSE r 0
        (v.wb .REC_STAT_PRE_SHORT r false).w .REC_STAT_STATE r (if acqSingle b then 2 else 1)) ∧
    Claim.sets s p (.recStop p) 0x0404 own (p.len = 1) (fun u => u.acqStop r 1) ∧
    Claim.sets s p (.recTrigger p) 0x0405 own (p.len = 1) (fun u => State.offer 32 u r (u.now 1)) ∧
    Claim.reads s p (.recRead p) 0x0406 (p.len = 8 ∧ r < 32 ∧ zeroBytes p.params 1 1 = true ∧ p.u 2 2 ≤ 63) (fun u =>
      let x := u.acq r
      let len := acqLength (u.cfg .acq r)
      let first := min x.seq (max (p.u 4 4) (x.seq - len))
      let k := min (p.u 2 2) (x.seq - first)
      le 4 first ++ le 2 k ++ [0, 0] ++ (List.range k).flatMap (fun i => slice (Tbl.get [] x.buf ((first + i) % len)) 0 64)) ∧
    Claim.sets s p (.adcConfigSet p) 0x0410 .lease
      (p.len = 20 ∧ adcOk adc = true ∧ s.acqSum cfg none ≤ 6400 ∧ ¬(r = 1 ∧ s.interleaved = true))
      (fun u =>
        let newRef := u.r .ADC_STAT_REF r != fld adc 2 1
        let v := (u.recSet .adc r adc).updConv r (fun x => { x with scanPos := 0, count := 0 })
        let v := ((v.w .ADC_STAT_REF r (fld adc 2 1)).w .ADC_STAT_INTERLEAVED r (fld adc 3 1)).w .ADC_STAT_START r (fld adc 1 1)
        let v := v.w .ADC_RATE_RATE r (convRate adc)
        let v := if newRef then (v.wb .ADC_STAT_SETTLED r false).updConv r (fun x => { x with refSince := v.now0 }) else v
        let v := (List.range 32).foldl (fun x n =>
          if (x.acq n).configured then x.updAcq n (fun y => { y with rate := acqRate cfg (x.cfg .acq n) }) else x) v
        v.w .ACQ_BW_USED 0 (v.acqSum cfg none)) ∧
    Claim.sets s p (.adcCalSet p) 0x0411 .lease
      (p.len = 12 ∧ r < 2 ∧ p.u 1 1 ≤ 11 ∧ p.u 2 1 < 2 ∧ zeroBytes p.params 3 1 = true ∧ 0x8000 ≤ p.u 8 4 ∧ p.u 8 4 ≤ 0x20000)
      (fun u => (u.recSet .adcCal (r * 16 + p.u 1 1) (slice p.params 4 8)).recFlash .adcCal (r * 16 + p.u 1 1) (slice p.params 4 8)
        (bit (p.u 2 1) 0))

/-- Time commands (R278 to R298): bases, Bellows, capture and pulse pins, and the precision-time ports. -/
def Obligations.TimeCommands : Prop :=
  ∀ (s : State) (p : Pkt),
    let t := p.u 0 1
    let at_ := timeOf (slice p.params 4 12)
    let step : Int := (s.tb t).value + p.i 4 8 * (2 ^ 32 : Nat)
    let bel := keepZero (s.cfg .bellows t) (slice p.params 4 20) 2 2
    let bellows : Need := .owns (t = 2 || t = 3) [0x51E + t]
    let fl := p.u 3 1
    let tin := le 1 (p.u 1 1) ++ le 1 (p.u 2 1) ++ le 1 (fl % 2) ++ [0] ++ slice p.params 4 8
    let tout := le 1 (p.u 1 1) ++ le 1 (p.u 2 1) ++ le 1 (fl % 2) ++ [0] ++ slice p.params 4 32
    let ptp := le 1 (p.u 1 1 % 4) ++ [0, 0, 0] ++ slice p.params 4 8
    let frame := slice p.params 8 (p.u 4 2)
    let o := (ptpOffset frame).getD 0
    let ty := octet frame o % 16
    let ts := bit (p.u 1 1) 0
    Claim.reads s p (.timeGet p) 0x0501 (p.len = 0) (fun u => (List.range 4).flatMap (fun k => timeBytes (u.now k) ++ le 4 (u.tbStat k))) ∧
    Claim.sets s p (.timeSet p) 0x0502 (baseNeed t) (p.len = 16 ∧ zeroBytes p.params 1 3 = true ∧ at_.isSome = true ∧ s.tbRing t = false)
      (fun u => u.stepBase t (at_.getD 0 * 2 ^ 32) 0) ∧
    Claim.sets s p (.timeStep p) 0x0503 (baseNeed t)
      (p.len = 12 ∧ zeroBytes p.params 1 3 = true ∧ 0 ≤ step ∧ step < (timeTop * 2 ^ 32 : Nat) ∧ s.tbRing t = false)
      (fun u => if p.i 4 8 = 0 then u else u.stepBase t ((u.tb t).value + p.i 4 8 * (2 ^ 32 : Nat)).toNat 1) ∧
    Claim.sets s p (.timeIncSet p) 0x0504 (baseNeed t)
      (p.len = 12 ∧ zeroBytes p.params 1 3 = true ∧ incOk (p.u 4 8) = true ∧ s.tbRing t = false ∧ s.tbBellows t = false)
      (fun u => u.updTb t (fun b => { b with inc := p.u 4 8 })) ∧
    Claim.sets s p (.bellowsConfigSet p) 0x0505 bellows
      (p.len = 24 ∧ p.u 1 1 < 2 ∧ zeroBytes p.params 2 2 = true ∧ fld bel 0 1 < 4 ∧ zeroBytes bel 1 1 = true ∧ 1 ≤ fld bel 12 4 ∧
        fld bel 12 4 ≤ 1000000)
      (fun u =>
        let v := (u.recSet .bellows t bel).recFlash .bellows t bel (bit (p.u 1 1) 0)
        if bit (fld bel 0 1) 0 then
          if v.tbBellows t then v
          else (v.w .TB_STAT_MODE t 1).updTb t
            (fun x => { x with incBase := x.inc, phi := 0, rho := 0, firstFeed := true, lastActive := v.now0 })
        else (v.w .TB_STAT_MODE t 0).wb .TB_STAT_HOLDOVER t false) ∧
    Claim.ok s p (.bellowsFeed p) 0x0506 bellows none true false
      (p.len = 24 ∧ zeroBytes p.params 1 3 = true ∧ (timeOf (slice p.params 12 12)).isSome = true ∧ s.tbBellows t = true)
      (fun u =>
        let x := u.bellowsFeed t (p.i 4 8) ((timeOf (slice p.params 12 12)).getD 0)
        (x.1, le 1 x.2)) ∧
    Claim.sets s p (.tinConfigSet p) 0x0510 (.owns (decide (t < 8)) [0x500 + t])
      (p.len = 12 ∧ p.u 1 1 < 4 ∧ p.u 2 1 < 4 ∧ fl < 4 ∧ (bit fl 0 = true → p.u 1 1 = 2 ∨ p.u 1 1 = 3))
      (fun u =>
        let v := ((u.recSet .tin t tin).recFlash .tin t tin (bit fl 1)).updTin t (fun _ => {})
        ((v.w .TIN_STAT_TB t (p.u 1 1)).w .TIN_STAT_EDGE t (p.u 2 1)).wb .TIN_STAT_FEED t (bit fl 0)) ∧
    Claim.ok s p (.tinCaptureGet p) 0x0511 (.owns (decide (t < 8)) [0x500 + t]) none false false (p.len = 2 ∧ p.u 1 1 ≤ 8)
      (fun u =>
        let out := (u.tin t).queue.take (p.u 1 1)
        (u.updTin t (fun x => { x with queue := x.queue.drop (p.u 1 1) }), le 1 out.length ++ [0, 0, 0] ++ out.flatMap Capture.bytes)) ∧
    Claim.sets s p (.toutConfigSet p) 0x0512 (.owns (decide (t < 8)) [0x508 + t])
      (p.len = 36 ∧ p.u 1 1 < 3 ∧ p.u 2 1 < 4 ∧ fl < 4 ∧ zeroBytes p.params 34 2 = true ∧ at_.isSome = true ∧ 1 ≤ p.u 24 4 ∧
        (p.u 1 1 = 2 → 1 ≤ p.u 32 2) ∧ (p.u 1 1 = 1 → 2 ≤ p.u 28 4 → p.u 24 4 * 81920 < p.u 16 8) ∧
        (p.u 1 1 = 1 → p.u 28 4 = 1 → s.now (p.u 2 1) ≤ toutStart tout))
      (fun u => (u.toutConfig t tout).recFlash .tout t tout (bit fl 1)) ∧
    Claim.sets s p (.toutStop p) 0x0513 (.owns (decide (t < 8)) [0x508 + t]) (p.len = 1) (fun u => u.toutConfig t (u.toutIdle t)) ∧
    Claim.sets s p (.ptpConfigSet p) 0x0520 .lease (p.len = 12 ∧ t < 2 ∧ p.u 1 1 < 8 ∧ zeroBytes p.params 2 2 = true)
      (fun u =>
        let v := (u.recSet .ptp t ptp).recFlash .ptp t ptp (bit (p.u 1 1) 2)
        let v := (((v.wb .PTP_STAT_ENABLE t (bit (p.u 1 1) 0)).wb .PTP_STAT_TB3 t (bit (p.u 1 1) 1)).w .PTP_TXADJ_ADJ t (p.u 4 4)).w
          .PTP_RXADJ_ADJ t (p.u 8 4)
        if bit (p.u 1 1) 0 then v else v.ptpUnbind t) ∧
    Claim.acts s p (.ptpBind p) 0x0521 .nothing
      (p.len = 2 ∧ t < 2 ∧ p.u 1 1 < 2 ∧ s.rb .PTP_STAT_ENABLE t = true ∧
        (s.ptpOwned t p.ctx = true ∨ (p.u 1 1 = 1 ∧ s.rb .PTP_STAT_BOUND t = false)))
      (fun u => if p.u 1 1 = 1 then (u.wb .PTP_STAT_BOUND t true).w .PTP_STAT_OWNER t p.ctx else u.ptpUnbind t) ∧
    Claim.acts s p (.ptpTx p) 0x0522 (.ptp t)
      (p.len = 8 + p.u 4 2 ∧ p.u 1 1 < 2 ∧ 60 ≤ p.u 4 2 ∧ p.u 4 2 ≤ 1514 ∧ zeroBytes p.params 6 2 = true ∧ s.ptpOwned t p.ctx = true ∧
        (ts = true → (ptpOffset frame).isSome = true ∧ ty ≤ 3 ∧ (ty = 0 ∨ ty = 3 → bit (octet frame (o + 6)) 1 = true) ∧
          (s.ptp t).entries.length < 16))
      (fun u => u.updPtp t (fun x =>
        let e : TxEntry := { id := p.u 2 2, seqId := be16 frame (o + 30), msgType := ty, since := u.now0 }
        { x with txFrames := x.txFrames ++ [(frame, ts)], entries := if ts then x.entries ++ [e] else x.entries })) ∧
    Claim.ok s p (.ptpTxtsGet p) 0x0523 (.ptp t) none false false (p.len = 2 ∧ p.u 1 1 ≤ 16 ∧ s.ptpOwned t p.ctx = true)
      (fun u =>
        let out := ((u.ptp t).entries.takeWhile TxEntry.done).take (p.u 1 1)
        (u.updPtp t (fun x => { x with entries := x.entries.drop out.length }), le 1 out.length ++ [0, 0, 0] ++ out.flatMap TxEntry.bytes))

/-- Field-channel commands (R301 to R312). -/
def Claim.FieldCommands : Prop :=
  ∀ (s : State) (p : Pkt),
    let c := p.u 0 1
    let b := s.fieldRecord p
    let m := p.u 0 4
    let v := p.u 4 4
    Claim.sets s p (.fieldConfigSet p) 0x0601 (.owns (decide (c < 24)) [chanRes c])
      (p.len = 20 ∧ p.u 1 1 < 2 ∧ zeroBytes p.params 2 2 = true ∧ fld b 0 1 < 4 ∧ 10 ≤ fld b 4 2 ∧ fld b 4 2 ≤ 10000 ∧ 50 ≤ fld b 6 2 ∧
        fld b 6 2 ≤ 1000 ∧ fld b 10 1 < 24 ∧ (fld b 11 1 = 0 ∨ fld b 11 1 = 2) ∧ fld b 12 2 < 640 ∧ zeroBytes b 14 2 = true ∧
        fieldFlagsFit (fld b 0 1) (fld b 1 1) = true ∧
        (bit (fld b 1 1) 6 = true → s.ru .field (fld b 10 1) 0 1 = 3 ∧ s.chFlag (fld b 10 1) 4 = true) ∧ s.rb .FIO_CH_STAT_OWNER c = false ∧
        (bit (fld b 1 1) 2 = true → s.chFlag c 2 = false → s.axesNaming c = []))
      (fun u => (u.fieldSet c b).recFlash .field c b (bit (p.u 1 1) 0)) ∧
    Claim.reads s p (.fieldConfigGet p) 0x0602 (p.len = 1 ∧ c < 24) (fun u => u.cfg .field c) ∧
    Claim.acts s p (.fieldOutSet p) 0x0603 (.owns (decide (m < 2 ^ 24)) ((maskChans m).map chanRes))
      (p.len = 8 ∧ ∀ k ∈ maskChans m, s.ru .field k 0 1 = 3 ∧ s.rb .FIO_CH_STAT_OWNER k = false)
      (fun u => (maskChans m).foldl (fun x k =>
        let y := x.updChan k (fun z => { z with host := bit v k && !(x.ru .field k 11 1 == 2 && decide (3 ≤ x.fc (x.ru .field k 12 2))) })
        if bit v k then y.drive k else y.driveOff k) u) ∧
    Claim.ok s p (.fieldOutClear p) 0x0604 (.owns (decide (c < 24)) [chanRes c]) none false false
      (p.len = 1 ∧ s.rb .FIO_CH_STAT_OWNER c = false)
      (fun u => if u.rb .FIO_CH_STAT_LATCHED c = true then
        ((((u.wb .FIO_CH_STAT_LATCHED c false).w .FIO_CH_STAT_FAULT c 0).updChan c (fun x => { x with faults := [], pulse := none })).drive c, [])
      else (u, []))

/-- A safety command (R323, R348): SAF sees the block with the end of the caller's session held off. -/
def Claim.safe (s : State) (p : Pkt) (i : Instr) (op : Nat) (cond : Prop) (eff : State → State × List Byte) : Prop :=
  Claim.ok s p i op .nothing none false true cond (fun u => eff (u.safeTouch p.ctx))

/-- A command that writes a record of the edit copy, within the caller's session (R349). -/
def Claim.edits (s : State) (p : Pkt) (i : Instr) (op : Nat) (cond : Prop) (key : Nat) (rec_ : State → List Byte) : Prop :=
  Claim.safe s p i op (cond ∧ s.inSession p.ctx = true) (fun u => ({ u with safeEdit := Tbl.set [] u.safeEdit key (rec_ u) }, []))

/-- The safety commands (R323, R339, R343, R348 to R351, R356). -/
def Obligations.SafetyCommands : Prop :=
  ∀ (s : State) (p : Pkt),
    let k := p.u 0 1
    let b8 := slice p.params 4 8
    let b16 := slice p.params 4 16
    let b48 := slice p.params 4 48
    let z : Prop := zeroBytes p.params 1 3 = true
    Claim.safe s p (.safeStatusGet p) 0x0701 (p.len = 0) (fun u =>
      let x := u.readRegs p.ctx 0xD0000 6
      let y := x.2.readRegs p.ctx 0xD0100 32
      (y.2, x.1 ++ y.1)) ∧
    Claim.safe s p (.safeConnStatusGet p) 0x0702 (p.len = 2 ∧ p.u 1 1 ≤ 128 ∧ k + p.u 1 1 ≤ 256)
      (fun u => ((u.readRegs p.ctx (0xD0200 + 16 * k) (4 * p.u 1 1)).2, (u.readRegs p.ctx (0xD0200 + 16 * k) (4 * p.u 1 1)).1)) ∧
    Claim.safe s p (.safeLogGet p) 0x0703 (p.len = 8 ∧ k ≤ 64 ∧ z) (fun u =>
      let l := (u.safeLog.filter (fun e => decide (p.u 4 4 ≤ fld e 0 4))).take k
      (u, le 1 l.length ++ [0, 0, 0] ++ l.flatten)) ∧
    Claim.safe s p (.safeSetGet p) 0x0704 (p.len = 8 ∧ k < 2 ∧ p.u 1 1 = 0 ∧ p.u 2 2 ≤ 4000 ∧ p.u 4 4 + p.u 2 2 ≤ 17600) (fun u =>
      (u, if k = 0 ∧ !u.rb .SAF_STAT_CONFIG_VALID then le (p.u 2 2) 0
        else slice (safImage (if k = 0 then u.safeSet else u.safeEdit)) (p.u 4 4) (p.u 2 2))) ∧
    Claim.safe s p (.safeLogin p) 0x0710
      (p.len = 4 + k ∧ k ≤ 32 ∧ z ∧ s.rb .SAF_STAT_SESSION = false ∧ s.rb .SAF_STAT_LOCKOUT = false ∧ s.passwordOk (slice p.params 4 k) = true)
      (fun u => ({ (u.wb .SAF_STAT_SESSION 0 true).w .SAF_STAT_SESSION_CTX 0 p.ctx with
        safeEdit := u.safeSet, safeFails := 0, safeLast := u.clk }, [])) ∧
    Claim.safe s p (.safeLogout p) 0x0711 (p.len = 0) (fun u => (u.safeEnd p.ctx, [])) ∧
    Claim.safe s p (.safePasswordSet p) 0x0712 (p.len = 4 + k ∧ 8 ≤ k ∧ k ≤ 32 ∧ z ∧ s.inSession p.ctx = true) (fun u =>
      let salt := le 16 u.fresh.1
      ({ u.fresh.2 with
        safeEdit := Tbl.set [] u.fresh.2.safeEdit 1280 (salt ++ slice (Config.sha384 (salt ++ slice p.params 4 k)) 0 48) }, [])) ∧
    Claim.edits s p (.safeConnSet p) 0x0720 (p.len = 20 ∧ z ∧ connRecOk b16 = true) k (fun _ => b16) ∧
    Claim.edits s p (.safeAxisSet p) 0x0721
      (p.len = 52 ∧ z ∧ axisRecOk (fld (safeGet s.safeEdit k) 1 1 == 2) b48 = true ∧ outsApart (Tbl.set [] s.safeEdit (256 + k) b48) = true)
      (256 + k) (fun _ => b48) ∧
    Claim.edits s p (.safeSignalSet p) 0x0722 (p.len = 12 ∧ k < 64 ∧ z ∧ sigRecOk b8 = true) (512 + k) (fun _ => b8) ∧
    Claim.edits s p (.safeZoneSet p) 0x0723
      (p.len = 12 ∧ k < 32 ∧ z ∧ zoneRecOk b8 = true ∧ outsApart (Tbl.set [] s.safeEdit (768 + k) b8) = true) (768 + k) (fun _ => b8) ∧
    Claim.edits s p (.safeChannelSet p) 0x0724
      (p.len = 20 ∧ k < 24 ∧ z ∧ chanRecOk b16 = true ∧ (zeroBytes b16 0 16 = true ∨
        (s.owner (chanRes k) = none ∧ (s.rb .FIO_CH_STAT_OWNER k = true ∨ s.chMode k = 0)))) (1024 + k)
      (fun u => if zeroBytes b16 0 16 then [] else
        [(2, 1), (3, 1), (4, 2), (6, 2), (8, 2)].foldl (fun x f => keepZero (u.cfg .field k) x f.1 f.2) b16) ∧
    Claim.safe s p (.safeCommit p) 0x0730 (p.len = 4 ∧ s.commitFails p.ctx (p.u 0 4) = none) (fun u =>
      let v := u.safeCommit p.ctx
      (v, le 2 (v.r .SAF_STAT_VERSION) ++ [0, 0] ++ le 4 (v.r .SAF_CRC_CRC))) ∧
    Claim.safe s p (.safeDiscard p) 0x0731 (p.len = 0 ∧ s.inSession p.ctx = true) (fun u => ({ u with safeEdit := u.safeSet }, [])) ∧
    Claim.safe s p (.safeFuncReq p) 0x0740 (p.len = 4 ∧ p.u 1 1 < 64 ∧ p.u 2 1 < 64 ∧ p.u 3 1 = 0 ∧ s.isSafeAxis k = true)
      (fun u => (u.updSafConn k (fun x => { x with req := (x.req &&& (63 - p.u 1 1)) ||| (p.u 2 1 &&& p.u 1 1) }), []))

/-- An update command (R408, R416): it needs the UPDATE right and, outside Recovery, the configuration lease. -/
def Claim.upd (s : State) (p : Pkt) (i : Instr) (op : Nat) (cond : Prop) (eff : State → State) : Prop :=
  Claim.ok s p i op (if s.recovering then .nothing else .lease) (some 2) true false cond (fun u => (eff u, []))

/-- The update commands (R408 to R425): what a package does on its way from BEGIN to CONFIRM, and what ABORT takes back. -/
def Claim.UpdateCommands : Prop :=
  ∀ (s : State) (p : Pkt),
    let key := slice p.params 0 97
    let m := p.params.drop 100
    let now := s.update.manifest
    let k := p.u 0 1
    let c := p.u 0 4
    let again := s.r .UPD_STAT_STATE == 3
    Claim.upd s p (.updateBegin p) 0x0801
      (192 ≤ m.length ∧ zeroBytes p.params 97 3 = true ∧ m.length = mfLen m ∧ mfOk m = true ∧ s.r .UPD_STAT_STATE = 0 ∧ s.mfSigned key m = true ∧
        s.mfCompatible m = true ∧ ∀ e ∈ mfCarried m, s.belowLimit (partType e) (partVersion e) = false)
      (fun u => (((u.w .UPD_STAT_STATE 0 1).w .UPD_STAT_CTX 0 (pktContext p)).w .UPD_CFG_LOSSY 0 0).updUpdate (fun _ => { manifest := m, key := key })) ∧
    Claim.upd s p (.updateData p) 0x0802
      (8 ≤ p.len ∧ zeroBytes p.params 1 3 = true ∧ s.inUpdate p [1] = true ∧ k < mfParts now ∧
        p.u 4 4 + (p.params.drop 8).length ≤ partLen (mfEntry now k))
      (fun u => u.updUpdate (fun x => { x with staged := Tbl.modify [] x.staged k (fun l => l ++ [(p.u 4 4, p.params.drop 8)]) })) ∧
    Claim.upd s p (.updateVerify p) 0x0803
      (p.len = 0 ∧ s.inUpdate p [1] = true ∧ Config.cryptoCheck 1 (slice now 24 60 ++ slice now 0 24) = true ∧
        (∀ i ∈ s.carriedIdx, s.partHolds i = true) ∧
        ∀ i ∈ s.carriedIdx, liveEntry (mfEntry now i) = true → ∀ n, n < 64 → (Config.imageWords (s.partImage i) n).length ≤ 8192)
      (fun u =>
        let v := u.carriedIdx.foldl (fun x i =>
          let e := mfEntry x.update.manifest i
          let slot := 1 - x.fwIn (partType e)
          let y := x.setFwSlot (partType e) slot
            { state := 2, version := partVersion e, image := x.partImage i, counter := (x.fwSlot (partType e) slot).counter + 1 }
          if liveEntry e then y.loadImage (x.partImage i) (fun n => 1 - y.bankOf n) else y) u
        (v.w .UPD_STAT_STATE 0 2).updUpdate (fun x => { x with staged := [] })) ∧
    Claim.upd s p (.updateActivate p) 0x0804
      (p.len = 8 ∧ zeroBytes p.params 6 2 = true ∧ s.inUpdate p [2, 3] = true ∧ (again = true → s.rb .UPD_STAT_TWIN_HALF = true) ∧
        s.r .UPD_CYCLE_CYCLE = 0xFFFFFFFF ∧ s.update.fall = none ∧
        (s.cyclic = true → c < Config.cycleModulus ∧ 16 ≤ cycDiff c s.cycle ∧ cycDiff c s.cycle < 2 ^ 31) ∧
        (again = true ∨ mfKind now = 0 ∨ ∀ t, t < 4 → (s.fwSlot t (s.fwIn t)).state ≠ 2) ∧
        (again = true ∨ (mfCarried now).any (fun e => partType e == 3 && !partLive e) = false ∨
          ∀ n ∈ imageCores (s.fwOther 3).image, s.coreQuiet n = true) ∧
        (s.carriesSaf = true → s.safAlone = false ∨ s.update.safDone = true ∨ ∀ z, z < 32 → s.rb .SAF_ZONE_SHUT z = true))
      (fun u =>
        let v := u.updUpdate (fun x => { x with confirmS := p.u 4 2 })
        if v.cyclic then v.w .UPD_CYCLE_CYCLE 0 c else v.activate) ∧
    Claim.upd s p (.updateConfirm p) 0x0805
      (p.len = 0 ∧ s.inUpdate p [3] = true ∧ s.rb .UPD_STAT_TWIN_HALF = false ∧ s.update.fall = none)
      (fun u =>
        let v := (mfCarried u.update.manifest).foldl (fun x e =>
          let t := partType e
          let n := x.fwVersion t / 2 ^ 24
          if partBurn e && decide (x.rollLimit t < n) then
            x.blow .antiRollback 0 (x.fuse .antiRollback - x.rollLimit t * 256 ^ t + n * 256 ^ t) else x) u
        let v := [0, 1, 2, 3].foldl (fun x t => if (x.fwSlot t (x.fwIn t)).state = 2 then
          x.setFwSlot t (x.fwIn t) { x.fwSlot t (x.fwIn t) with state := 1 } else x) v
        { v.discardUpdate with oldArea := none }.raise .updateConfirmed) ∧
    Claim.ok s p (.updateAbort p) 0x0806 (if s.recovering then .nothing else .lease) (some 2) true false
      (p.len = 0 ∧ s.inUpdate p [1, 2, 3] = true)
      (fun u =>
        if u.r .UPD_STAT_STATE = 3 then (u.fallBack 1, [])
        else (if u.r .UPD_CYCLE_CYCLE != 0xFFFFFFFF && u.tickDue (u.r .UPD_CYCLE_CYCLE) then
          (u.discardUpdate.w .UPD_STAT_RESULT 0 1).raise .updateFallback else u.discardUpdate, []))

/-- Power and reset commands (R428 to R436): the reply leaves before a change starts, and a change of domains is answered when every
domain has reached its state. -/
def Claim.PowerCommands : Prop :=
  ∀ (s u : State) (p : Pkt) (n : Nat),
    let st := p.u 0 1
    let at_ := timeOf (slice p.params 4 12)
    let mask := p.u 0 2
    let value := p.u 2 2
    let dflt := bit (p.u 4 1) 0
    let off (d : Nat) : Prop := bit mask d = true ∧ bit value d = false
    let moves := ((List.range 12).filter (fun d => bit mask d && bit value d != bit (s.r .PWR_DOM_ON) d)).map (fun d => (d, bit value d))
    (Carries s p false false u n → u.recovering = false → u.holdsLease n = true →
      p.len = 8 → p.u 0 1 < 2 → p.u 1 1 < 2 → zeroBytes p.params 2 2 = true → p.u 4 4 = 0xD128 →
        (p.u 0 1 = 1 ∨ s.headIs .off = true ∨ bit (p.u 1 1) 0 = true) →
          let v := u.answer p n 0x0022 .ok []
          exec (.deviceReset p) s = .next (if p.u 0 1 = 0 then v.warm 2 else v.hmpRestart false)) ∧
    (Carries s p false false u n → u.recovering = false → u.holdsLease n = true →
      p.len = 16 → st < 3 → p.u 1 1 < 4 → zeroBytes p.params 2 2 = true →
        (bit (p.u 1 1) 1 = true → at_.isSome = true ∧ (st = 0 ∨ s.now0 + msT 10 ≤ at_.getD 0)) →
        s.rb .PWR_STAT_CHANGING = false → (st = 0 ∨ s.headIs .off = true) →
          let v := u.answer p n 0x0020 .ok []
          exec (.powerStateSet p) s = .next (
            if st = v.r .PWR_STAT_STATE then v
            else
              let w := if st = 0 then v else (List.range 32).foldl (fun t r => t.acqStop r 1) v
              (w.wb .PWR_STAT_CHANGING 0 true).updPower
                (fun q => { q with target := some st, wake := p.u 1 1, wakeAt := at_.getD 0, woke := false }))) ∧
    (Carries s p dflt false u n → u.recovering = false → u.holdsLease n = true → (dflt = true → u.open_ p) →
      p.len = 8 → mask &&& 0xF603 = 0 → p.u 4 1 < 2 → zeroBytes p.params 5 3 = true →
        s.rb .PWR_STAT_CHANGING = false → s.power.doms = [] → (off 2 ∨ off 3 ∧ s.rb .TWIN_CFG_ENABLE = true → s.headIs .off = true) →
        (off 4 → p.ctx = 6) → (∀ g, g < 4 → off (5 + g) → ∀ d ∈ s.dieDescs g, descEnabled d.2 = false) →
        (off 11 → (∀ c, c < 24 → s.rb .FIO_CH_STAT_OWNER c = false ∧ s.chMode c = 0) ∧ s.ru .adc 0 1 1 = 0 ∧ s.ru .adc 1 1 1 = 0) →
          let v := if dflt then u.w .PWR_CFG_RUN_ON 0 ((u.r .PWR_CFG_RUN_ON &&& (0xFFFF ^^^ mask)) ||| (value &&& mask)) else u
          (moves = [] → exec (.powerDomainSet p) s = .next (v.answer p n 0x0021 .ok [])) ∧
          (moves ≠ [] → exec (.powerDomainSet p) s = .next
            ((v.updPower (fun q => { q with doms := moves, mask := mask, waiter := some p })).updCtx n (fun x => { x with busy := true }))))

/-- The opcodes of acquisition and of the field channels (Tables 9.13 and 11.6). -/
def Obligations.AcquisitionAndFieldCommands : Prop := Claim.AcquisitionCommands ∧ Claim.FieldCommands

/-- The opcodes of the update and of power (Tables 15.6 and 16.9). -/
def Obligations.UpdateAndPowerCommands : Prop := Claim.UpdateCommands ∧ Claim.PowerCommands

/-! The ring (R14 to R93): ticks, departures, arrivals, kindling. -/

/-- Ticks (R14, R61, R63, R79, R81, R82): the next tick of a cyclic ring, of the start of one, and of a kindling; a stop at a tick; the decision
of a switch four frames ahead, and the tick at which it takes effect; the arming of a start mode; the end of the input lag. -/
def Obligations.TicksAndSwitches : Prop :=
  ∀ (s : State),
    s.nextCycle = (s.cycle + 1) % Config.cycleModulus ∧
    (s.cyclic = true → s.head.stopping = false → exec .tick s = .next (s.tickTo s.nextCycle s.period)) ∧
    (s.cyclic = true → s.head.stopping = true → exec .tick s = .next s.goOff) ∧
    (s.goOff.cyclic = false ∧ s.goOff.headIs .off = true ∧ s.goOff.head.stopping = false ∧ s.goOff.rb .SW_STAT_ARMED = false) ∧
    (s.cyclic = false → s.startDue = true → exec .tick s = .next (s.tickTo s.head.kCycle 25000)) ∧
    (s.kindles = true → s.head.stopping = false → s.startDue = false → exec .kindlingTick s = .next s.kindleTo) ∧
    (s.kindles = true → s.head.stopping = true → exec .kindlingTick s = .next s.goOff) ∧
    (∀ d, d = (if s.cyclic then s.nextCycle else s.head.kCycle) → (s.cyclic = true ∨ s.kindles = true) →
      s.rb .SW_STAT_ARMED = true → s.head.armFrame.isSome = true → s.head.decided = false → cycDiff (s.r .SW_CYCLE_CYCLE) d ≤ 4 →
        (s.missingAck d = none → exec .switchDecision s = .next (s.updHead (fun h => { h with decided := true }))) ∧
        (∀ a, s.missingAck d = some a → exec .switchDecision s = .next (s.dropSwitch 3 a))) ∧
    (s.cyclic = true → s.head.stopping = false → s.rb .SW_STAT_ARMED = true → s.head.decided = true →
      s.r .SW_CYCLE_CYCLE = s.nextCycle →
        exec .switchTick s = .next (s.tickTo s.nextCycle s.period)) ∧
    (s.headIs .rollCall = true → 64 ≤ s.head.rollFrames → 256 ≤ s.head.cleanRun → s.rb .SW_STAT_ARMED = true → s.head.armFrame = none →
      (s.sched (s.r .SW_STAT_NEXT_SM)).noFit = false →
        exec .rollCallComplete s = .next (s.updHead (fun h => { h with armFrame := some h.kCycle }))) ∧
    (s.rb .RING_STAT_BROKEN = true → 4096 ≤ s.head.loopFree → s.rb .RING_STAT_LINK_A = true → s.rb .RING_STAT_LINK_B = true →
      exec .inputLagEnd s = .next (s.updHead (fun h => { h with lagEnd := true }))) ∧
    (∀ (p p2 : Nat), 0 < p → 0 < p2 → p2 % p = 0 →
      ∀ fuel c tb, tb % p = 0 → p2 ≤ p * fuel →
        ∃ k, k < fuel ∧ (tb + k * p) % p2 = 0 ∧ (∀ j, j < k → (tb + j * p) % p2 ≠ 0) ∧
          (c < Config.cycleModulus → switchTick p p2 fuel c tb = (c + k) % Config.cycleModulus))

/-- Departures and commits (R21, R22, R24, R121, R145, R146): a segment of the frame in progress leaves once its time has come; a task that has
ended commits before its cutoff and not after; what a cutoff finds it cuts. -/
def Obligations.DeparturesAndCommits : Prop :=
  (∀ (s : State) (i : Nat) (g : Seg), s.cyclic = true → (s.sched s.mode).segs[i]? = some g → s.head.departed.contains i = false →
    s.departure g ≤ s.sinceTick s.cycle * 125 →
      exec (.segmentDeparture i) s = .next (s.depart i g)) ∧
  (∀ (s : State) (i : Nat), s.head.departed.contains i = true → exec (.segmentDeparture i) s = .next s) ∧
  (∀ (s : State) (n : Fin 64) (t : Task) (std : Bool), (s.core n.val).task = some t → (std = true ∨ (s.core n.val).ended = true) →
    ((s.sinceTick t.cycle : Int) < s.cutoffOf t.bytes t.cycle → exec (.taskCommit n std) s = .next (s.commitTask n.val t std)) ∧
    (s.cutoffOf t.bytes t.cycle ≤ (s.sinceTick t.cycle : Int) → exec (.taskCommit n std) s = .next s)) ∧
  (∀ (s : State) (g : Fin 4) (i : Fin 4096), s.cyclic = true →
    exec (.slotCutoff g i) s =
      .next ((s.cutoff g.val i.val ((s.cycle + (Config.cycleModulus - 1)) % Config.cycleModulus)).cutoff g.val i.val s.cycle)) ∧
  (∀ (s : State) (g i c k : Nat) (t : Task), k < 16 → (s.core (g * 16 + k)).task = some t → t.desc = i → t.cycle = c →
    s.cutoffOf (s.desc g i) c ≤ (s.sinceTick c : Int) →
    (∀ j, j < k → ∀ u, (s.core (g * 16 + j)).task = some u → ¬(u.desc = i ∧ u.cycle = c)) →
      s.cutoff g i c = s.cutRunning (g * 16 + k) t) ∧
  (∀ (s : State) (g i c : Nat) (e : ReadyEntry), (∀ k, k < 16 → ∀ t, (s.core (g * 16 + k)).task = some t → ¬(t.desc = i ∧ t.cycle = c)) →
    (s.grate g).ready.find? (fun x => x.desc == i && x.cycle == c) = some e → s.cutoffOf (s.desc g i) c ≤ (s.sinceTick c : Int) →
      s.cutoff g i c = s.cutReady g e)

/-- What comes back from the ring (R22, R57, R70, R73, R74, R76, R93): frames with a bad header and stale ones are counted, an accepted segment is
taken once and a second copy is counted, the oldest message of a node is acted upon, and the timers of nodes act when they are due. -/
def Obligations.ReturnsAndNodeTimers : Prop :=
  (∀ (s : State) (port : Fin 2) (h : FrameHdr) (arrival : Nat), (s.cyclic = true ∨ s.kindles = true) →
    ((h.hcrcOk = false ∨ s.onTheWay h.cycle = false) → exec (.frameReturn port h arrival) s = .next (s.inc .PORT_HDR_ERR_COUNT port.val)) ∧
    (h.hcrcOk = true → s.onTheWay h.cycle = true → s.cyclic = true → s.inTime h.cycle = false →
      exec (.frameReturn port h arrival) s = .next (s.inc .PORT_STALE_COUNT port.val)) ∧
    (h.hcrcOk = true → s.onTheWay h.cycle = true → (s.cyclic = false ∨ s.inTime h.cycle = true) →
      exec (.frameReturn port h arrival) s = .next (s.acceptFrame port.val h arrival))) ∧
  (∀ (s : State) (port : Fin 2) (c : SegCopy) (g : Seg), s.onTheWay c.cycle = true → (s.cyclic = false ∨ s.inTime c.cycle = true) →
    s.copySeg c = some g → g.ty ≠ 5 →
      let old := Tbl.get {} s.segIn (g.addr * 8 + g.ty)
      (c.crcOk = false → g.addr ≠ 0 → exec (.segmentArrival port c) s = .next (s.inc .NODE_ERR_CRC_ERR g.addr)) ∧
      (c.crcOk = true → bit c.ulf 0 = false → exec (.segmentArrival port c) s = .next s) ∧
      (c.crcOk = true → bit c.ulf 0 = true → old.stamp ≠ c.cycle + 1 → exec (.segmentArrival port c) s = .next (s.acceptSegment g c)) ∧
      (c.crcOk = true → bit c.ulf 0 = true → old.stamp = c.cycle + 1 → g.ty ≠ 4 →
        exec (.segmentArrival port c) s =
          .next ({ s with segIn := Tbl.set {} s.segIn (g.addr * 8 + g.ty) { old with copies := 2 } }.inc .NODE_ERR_DUP g.addr))) ∧
  (∀ (s : State) (a : Fin 255) (m : List Byte) (rest : List (List Byte)), (s.hnode a.val).box.inbox = m :: rest →
    let v := s.updHnode a.val (fun h => { h with box := { h.box with inbox := rest } })
    let body := slice m 4 (fld m 2 2)
    let does (t : State) : Prop := exec (.mailboxMessageRx a) s = .next t
    (fld m 0 1 = 0x82 → does (v.identAnswer a.val body)) ∧ (fld m 0 1 = 0x90 → fld body 0 1 < 8 → does (v.preloadAck a.val (fld body 0 1) (fld body 1 1))) ∧
    (fld m 0 1 = 0x93 → fld body 0 4 ≠ 0x80000000 → does (v.heardDelta a.val (fldI body 0 4))) ∧
    (fld m 0 1 = 0x93 → fld body 0 4 = 0x80000000 → does v) ∧
    (fld m 0 1 = 0xFF → does (v.tunnelled a.val (fld body 0 1) m)) ∧
    (0xC0 ≤ fld m 0 1 → fld m 0 1 ≠ 0xFF → does (v.tunnelled a.val (fld m 0 1 - 0x80) m))) ∧
  (∀ (s : State) (a : Fin 255), (s.hnode a.val).asking = true → 64 ≤ (s.hnode a.val).mailTurns →
    let fixed : Bool := match s.mapEntry a.val with | some e => e.fixed | none => false
    exec (.identTimeout a) s = .next (
      ((((if fixed then s else s.setMap a.val none).updHnode a.val (fun x => { x with
        asking := false, claim := [], back := false, mailTurns := 0, box := { outq := [{ svc := 0x1F, body := [] }], awaiting := x.box.awaiting } })).w
          .NODE_STATE_PRESENCE a.val (if fixed then 3 else 0)).countNodes.showPreloaded))) ∧
  (∀ (s : State) (a : Fin 255) (e : Nat × Int × Int), (s.hnode a.val).confirmed = true → (s.hnode a.val).started = false →
    (s.hnode a.val).delta = none → 64 ≤ (s.hnode a.val).mailTurns →
    s.oldDelay.find? (fun e => e.1 == identKey (claimVendor (s.hnode a.val).claim) (claimSerial (s.hnode a.val).claim)) = some e →
      exec (.deltaTimeout a) s = .next ((s.updHnode a.val (fun x => { x with pdX := e.2.1, pdY := e.2.2 })).preloadNode a.val)) ∧
  (∀ (s : State) (a : Fin 255), (s.hnode a.val).confirmed = true → (s.hnode a.val).started = false →
    (s.hnode a.val).delta = none → 64 ≤ (s.hnode a.val).mailTurns →
    s.oldDelay.find? (fun e => e.1 == identKey (claimVendor (s.hnode a.val).claim) (claimSerial (s.hnode a.val).claim)) = none →
      let half := s.freeDiv ((s.r .RK_LOOP_L : Int) - claimFwd (s.hnode a.val).claim * 4096) 2
      exec (.deltaTimeout a) s = .next ((half.2.updHnode a.val (fun y => { y with pdX := half.1, pdY := half.1 })).preloadNode a.val)) ∧
  (∀ (s : State) (a : Fin 255), s.cyclic = true → s.r .NODE_STATE_PRESENCE a.val = 1 →
    exec (.delayPoll a) s = .next ((s.updHnode a.val (fun h => { h with asked := s.now0 })).mail a.val 0x13 [])) ∧
  (∀ (s : State) (a : Fin 255), s.r .NODE_STATE_PRESENCE a.val = 1 → 1024 ≤ (s.hnode a.val).gone → s.rb .SW_STAT_ARMED = false →
    Gives (.nodeGone a) s (fun t => t.r .NODE_STATE_PRESENCE a.val = 2 ∧ t.rb .SW_STAT_ARMED = false ∧
      t = ((s.w .NODE_STATE_PRESENCE a.val 2).countNodes.showPreloaded).raise .nodeGone 0xFF 2 a.val (claimBody (s.hnode a.val).claim))) ∧
  (∀ (s : State) (a : Fin 255), (s.hnode a.val).dropped = true → s.r .TK_DRIFT_READMIT ≤ (s.hnode a.val).readmit →
    exec (.keeperReadmit a) s = .next ((s.updHnode a.val (fun h => { h with dropped := false, readmit := 0 })).showKeepers))

/-- R62 whole: the listen time is 2,000 us and SERIAL mod 1,024 us, between 2,000 and 3,023 us, and a head that listens kindles when that time
has passed since it began and not before. -/
def Obligations.ListenTime : Prop :=
  ∀ (s : State),
    s.listenUs = 2000 + s.fuse .serial % 1024 ∧ 2000 ≤ s.listenUs ∧ s.listenUs ≤ 3023 ∧
    (s.headIs .listen = true → s.head.since + usT s.listenUs ≤ s.now0 →
      Gives .listenTimeout s (fun t => t.headIs .kindle = true ∧ t.head.since = s.now0)) ∧
    (s.now0 < s.head.since + usT s.listenUs → exec .listenTimeout s = .next s)

/-- Links and kindling (R34, R61, R64 to R66): a port goes down and comes up; another head's frame makes a head yield, kindle or count it; the
topology found after 2 ms decides whether roll call begins. -/
def Obligations.LinksAndKindling : Prop :=
  (∀ (s : State) (p : Fin 2) (hi : Bool),
    let v := if hi then s.inc .PORT_HIBER_COUNT p.val else s
    (v.rb (linkFld p.val) = true →
      exec (.portLinkDown p hi) s = .next ((v.wb (linkFld p.val) 0 false).inc .PORT_LINK_DOWN_COUNT p.val)) ∧
    (v.rb (linkFld p.val) = false → exec (.portLinkDown p hi) s = .next v) ∧
    exec (.portLinkUp p) s = .next (s.wb (linkFld p.val) 0 true)) ∧
  (∀ (s : State) (p : Fin 2) (h : FrameHdr) (k : HeadRank),
    let rx (t : State) : Prop := exec (.kindlingFrameRx p h k) s = .next t
    (h.hcrcOk = false → (s.cyclic = true ∨ s.kindles = true) → rx (s.inc .PORT_HDR_ERR_COUNT p.val)) ∧
    (h.hcrcOk = true → k.serial = s.fuse .serial → rx s) ∧
    (h.hcrcOk = true → k.serial ≠ s.fuse .serial → (s.headIs .listen = true ∨ s.headIs .kindle = true) →
      (bit h.flags 2 = false ∨ s.outranked k = true) →
        (s.r .RK_CFG_TOPO ≠ 2 → Gives (.kindlingFrameRx p h k) s (fun t => t.headIs .conflict = true)) ∧
        (s.r .RK_CFG_TOPO = 2 → rx (((((s.hearPartner h.src k).enterHead .follow).w .RING_STAT_TOPO 0 2).stepBase 1 (k.tb1 * 2 ^ 32) 3).joinLine))) ∧
    (h.hcrcOk = true → k.serial ≠ s.fuse .serial → bit h.flags 2 = true → s.outranked k = false →
      (s.headIs .listen = true → rx (s.hearPartner h.src k).goKindle) ∧ (s.headIs .kindle = true → rx (s.hearPartner h.src k))) ∧
    (h.hcrcOk = true → k.serial ≠ s.fuse .serial → (s.headIs .rollCall = true ∨ s.headIs .cyclic = true) →
      rx (s.inc .PORT_DROPPED_COUNT p.val))) ∧
  (∀ (s : State), s.headIs .kindle = true → s.head.since + msT 2 ≤ s.now0 →
    let found (t : Fin 3) : State := s.w .RING_STAT_TOPO 0 t.val
    exec (.kindleComplete 0) s = .next (found 0) ∧
    (∀ t : Fin 3, t ≠ 0 → t.val ≠ s.r .RK_CFG_TOPO →
      (s.head.mismatch = true → exec (.kindleComplete t) s = .next (found t)) ∧
      (s.head.mismatch = false →
        exec (.kindleComplete t) s = .next (((found t).updHead (fun h => { h with mismatch := true })).raise .ringTopoMismatch))) ∧
    (s.r .RK_CFG_TOPO = 1 →
      exec (.kindleComplete 1) s = .next ((found 1).updHead (fun h => { h with mismatch := false })).goRollCall) ∧
    (s.r .RK_CFG_TOPO = 2 → s.head.partnerHeard = true →
      exec (.kindleComplete 2) s = .next
        (((((found 2).updHead (fun h => { h with mismatch := false })).w .TWIN_STAT_ROLE 0 1).w .TWIN_STAT_SYNC 0 1).goRollCall))) ∧
  (∀ (s : State), s.headIs .kindle = true → s.r .RK_CFG_TOPO = 2 → s.head.partnerHeard = false → s.head.mismatch = false → s.head.noPartner = false →
    s.head.since + msT 2 ≤ s.now0 →
      exec .noPartnerTimeout s = .next ((s.updHead (fun h => { h with noPartner := true })).raise .ringNoPartner))

/-! Nodes of the ring, as the head meets them (R16, R17, R38, R40, R52 to R56, R66, R76 to R93, R151, R200 to R205, R329 to R336). -/

/-- A node's frames and instants (R38, R40, R52 to R56, R66, R83, R86 to R92). -/
def Obligations.NodeFramesAndInstants : Prop :=
  (∀ (s : State) (u : Nat) (p : Fin 2) (c : NodeCopy),
    let rx (t : State) : Prop := exec (.nodeFrameRx u p c) s = .next t
    (c.clanor = false → rx (s.updNode u (fun x => { x with replaced := countUp x.replaced }))) ∧
    (c.clanor = true → bit c.hdr.flags 1 = true → (s.node u).looping.contains (1 - p.val) = true →
      rx (s.updNode u (fun x => { x with replaced := countUp x.replaced }))) ∧
    (c.clanor = true → bit c.hdr.flags 1 = true → (s.node u).looping.contains (1 - p.val) = false → rx s) ∧
    (c.clanor = true → bit c.hdr.flags 1 = false → (c.hdr.hcrcOk = false ∨ c.hdr.ver ≠ 2) →
      rx (s.updNode u (fun x => { x with hdrErr := countUp x.hdrErr }))) ∧
    (c.clanor = true → bit c.hdr.flags 1 = false → c.hdr.hcrcOk = true → c.hdr.ver = 2 →
      let v := s.updNode u (Node.accept s.clk p.val c)
      let y := (v.node u).follow c.hdr
      let mails (w : State) : State := c.mails.foldl (fun t m => t.updNode u (Node.mail c.hdr.cycle (bit c.hdr.flags 2) m)) w
      (bit c.hdr.flags 2 = true → rx (mails (v.updNode u (fun x => { x with armed := y.1.armed })))) ∧
      (bit c.hdr.flags 2 = false → y.2 = false → rx (mails (v.updNode u (fun _ => y.1)))) ∧
      (bit c.hdr.flags 2 = false → y.2 = true →
        rx (mails (c.segs.foldl (fun t g => t.nodeSeg u c.hdr.cycle g) (v.updNode u (fun _ => y.1))))))) ∧
  -- R66: the better of two kindlings is followed, by PRIO and then by SERIAL.
  (∀ (s : State) (u cycle prio serial : Nat),
    ((s.node u).cyclic = true ∨ (s.node u).timedOut = true ∨ (s.node u).fresh = true ∨ (s.node u).better prio serial = true →
      exec (.nodeKindlingAccept u cycle prio serial) s = .next (s.updNode u (Node.kindled cycle prio serial))) ∧
    ((s.node u).cyclic = false → (s.node u).timedOut = false → (s.node u).fresh = false → (s.node u).better prio serial = false →
      exec (.nodeKindlingAccept u cycle prio serial) s = .next s)) ∧
  (∀ (s : State) (u : Nat) (p : Fin 2),
    Gives (.nodeLoopBack u p) s (fun t => (t.node u).looping.contains p.val = true ∧ ∀ v, v ≠ u → t.node v = s.node v) ∧
    Gives (.nodeLoopEnd u p) s (fun t => (t.node u).looping.contains p.val = false ∧ ∀ v, v ≠ u → t.node v = s.node v)) ∧
  -- T_in samples every segment's uplink in the layout that is in force from then on; T_out latches every segment, and every stepper turns.
  (∀ (s : State) (u n : Nat) (inputs safe : List (Nat × List Byte)),
    Gives (.nodeTinSample u n inputs safe) s (fun t => (t.node u).sampledAt = some n ∧
      ∀ k, (Tbl.get {} (t.node u).blocks k).idx = false)) ∧
  (∀ (s : State) (u n : Nat),
    exec (.nodeToutLatch u n) s = .next (s.updNode u (fun x =>
      let y := { x with latches := x.latches + 1, steps := x.steps.map (fun (e : Nat × NodeStep) => (e.1, { e.2 with rot := e.2.rot + e.2.dang })) }
      let y := (preloadSegs (y.layoutOf n)).foldl (fun z g => z.latch n g) y
      { y with steps := Tbl.canon {} y.steps, blocks := Tbl.canon {} y.blocks }))) ∧
  -- R200: a transition drives the legs to its state, unless no command is in force that has one or its energy is removed.
  (∀ (s : State) (u : Nat) (k : Fin 4) (second : Bool),
    exec (.nodeTransition u k second) s = .next (s.updNode u (fun x => { x with blocks := Tbl.modify {} x.blocks k.val (fun b =>
      if b.cmd = [] ∨ fld b.cmd 2 2 / 4096 % 4 < (if second then 2 else 1) ∨ x.stoOf k.val = true then b
      else b.drive x.threeLevel (fld b.cmd (if second then 4 else 2) 2 % 4096)) }))) ∧
  (∀ (s : State) (u ty i : Nat) (limit : Bool),
    let r := (s.node u).react ty
    let does (f : Node → Node) : Prop := exec (.nodeEmptyHoldEnd u ty i limit) s = .next (s.updNode u f)
    (ty = 1 → does (fun x => { x with blocks := Tbl.modify {} x.blocks i (fun b => if b.empties ≠ 0 ∧ (r.2 ≤ b.empties ∨ limit) then b.off else b) })) ∧
    (ty = 2 → does (fun x => { x with steps := Tbl.modify {} x.steps i (fun e =>
      if r.1 = 0 ∧ e.empties ≠ 0 ∧ r.2 ≤ e.empties then { e with dang := 0 } else e) })) ∧
    (ty = 3 → does (fun x => if r.1 = 1 ∧ x.ioEmpties ≠ 0 ∧ r.2 ≤ x.ioEmpties then { x with out := List.replicate x.out.length 0 } else x))) ∧
  -- R87: the longer of 1 ms and 8 periods without an accepted frame.
  (∀ (s : State) (u : Nat),
    ((s.node u).frameClk + max 800000 (64 * (s.node u).period) ≤ s.clk →
      exec (.nodeFrameTimeout u) s = .next (s.updNode u (fun x =>
        let y := { x with timedOut := true }.timeoutOutputs
        { y with steps := Tbl.canon {} y.steps, blocks := Tbl.canon {} y.blocks }))) ∧
    (s.clk < (s.node u).frameClk + max 800000 (64 * (s.node u).period) → exec (.nodeFrameTimeout u) s = .next s))

/-- One service of a node's mailbox (R76): the oldest message is of the service, and `f` of the node answers it. -/
def Claim.service (s : State) (u svc : Nat) (c : Instr) (f : Node → Node) : Prop :=
  ((s.node u).asked svc = true → exec c s = .next (s.updNode u f)) ∧ ((s.node u).asked svc = false → exec c s = .next s)

/-- A node's mailbox services and its safety part (R76 to R78, R85, R329 to R336). -/
def Obligations.NodeServicesAndSafety : Prop :=
  ∀ (s : State) (u : Nat),
    Claim.service s u 0x02 (.identReq u) (fun x => x.answer 0x82 (x.claim.drop 1)) ∧
    Claim.service s u 0x10 (.preload u) (fun x =>
      let r := x.preloadResult x.body
      let y := if r = 0 then
        { x with preloads := Tbl.set [] x.preloads (fld x.body 0 1) x.body, pdNext := some (fldI x.body 16 4, fldI x.body 20 4) } else x
      y.answer 0x90 (le 1 (fld x.body 0 1) ++ le 1 r)) ∧
    Claim.service s u 0x11 (.unload u) (fun x => { x with preloads := Tbl.set [] x.preloads (fld x.body 0 1) [] }.answer 0x91 []) ∧
    Claim.service s u 0x12 (.emptyCfg u) (fun x => { x with empties := Tbl.set [] x.empties (fld x.body 0 1) x.body }.answer 0x92 []) ∧
    Claim.service s u 0x13 (.delay u) (fun x => x.answer 0x93 (leInt 4 (x.delta.getD (-0x80000000)) ++ slice x.decl 15 2)) ∧
    Claim.service s u 0x14 (.pdelaySet u) (fun x => { x with pdNext := some (fldI x.body 0 4, fldI x.body 4 4) }.answer 0x94 []) ∧
    Claim.service s u 0x15 (.counters u) (fun x =>
      x.answer 0x95 (le 4 x.emptyRx ++ le 4 x.noCopy ++ le 4 x.hdrErr ++ le 4 x.segErr ++ le 4 x.dups ++ le 4 x.replaced)) ∧
    Claim.service s u 0x1F (.mailboxRelease u) (fun x =>
      { x.discard with releasing := x.addr, blocks := Tbl.canon {} x.discard.blocks, steps := Tbl.canon {} x.discard.steps }.answer 0x9F []) ∧
    (∀ m rest, (s.node u).box.inbox = m :: rest → knownService (fld m 0 1) = false →
      exec (.unknownService u) s = .next (s.updNode u (fun x => x.answer 0xFF (le 1 (fld m 0 1))))) ∧
    (∀ (place : Nat) (b : List Byte),
      let p := Tbl.get {} (s.node u).safe place
      (p.kind ≠ 0 → b.length = 12 → fld b 8 4 = crcReflected 0xC8DF352F (le 4 p.connId ++ slice b 0 8) →
        exec (.nodeSafeContainerRx u place b) s = .next (s.fresh.2.updNode u (fun x =>
          { x with safe := Tbl.modify {} x.safe place (NodeSafe.down s.clk s.fresh.1 b) }.enforceSto place))) ∧
      ((p.kind = 0 ∨ b.length ≠ 12 ∨ fld b 8 4 ≠ crcReflected 0xC8DF352F (le 4 p.connId ++ slice b 0 8)) →
        exec (.nodeSafeContainerRx u place b) s = .next s)) ∧
    (∀ (place : Nat),
      let p := Tbl.get {} (s.node u).safe place
      p.kind ≠ 0 → p.adopted = true → (p.state = 1 ∨ p.state = 2) → p.heardAt + p.swd * 8000 ≤ s.clk →
        exec (.nodeSafeWatchdog u place) s = .next (s.updNode u (fun x =>
          { x with safe := Tbl.modify {} x.safe place NodeSafe.fail }.enforceSto place))) ∧
    -- R332 and R333: a safety part that fails is in its safe state, and so is one that starts again.
    (∀ (x : NodeSafe), x.fail.state = 3 ∧ x.fail.sto = true ∧ x.fail.brake = true) ∧
    (∀ (x : NodeSafe) (clk seq : Nat) (b : List Byte), bit (fld b 2 1) 0 = true → x.state ≠ 1 →
      (x.down clk seq b).state = 1 ∧ (x.down clk seq b).sto = true ∧ (x.down clk seq b).brake = true)

/-- A node's power stage (R151, R203 to R205): what its own protections and its index latch do to a block, and to no other node. -/
def Obligations.NodePowerStage : Prop :=
  (∀ (s : State) (u : Nat) (k : Fin 4) (leg : Fin 3) (after : W16),
    let x := s.node u
    let v := s.updBlock u k.val (fun b => { b.holdLeg x.threeLevel (2 ^ leg.val) with
      desat := b.desat ||| 2 ^ leg.val, desatT := if b.desat = 0 then after.toNat else b.desatT })
    let v := v.updNode u (fun y => { y with desatAt := some (y.latches, k.val, leg.val) })
    (∀ l b g, x.desatAt = some (l, b, g) → x.latches ≤ l + 1 → ¬(b = k.val ∧ g = leg.val) →
      exec (.nodeDesatDetect u k leg after) s = .next
        (v.updNode u (fun y => { y with blocks := y.blocks.map (fun (e : Nat × NodeBlock) => (e.1, e.2.holdLeg x.threeLevel 7)) }))) ∧
    ((∀ l b g, x.desatAt = some (l, b, g) → l + 1 < x.latches ∨ (b = k.val ∧ g = leg.val)) →
      exec (.nodeDesatDetect u k leg after) s = .next v)) ∧
  (∀ (s : State) (u : Nat) (k : Fin 4) (leg : Fin 3),
    exec (.nodeGateUndervolt u k leg) s = .next (s.updBlock u k.val (fun b =>
      { b.holdLeg (s.node u).threeLevel (2 ^ leg.val) with uv := b.uv ||| 2 ^ leg.val })) ∧
    Gives (.nodeGateSupplyRecover u k leg) s (fun t =>
      let b := Tbl.get {} (s.node u).blocks k.val
      Tbl.get {} (t.node u).blocks k.val = { b with uv := setBit b.uv leg.val false } ∧ ∀ v, v ≠ u → t.node v = s.node v)) ∧
  (∀ (s : State) (u : Nat) (k : Fin 4) (hot trip : Bool),
    Gives (.nodeOvertemp u k hot trip) s (fun t =>
      let b := Tbl.get {} (s.node u).blocks k.val
      let c := { b with ot := hot, tripped := hot && (trip || b.tripped) }
      Tbl.get {} (t.node u).blocks k.val = (if hot = true ∧ trip = true then c.off else c) ∧ ∀ v, v ≠ u → t.node v = s.node v)) ∧
  (∀ (s : State) (u : Nat) (k : Fin 4) (q si co : W16),
    Gives (.nodeIndexLatch u k q si co) s (fun t =>
      Tbl.get {} (t.node u).blocks k.val =
        { Tbl.get {} (s.node u).blocks k.val with qidx := q.toNat, isin := si.toNat, icos := co.toNat, idx := true } ∧
      ∀ v, v ≠ u → t.node v = s.node v))

/-! Events of the Grate, the servos, acquisition, time and the field channels. -/

/-- Dispatch, delays, posts, moves and the trace (R131, R135, R137 to R143, R147), and the timed events of servos and emulators (R172, R189,
R196). An idle core takes its first entry in the order of R137 whose flow is free, and the task begins with the registers R142 gives it. -/
def Obligations.GrateAndServoEvents : Prop :=
  (∀ (s : State) (n : Fin 64), s.r .LC_STAT_STATE n.val ≠ 0 → exec (.taskDispatch n) s = .next s) ∧
  (∀ (s : State) (n : Fin 64) (skip rest : List ReadyEntry) (e : ReadyEntry), s.r .LC_STAT_STATE n.val = 0 →
    s.coreEntries n.val = skip ++ e :: rest → (∀ x ∈ skip, s.flowHeld (n.val / 16) (descFlow x.bytes) = true) →
    s.flowHeld (n.val / 16) (descFlow e.bytes) = false →
      exec (.taskDispatch n) s = .next ((s.passOver (n.val / 16) skip).startTask n.val e)) ∧
  (∀ (s : State) (n : Fin 64), s.r .LC_STAT_STATE n.val = 0 →
    (∀ x ∈ s.coreEntries n.val, s.flowHeld (n.val / 16) (descFlow x.bytes) = true) →
      exec (.taskDispatch n) s = .next (s.passOver (n.val / 16) (s.coreEntries n.val))) ∧
  (∀ (s : State) (n : Nat) (e : ReadyEntry),
    let b := e.bytes
    let x := (s.startTask n e).core n
    x.pc = descEntry b ∧ x.rd 0 = BitVec.ofNat 32 e.cycle ∧ x.rd 1 = BitVec.ofNat 32 (descArg b) ∧ x.rd 2 = BitVec.ofNat 32 e.flags ∧
      (∀ k, 3 ≤ k → x.rd k = 0) ∧ Tbl.get 0 x.a 0 = 0x800000 ∧ Tbl.get 0 x.a 1 = BitVec.ofNat 32 (0x10000 + descSvbase b) ∧
      Tbl.get 0 x.a 2 = 0x800100 ∧ Tbl.get 0 x.a 3 = 0x801000 ∧ (∀ k, 4 ≤ k → Tbl.get 0 x.a k = 0) ∧
      x = { view := (s.core n).view, prog := (s.core n).prog, idleAt := (s.core n).idleAt, bank := x.bank, pc := x.pc, task := x.task, d := x.d, a := x.a } ∧
      (∃ t, x.task = some t ∧ t.desc = e.desc ∧ t.cycle = e.cycle ∧ t.since = s.clk) ∧
      (∀ m, m ≠ n → (s.startTask n e).core m = s.core m)) ∧
  (∀ (s : State) (d : Fin 4) (e : DelayEntry) (rest : List DelayEntry), (s.grate d.val).delay = e :: rest →
    let b := s.desc d.val e.desc
    let u := s.updGrate d.val (fun x => { x with delay := rest })
    (s.sinceTick e.cycle < e.due → exec (.delayDue d) s = .next s) ∧
    (e.due ≤ s.sinceTick e.cycle → descCtr b = 0xFFFF →
      exec (.delayDue d) s = .next ((u.trace d.val .delayDue e.cycle e.desc 0 0).makeReady d.val e.desc e.cycle e.cycle 0 0)) ∧
    (e.due ≤ s.sinceTick e.cycle → descCtr b ≠ 0xFFFF →
      exec (.delayDue d) s = .next ((u.trace d.val .delayDue e.cycle e.desc (descCtr b) 0).decrement d.val (descCtr b) e.cycle id))) ∧
  (∀ (s : State) (n : Fin 64) (i : Fin 4096) (t : Task), (s.core n.val).task = some t →
    exec (.taskPost n i) s =
      .next ((s.post (n.val / 16) i.val t.cycle).1.updCore n.val (fun x => { x with postRefused := !(s.post (n.val / 16) i.val t.cycle).2 }))) ∧
  (∀ (s : State) (d : Fin 4) (done rest : List MoveReq) (m : MoveReq), (s.grate d.val).moves = done ++ m :: rest →
    (∀ x ∈ done, 2 ^ 31 ≤ cycDiff s.cycle x.cycle) → cycDiff s.cycle m.cycle < 2 ^ 31 →
    let b := s.desc d.val m.desc
    let old := d.val * 16 + descCore b
    ((s.core old).task ≠ none → exec (.stateMove d) s = .next s) ∧
    ((s.core old).task = none →
      exec (.stateMove d) s = .next (((s.copyView old (d.val * 16 + m.core) (descSvbase b) (32 * m.lines)).updGrate d.val
        (fun x => { x with moves := x.moves.filter (fun r => r != m) })).rebind d.val m.desc m.core))) ∧
  (∀ (s : State) (d : Fin 4) (r : List Byte) (rest : List (List Byte)), (s.grate d.val).trace = r :: rest →
    Gives (.traceDrain d) s (fun t => (t.grate d.val).trace = rest ∧ t.r .GR_TRACE_FILL_FILL d.val = rest.length % 16384 ∧
      t.r .TRACE_WR_COUNT d.val = (s.r .TRACE_WR_COUNT d.val + 1) % 2 ^ 32 ∧ t.rb .GR_STAT_TRACE_FULL d.val = false ∧
      Tbl.get [] (t.grate d.val).area (s.r .TRACE_WR_COUNT d.val % 1048576) = r)) ∧
  (∀ (s : State) (a : Fin 128),
    (1024 ≤ (s.servo a.val).cycles → exec (.torqueBandUpdate a) s = .next (s.bandUpdate a.val)) ∧
    ((s.servo a.val).cycles < 1024 → exec (.torqueBandUpdate a) s = .next s) ∧
    (∀ t, (s.servo a.val).align = some t → s.svu a.val 62 2 * 100000 ≤ t →
      let u := (s.updServo a.val (fun x => { x with align := none })).wb .SV_STAT_ALIGNING a.val false
      let moves : Prop := u.rb .FB_STAT_SPEED_VALID a.val = true ∧ 2 ^ 32 < (u.fb a.val).speed.natAbs * u.fbu a.val 1 1 * 64
      (moves → exec (.alignEnd a) s = .next (u.warn a.val .alignFail)) ∧
      let v := u.updFb a.val (fun x => { x with alignAt := some x.fused })
      (¬moves → exec (.alignEnd a) s =
        .next ((if (v.elRatio a.val).isSome then v.w .FB_STAT_COMM_STATE a.val 3 else v).raise .alignDone)))) ∧
  (∀ (s : State) (e : Fin 4), s.emuRuns e.val = true → (s.emu e.val).lastEdge + s.ru .emu e.val 8 2 ≤ s.clk →
    let x := s.emu e.val
    (x.count < s.emuIdeal e.val → exec (.emuEdge e) s =
      .next (((s.updEmu e.val (fun y => { y with count := x.count + 1, phase := (y.phase + 1) % 4, lastEdge := s.clk })).w .EMU_COUNT_COUNT e.val
        (ofSigned 32 (x.count + 1))).emuCheck e.val)) ∧
    (s.emuIdeal e.val < x.count → exec (.emuEdge e) s =
      .next (((s.updEmu e.val (fun y => { y with count := x.count - 1, phase := (y.phase + 3) % 4, lastEdge := s.clk })).w .EMU_COUNT_COUNT e.val
        (ofSigned 32 (x.count - 1))).emuCheck e.val)))

/-- Acquisition events (R254, R258 to R262, R268 to R272, R275): edges on the trigger pins, ended intervals, and the local converters. -/
def Obligations.AcquisitionEvents : Prop :=
  ∀ (s : State),
    -- An edge carries the time of its TDC, and ends the width that a mark measures.
    (∀ (k : Fin 4) (falling : Bool) (fine : Fin 50),
      let t := (divRound (((s.now 1 - s.fuse .acqInputDelay k.val : Nat) : Int) * 5 - (fine.val : Int) * 8192) 5).toNat
      let edge := if falling then 1 else 0
      let width (b : List Byte) (i : Interval) : Interval := match i.firstTrig with
        | some t0 => if i.width = 0 ∧ t - t0 ≤ fld b 44 4 * clockT then { i with width := (divRound ((t - t0 : Nat) * 5) 8192).toNat } else i
        | none => i
      let measures (u : State) (r : Nat) : Bool := u.acqRuns r && acqTsrc (u.cfg .acq r) == 1 && acqTsel (u.cfg .acq r) == k.val &&
        acqMkind (u.cfg .acq r) == 3 &&
        (!bit (acqTedge (u.cfg .acq r)) edge || acqTedge (u.cfg .acq r) == 3)
      exec (.pinTrgEdge k falling fine) s = .next (((List.range 32).foldl (fun u r =>
        if measures u r then u.updAcq r (fun x => { x with cur := x.cur.map (width (u.cfg .acq r)) }) else u) s).triggerEdge 1 k.val edge t)) ∧
    (∀ (r : Fin 32) (i : Interval) (rest : List Interval), s.acqRuns r.val = true → (s.acq r.val).closed = i :: rest →
      let b := s.cfg .acq r.val
      (i.waits = true → s.cyclic = true → exec (.intervalEnd r) s = .next s) ∧
      ((i.waits = false ∨ s.cyclic = false) →
      (acqMkind b ≠ 3 ∨ fld b 40 2 = 0xFFFF ∨ i.firstTrig = none → exec (.intervalEnd r) s = .next (s.acqWrite r.val 0)) ∧
      (∀ t, acqMkind b = 3 → fld b 40 2 ≠ 0xFFFF → i.firstTrig = some t →
        (∀ pos, s.markPos (fld b 40 2) t = some pos → exec (.intervalEnd r) s = .next (s.acqWrite r.val pos)) ∧
        (s.markPos (fld b 40 2) t = none → exec (.intervalEnd r) s = .next s)))) ∧
    (∀ (r : Fin 32), (s.acqRuns r.val = false ∨ (s.acq r.val).closed = []) → exec (.intervalEnd r) s = .next s) ∧
    (∀ (c : Fin 2) (falling : Bool) (fine : Fin 50),
      let b := s.convCfg c.val
      let due : Prop := fld b 1 1 = 1 ∨ ((fld b 1 1 = 2 ∨ fld b 1 1 = 3) ∧ s.rb .CYC_MODE_RUN = true) ∨ (fld b 1 1 = 4 ∧ falling = false) ∨
        (fld b 1 1 = 5 ∧ falling = true)
      (¬due → exec (.adcStart c falling fine) s = .next s) ∧
      (due → (s.conv c.val).burstLeft ≠ 0 → exec (.adcStart c falling fine) s = .next (s.inc .ADC_CNT_START_LOST c.val)) ∧
      (due → (s.conv c.val).burstLeft = 0 → Gives (.adcStart c falling fine) s (fun t =>
        (t.conv c.val).burstLeft = (if fld b 1 1 = 1 then 1 else fld b 6 2 + 1) ∧ (fld b 1 1 < 4 → (t.conv c.val).start = s.now 1) ∧
        (4 ≤ fld b 1 1 → (t.conv c.val).start = (divRound ((s.now 1 : Int) * 5 - (fine.val : Int) * 8192) 5).toNat)))) ∧
    (∀ (c : Fin 2) (raw : W16), (s.conv c.val).burstLeft = 0 → exec (.adcConversionDone c raw) s = .next s) ∧
    (∀ (c : Fin 2) (raw : W16) (stream : Nat), (s.conv c.val).burstLeft ≠ 0 →
      stream = fld (s.convCfg c.val) (12 + if s.interleaved then 0 else (s.conv c.val).scanPos) 1 →
      let x := s.conv c.val
      let code : Int := if stream < 8 then raw.toNat else raw.toInt
      let clip : Bool := if stream < 8 then raw.toNat == 0 || raw.toNat == 65535 else raw.toInt == -32768 || raw.toInt == 32767
      let v := s.updConv c.val (fun y => { y with burstLeft := y.burstLeft - 1, start := y.start + 100 * 65536, scanPos := (y.scanPos + 1) % (fld (s.convCfg c.val) 8 1 + 1), count := y.count + 1 })
      clip = false → s.rb .ADC_STAT_SETTLED c.val = true →
        exec (.adcConversionDone c raw) s = .next (v.acqFeed (fun q => acqSkind q == 3 && fld q 22 2 == stream)
          (x.start + s.fuse .adcAperture c.val) (fun _ => some (calibrate (s.cfg .adcCal (c.val * 16 + stream)) code, 0)))) ∧
    (∀ (cal : List Byte) (raw : Int), calibrate cal raw = Int.fdiv ((raw * 256 - fldI cal 0 4) * (fld cal 4 4 : Int) + 2 ^ 23) (2 ^ 24)) ∧
    (∀ (c : Fin 2), Gives (.refOutOfBand c) s (fun t => t.rb .ADC_STAT_SETTLED c.val = false ∧ (t.conv c.val).refSince = s.now0)) ∧
    (∀ (c : Fin 2), ((s.conv c.val).refSince + usT 100 ≤ s.now0 → exec (.refSettled c) s = .next (s.wb .ADC_STAT_SETTLED c.val true)) ∧
      (s.now0 < (s.conv c.val).refSince + usT 100 → exec (.refSettled c) s = .next s)) ∧
    -- REC_TLAST is read whole (R275): what the other two words return is what was there when word 0 was read.
    (∀ (r : Fin 32), Gives (.recTlastRead r 0) s (fun t => t.readOut = BitVec.ofNat 32 (s.r .REC_TLAST0_T r.val) ∧
      (∀ u, Tbl.get (0, 0) u.tlastLatch r.val = Tbl.get (0, 0) t.tlastLatch r.val →
        Gives (.recTlastRead r 1) u (fun v => v.readOut = BitVec.ofNat 32 (s.r .REC_TLAST1_T r.val)) ∧
        Gives (.recTlastRead r 2) u (fun v => v.readOut = BitVec.ofNat 32 (s.r .REC_TLAST2_T r.val)))))

/-- Time events (R283, R287 to R300): captures, holdover, pulses, PTP frames and the latch of TB_NOW. -/
def Obligations.TimeEvents : Prop :=
  ∀ (s : State),
    (∀ (k : Fin 8) (falling : Bool), bit (fld (s.cfg .tin k.val) 1 1) (if falling then 1 else 0) = false → exec (.tinCapture k falling) s = .next s) ∧
    (∀ (k : Fin 8) (falling : Bool),
      let b := s.cfg .tin k.val
      let t := fld b 0 1
      let time := s.now t - s.fuse .tinDelay k.val
      let c : Capture := { time := time, falling := falling, stepped := (s.tin k.val).stepped, seq := (s.tin k.val).seq }
      let u := (s.inc .TIN_CNT_CAPTURES k.val).updTin k.val (fun y => { y with seq := (y.seq + 1) % 65536, stepped := false })
      let full := if (s.tin k.val).queue.length < 8 then u.updTin k.val (fun y => { y with queue := y.queue ++ [c] }) else u.inc .TIN_CNT_LOST k.val
      let v := full.acqTrigger 4 k.val t time
      bit (fld b 1 1) (if falling then 1 else 0) = true →
        (bit (fld b 2 1) 0 = false ∨ v.tbBellows t = false → exec (.tinCapture k falling) s = .next v) ∧
        (bit (fld b 2 1) 0 = true → v.tbBellows t = true →
          exec (.tinCapture k falling) s = .next (v.bellowsFeed t (ppsOffset time (fldI b 4 8)) time).1)) ∧
    (∀ (tb : Fin 4), s.tbBellows tb.val = true → s.rb .TB_STAT_HOLDOVER tb.val = false →
      msT (s.ru .bellows tb.val 2 2) ≤ s.now0 - (s.tb tb.val).lastActive →
      let u := ((s.updTb tb.val (fun b => { b with rho := b.phi, firstFeed := true })).applyRho tb.val).wb .TB_STAT_HOLDOVER tb.val true
      exec (.bellowsHoldover tb) s = .next (u.raise .tbHoldover 0xFF 12 tb.val (le 4 (u.r .TB_RHO_RHO tb.val)))) ∧
    (∀ (tb : Fin 4), (s.tbBellows tb.val = false ∨ s.rb .TB_STAT_HOLDOVER tb.val = true ∨
      s.now0 - (s.tb tb.val).lastActive < msT (s.ru .bellows tb.val 2 2)) → exec (.bellowsHoldover tb) s = .next s) ∧
    (∀ (k : Fin 8),
      let b := s.cfg .tout k.val
      let x := s.tout k.val
      (s.r .TOUT_STAT_MODE k.val = 1 → s.toutLive k.val = true → s.rb .TOUT_STAT_ACTIVE k.val = false →
        toutInstant b x.next ≤ s.now (fld b 1 1) → x.passed = false →
        exec (.toutPulseStart k) s =
          .next ((s.pulse k.val).updTout k.val (fun y => { y with next := y.next + 1, given := y.given + 1, passed := false }))) ∧
      (s.r .TOUT_STAT_MODE k.val = 1 → s.now (fld b 1 1) < toutInstant b x.next → exec (.toutPulseStart k) s = .next s) ∧
      (s.r .TOUT_STAT_MODE k.val = 2 → s.rb .CYC_MODE_RUN = true → s.r .CYC_NOW_CYCLE % fld b 32 2 = 0 →
        exec (.toutPulseStart k) s = .next (s.pulse k.val)) ∧
      (s.rb .TOUT_STAT_ACTIVE k.val = true → x.endClk ≤ s.clk →
        let u := s.wb .TOUT_STAT_ACTIVE k.val false
        (∀ w, (u.tout k.val).waiting = some w → exec (.toutPulseEnd k) s = .next (u.toutApply k.val w)) ∧
        ((u.tout k.val).waiting = none → exec (.toutPulseEnd k) s =
          .next (if u.r .TOUT_STAT_MODE k.val = 1 ∧ u.toutLive k.val = false then u.toutApply k.val (u.toutIdle k.val) else u))) ∧
      (s.clk < x.endClk → exec (.toutPulseEnd k) s = .next s)) ∧
    -- PTP (R294 to R298). The places of the header fields in a frame are the model's (log 11).
    (∀ (p : Fin 2) (f : List Byte),
      let dst := beNat (slice f 0 6)
      let takes : Prop := s.rb .PTP_STAT_ENABLE p.val = true ∧ s.rb .PTP_STAT_BOUND p.val = true ∧ (ptpOffset f).isSome = true ∧ (dst = s.mac p.val ∨ ptpMulticast dst = true)
      let c := s.r .PTP_STAT_OWNER p.val
      let ts := addTime (s.now (s.ptpBase p.val) - s.fuse .ptpRxLatency p.val) (s.rI .PTP_RXADJ_ADJ p.val)
      let u := (s.updPtp p.val (fun x => { x with stepped := false })).raiseTo c .ptpRx 0 0
        (le 1 p.val ++ le 1 (b2n (s.rb .PTP_STAT_TB3 p.val) + 2 * b2n (s.ptp p.val).stepped) ++ le 2 f.length ++ timeBytes ts ++ f)
      (takes → (s.ctx c).events.length < 256 → exec (.ptpFrameRx p f) s = .next (u.inc .PTP_RX_COUNT p.val)) ∧
      (takes → 256 ≤ (s.ctx c).events.length → exec (.ptpFrameRx p f) s = .next (u.inc .PTP_LOSS_RX_LOST p.val)) ∧
      (¬takes → exec (.ptpFrameRx p f) s = .next (s.inc .ETH_DROP_COUNT p.val)) ∧
      exec (.ptpEgress p) s = .next (s.ptpComplete p.val false (addTime (s.now (s.ptpBase p.val) + s.fuse .ptpTxLatency p.val) (s.rI .PTP_TXADJ_ADJ p.val))) ∧
      (∀ e, (s.ptp p.val).entries.find? (fun e => !e.done) = some e →
        (e.since + msT 1 ≤ s.now0 → exec (.ptpTxTimeout p) s = .next (s.ptpComplete p.val true 0)) ∧
        (s.now0 < e.since + msT 1 → exec (.ptpTxTimeout p) s = .next s))) ∧
    -- TB_NOW (R300): word 0 latches all four bases for the context, and the words read after it come from that instant.
    (∀ (c : Fin 8) (t : Fin 4), (Tbl.get {} s.nowLatch (c.val * 4 + t.val)).valid = false →
      Gives (.tbNowRead c t 0) s (fun u => u.readOut = BitVec.ofNat 32 (leNat (timeBytes (s.now t.val))) ∧
        (∀ (v : State) (k : Fin 4) (w : Fin 3), v.nowLatch = u.nowLatch → (w.val ≠ 0 ∨ k ≠ t) →
          Gives (.tbNowRead c k w) v (fun z => z.readOut = BitVec.ofNat 32 (leNat (timeBytes (s.now k.val)) / 2 ^ (32 * w.val))))))

/-- Reads and writes through an endpoint (R5, R6, R10, R394, R395): a read returns the register and clears what reads clear; a write of a register
that the context may not write is counted and changes nothing; a read-only register keeps its value; each field takes from a word what its access allows. -/
def Obligations.EndpointAccess : Prop :=
  (∀ (s : State) (e : Fin 2) (b : Bar) (o : Nat) (v : W32), o % 4 ≠ 0 →
    exec (.rcRead e b o) s = .next s ∧ exec (.registerWrite e b o v) s = .next s) ∧
  (∀ (s : State) (e : Fin 2) (o : Nat), o % 4 = 0 →
    exec (.rcRead e .bar0 o) s = .next ((s.readReg e.val o).2.readBack (s.readReg e.val o).1) ∧
    exec (.rcRead e .bar4 o) s = .next (s.readBack (s.readWindow o)) ∧
    (o < 0x1000 → exec (.rcRead e .bar2 o) s =
      .next ((s.readFields e.val (fieldsAt2 e.val o)).2.readBack (s.readFields e.val (fieldsAt2 e.val o)).1)) ∧
    (0x1000 ≤ o → o < 0x1040 → exec (.rcRead e .bar2 o) s =
      .next (s.readBack (Tbl.get 0 s.msixTab (e.val * 16 + (o - 0x1000) / 4)).toNat)) ∧
    (0x1040 ≤ o → o < 0x1800 → exec (.rcRead e .bar2 o) s = .next (s.readBack 0))) ∧
  (∀ (s : State) (e : Fin 2) (o : Nat) (v : W32), o % 4 = 0 →
    let ro : Prop := ∀ f ∈ fieldsAt o, f.1.info.access = .ro
    exec (.registerWrite e .bar4 o v) s = .next s ∧
    (ro → exec (.registerWrite e .bar0 o v) s = .next s) ∧
    (¬ro → s.writes e.val o v.toNat false = true → exec (.registerWrite e .bar0 o v) s = .next (s.writeReg o v.toNat)) ∧
    (¬ro → s.writes e.val o v.toNat false = false → exec (.registerWrite e .bar0 o v) s = .next (s.inc .HOST_CNT2_WR_DENIED e.val)) ∧
    (0x1000 ≤ o → o < 0x1040 → Gives (.registerWrite e .bar2 o v) s (fun t =>
      Tbl.get 0 t.msixTab (e.val * 16 + (o - 0x1000) / 4) = v ∧ t.regs = s.regs))) ∧
  (∀ (s : State) (c a w : Nat), s.writes c a w false = true → s.holdsLease c = true ∨ ∃ n, lateRegAxis a = some n ∧ s.owns c n = true) ∧
  (∀ (s : State) (w : Nat) (f : Fld) (i : Nat),
    let v := bits w f.info.hi f.info.lo
    ((f.info.access = .ro ∨ f.info.access = .rc) → s.writeFld w f i = s) ∧
    (f.info.access = .w1c → s.writeFld w f i = s.w f i (s.r f i - (s.r f i &&& v))) ∧
    (f.info.access = .rw → f.info.retention ≠ .n → s.writeFld w f i = s.w f i (s.ruled f i v)) ∧
    (f.info.access = .rw → f.info.retention = .n → s.writeFld w f i = (s.w f i (s.ruled f i v)).saveFld f i))

/-- Field events (R304 to R318): samples of an input, output faults and their retry, the field supply, test pulses and the end of a change of
mode. -/
def Obligations.FieldEvents : Prop :=
  ∀ (s : State),
    (∀ (c : Fin 24) (mv ua vf : Nat),
      (s.chIsInput c.val = true → s.rb .FIO_CH_STAT_OWNER c.val = false →
        exec (.fieldInputSample c mv ua vf) s = .next (s.sampleInput c.val mv ua vf)) ∧
      ((s.chIsInput c.val = false ∨ s.rb .FIO_CH_STAT_OWNER c.val = true) → exec (.fieldInputSample c mv ua vf) s = .next s)) ∧
    -- The thresholds of Table 11.2, and the up/down counter of R307.
    (∀ mv, rawState 1 false mv = decide (11000 ≤ mv) ∧ rawState 1 true mv = decide (9000 < mv) ∧
      rawState 2 false mv = decide (9000 ≤ mv) ∧ rawState 2 true mv = decide (7000 < mv)) ∧
    (∀ (limit n : Nat) (was : Bool), 0 < limit → n ≤ limit →
      (filterStep limit n was true).1 = min limit (n + 1) ∧ (filterStep limit n was false).1 = n - 1 ∧
      ((filterStep limit n was true).2 = true ↔ n + 1 ≥ limit ∨ was = true) ∧ ((filterStep limit n was false).2 = true ↔ 1 < n ∧ was = true)) ∧
    (∀ (c : Fin 24),
      let fault : Nat → State := s.outFault c.val
      (s.fioBit .FIO_OUT_ON c.val = true → exec (.fieldShortTimeout c) s = .next (fault 1)) ∧
      (s.fioBit .FIO_OUT_ON c.val = false → exec (.fieldShortTimeout c) s = .next s) ∧
      (s.chMode c.val = 3 → s.rb .FIO_CH_STAT_LATCHED c.val = false → (s.chan c.val).retry = none → exec (.fieldThermalTrip c) s = .next (fault 2)) ∧
      (∀ high, s.chMode c.val = 3 → (s.chan c.val).pulse = none → (s.chan c.val).switched + usT 50 ≤ s.now0 →
        (high = s.fioBit .FIO_OUT_ON c.val → exec (.fieldReadbackSample c high) s = .next (s.updChan c.val (fun x => { x with readback := 0 }))) ∧
        (high ≠ s.fioBit .FIO_OUT_ON c.val → s.rb .FIO_CH_STAT_LATCHED c.val = false →
          let n := (s.chan c.val).readback + 1
          let u := (s.updChan c.val (fun x => { x with readback := n })).updChan c.val (fun x => { x with readback := 0 })
          (n < 3 → exec (.fieldReadbackSample c high) s = .next (s.updChan c.val (fun x => { x with readback := n }))) ∧
          (3 ≤ n → high = false → exec (.fieldReadbackSample c high) s = .next (u.outFault c.val 3)) ∧
          (3 ≤ n → high = true → exec (.fieldReadbackSample c high) s = .next ((u.outFault c.val 3).raise .fieldStuckOn)))) ∧
      (∀ high, ((s.chan c.val).pulse ≠ none ∨ s.now0 < (s.chan c.val).switched + usT 50) → exec (.fieldReadbackSample c high) s = .next s) ∧
      (∀ t, (s.chan c.val).retry = some t →
        (t ≤ s.now0 → exec (.fieldRetryEnd c) s =
          .next (((s.updChan c.val (fun x => { x with retry := none, pulse := none })).w .FIO_CH_STAT_FAULT c.val 0).drive c.val)) ∧
        (s.now0 < t → exec (.fieldRetryEnd c) s = .next s)) ∧
      (∀ t b, (s.chan c.val).change = some (t, b) →
        (t ≤ s.now0 → exec (.fieldModeOffEnd c) s = .next ((s.updChan c.val (fun x => { x with change := none })).fieldApply c.val b)) ∧
        (s.now0 < t → exec (.fieldModeOffEnd c) s = .next s))) ∧
    (∀ (vf : Nat),
      (vf < 18000 →
        exec (.fieldSupplyUv 0 vf) s =
          .next ((groupChans 0).foldl (fun u c => u.drive c) ((s.wb .FIO_SUPPLY_UV0 0 true).w .FIO_SUPPLY_VF0 0 (vf / 200))) ∧
        exec (.fieldSupplyUv 1 vf) s =
          .next ((groupChans 1).foldl (fun u c => u.drive c) ((s.wb .FIO_SUPPLY_UV1 0 true).w .FIO_SUPPLY_VF1 0 (vf / 200)))) ∧
      (19000 < vf →
        exec (.fieldSupplyRecover 0 vf) s =
          .next ((groupChans 0).foldl (fun u c => u.drive c) ((s.wb .FIO_SUPPLY_UV0 0 false).w .FIO_SUPPLY_VF0 0 (min 255 (vf / 200)))) ∧
        exec (.fieldSupplyRecover 1 vf) s =
          .next ((groupChans 1).foldl (fun u c => u.drive c) ((s.wb .FIO_SUPPLY_UV1 0 false).w .FIO_SUPPLY_VF1 0 (min 255 (vf / 200))))) ∧
      groupChans 0 = List.range 12 ∧ ∀ c, c ∈ groupChans 1 ↔ 12 ≤ c ∧ c < 24) ∧
    -- The pulse: started at its time with the width configured, read once, and ended at the scheduled end.
    (∀ (c : Fin 24),
      let width := usT (s.ru .field c.val 6 2)
      let period := msT (s.ru .field c.val 8 2)
      let pulsed (off : Bool) : State :=
        (s.updChan c.val (fun x => { x with pulse := some { start := s.now0, stop := s.now0 + width, off := off } })).setOut c.val (!off)
      (s.chFlag c.val 4 = true → s.chAllowed c.val = true → (s.chan c.val).pulse = none →
        (s.now0 + period - msT (c.val % s.ru .field c.val 8 2)) % period < 81920 →
          (s.chDemand c.val = true → exec (.testPulseStart c) s = .next (pulsed true)) ∧
          (s.chDemand c.val = false → s.chFlag c.val 5 = true → exec (.testPulseStart c) s = .next (pulsed false)) ∧
          (s.chDemand c.val = false → s.chFlag c.val 5 = false → exec (.testPulseStart c) s = .next s)) ∧
      (∀ p high, s.chMode c.val = 3 → (s.chan c.val).pulse = some p →
        (p.aborted = true → exec (.testPulseCheck c high) s = .next s) ∧
        (p.aborted = false → high = p.off → exec (.testPulseCheck c high) s = .next (s.checkFailed c.val)) ∧
        (p.aborted = false → high ≠ p.off → exec (.testPulseCheck c high) s = .next (s.updChan c.val (fun x => { x with checks := 0 })))) ∧
      (∀ p, (s.chan c.val).pulse = some p →
        (s.now0 < p.stop → exec (.testPulseEnd c) s = .next s) ∧
        (p.stop ≤ s.now0 → p.off = false →
          exec (.testPulseEnd c) s = .next ((s.updChan c.val (fun x => { x with pulse := none })).drive c.val)) ∧
        (p.stop ≤ s.now0 → p.off = true →
          let u := (s.updChan c.val (fun x => { x with pulse := none })).drive c.val
          exec (.testPulseEnd c) s = .next ((List.range 24).foldl (fun v i =>
            if v.chIsInput i && v.chFlag i 6 && v.ru .field i 10 1 == c.val then v.updChan i (fun x => { x with exclude := u.now0 + usT 100 })
            else v) u))))
/-! Events of SAF, the Flue and the host ports. -/

/-- SAF (R323 to R348): one evaluation in a cycle, in its order; what a safe fault, a watchdog, a start, a held discrepancy, a release and the
time limits of a session do, and that none of them acts before its time. -/
def Obligations.SafetyControllerEvents : Prop :=
  ∀ (s : State),
    (s.r .SAF_STAT_STATE ≠ 1 → exec .safEvaluation s = .next s) ∧
    (s.cyclic = true → s.safEvalAt = some s.cycle → exec .safEvaluation s = .next s) ∧
    (s.r .SAF_STAT_STATE = 1 → s.cyclic = true → s.safEvalAt ≠ some s.cycle →
      let ks := safConnIds s.safeSet
      let a := ks.foldl State.connInputs { s with safEvalAt := some s.cycle }
      let a := if a.cyclic then ks.foldl (fun t k => if t.cnType k = 1 && t.r .SAF_CONN_STATE k = 2 then t.compare k t.inputFrame else t) a else a
      let b := (List.range 32).foldl (fun t z => (t.pressStep z 0).pressStep z 1) ((List.range 64).foldl State.sigStep a)
      let b := b.takeDcShorts.channelFaults
      let b := ks.foldl (fun t k => if t.isSafeAxis k then (t.functions k).feedbacks k else t) b
      let b := ks.foldl State.connOutputs b
      exec .safEvaluation s = .next (if b.cyclic then ks.foldl (fun t k => t.release k (cycAdd t.cycle 1) b.safLate) b else b)) ∧
    (∀ cause : Fin 5,
      (s.r .SAF_STAT_STATE = 2 → exec (.safFaultEntry cause) s = .next s) ∧
      (s.r .SAF_STAT_STATE ≠ 2 → exec (.safFaultEntry cause) s =
        .next { (((s.w .SAF_STAT_STATE 0 2).w .SAF_FAULT_CAUSE 0 (cause.val + 1)).shutAll 0x0A) with safFaultAt := s.clk })) ∧
    (s.r .SAF_STAT_STATE = 2 → s.safFaultAt + msClk 1 ≤ s.clk →
      exec .safHeartbeatLoss s = .next ((List.range 24).foldl (fun t c => t.safOut c false) s)) ∧
    ((s.r .SAF_STAT_STATE ≠ 2 ∨ s.clk < s.safFaultAt + msClk 1) → exec .safHeartbeatLoss s = .next s) ∧
    (∀ k : Fin 256,
      let st := s.r .SAF_CONN_STATE k.val
      let x := s.safConn k.val
      (s.r .SAF_STAT_STATE = 1 → st = 2 → x.heard + s.cnSwd k.val * 8000 ≤ s.clk → exec (.safConnWatchdog k) s = .next (s.connFault k.val)) ∧
      ((s.r .SAF_STAT_STATE ≠ 1 ∨ st ≠ 2 ∨ s.clk < x.heard + s.cnSwd k.val * 8000) → exec (.safConnWatchdog k) s = .next s) ∧
      (s.r .SAF_STAT_STATE = 1 → st = 3 → x.since + msClk 100 ≤ s.clk → exec (.connRestart k) s = .next (s.connStart k.val)) ∧
      ((s.r .SAF_STAT_STATE ≠ 1 ∨ st ≠ 3 ∨ s.clk < x.since + msClk 100) → exec (.connRestart k) s = .next s) ∧
      (st = 1 → x.startFail = false → x.since + msClk 1000 ≤ s.clk → exec (.connStartFail k) s =
        .next ((s.updSafConn k.val (fun y => { y with startFail := true })).raise .connStartFail 0xFF 3 k.val)) ∧
      ((st ≠ 1 ∨ x.startFail = true ∨ s.clk < x.since + msClk 1000) → exec (.connStartFail k) s = .next s)) ∧
    (∀ (c : Fin 24) (mv ua vf : Nat),
      (s.rb .FIO_CH_STAT_OWNER c.val = true → s.chIsInput c.val = true →
        exec (.safInputSample c mv ua vf) s = .next (s.sampleInput c.val mv ua vf)) ∧
      (s.rb .FIO_CH_STAT_OWNER c.val = false → exec (.safInputSample c mv ua vf) s = .next s)) ∧
    (∀ g : Fin 64,
      let x := Tbl.get ({} : SafSig) s.safSigs g.val
      (∀ t, x.since = some t → x.held = false → t + msClk (fld (s.safRec 2 g.val) 4 2) < s.clk →
        exec (.sigDiscrepancy g) s = .next
          ({ s with safSigs := Tbl.set {} s.safSigs g.val { x with held := true, bothZero := false } }.raise .sigDiscrepancy 0xFF 11 g.val
            (le 1 (b2n (s.sigSources g.val).1) ++ le 1 (b2n (s.sigSources g.val).2) ++ [0, 0]))) ∧
      (∀ t, x.since = some t → s.clk ≤ t + msClk (fld (s.safRec 2 g.val) 4 2) → exec (.sigDiscrepancy g) s = .next s) ∧
      ((x.since = none ∨ x.held = true) → exec (.sigDiscrepancy g) s = .next s)) ∧
    (∀ (z : Fin 32) (second : Bool),
      let i := 2 * z.val + (if second then 1 else 0)
      let u := { s with safPresses := Tbl.modify {} s.safPresses i (fun x => { x with released := false }) }
      let p := Tbl.get ({} : SafPress) s.safPresses i
      (p.released = false → exec (.safResetRelease z second) s = .next s) ∧
      (p.released = true → u.zoneOpen z.val = true → exec (.safResetRelease z second) s = .next u) ∧
      (p.released = true → u.zoneOpen z.val = false → u.resetReason z.val = none →
        exec (.safResetRelease z second) s = .next (u.openZone z.val)) ∧
      (∀ r d, p.released = true → u.zoneOpen z.val = false → u.resetReason z.val = some (r, d) →
        exec (.safResetRelease z second) s =
          .next ((u.inc .SAF_ZONE_REFUSED z.val).raise .resetRefused 0xFF 4 z.val (le 1 r ++ [0] ++ le 2 d) (r + d * 65536))) ∧
      (p.level = true → p.since + msClk 3000 ≤ s.clk → p.stuck = false →
        exec (.resetStuck z second) s = .next (({ s with safPresses := Tbl.modify {} s.safPresses i (fun y => { y with stuck := true, counts := false }) }.wb
          .SAF_ZONE_STUCK z.val true).raise .resetStuck 0xFF 4 z.val (le 1 ((s.resetSig z.val (if second then 1 else 0)).getD 0) ++ [0, 0, 0]))) ∧
      ((p.level = false ∨ p.stuck = true ∨ s.clk < p.since + msClk 3000) → exec (.resetStuck z second) s = .next s)) ∧
    (s.rb .SAF_STAT_SESSION = true → s.safeLast + msClk 600000 ≤ s.clk →
      exec .safeSessionTimeout s = .next ((s.wb .SAF_STAT_SESSION 0 false).w .SAF_STAT_SESSION_CTX 0 0)) ∧
    (s.clk < s.safeLast + msClk 600000 → exec .safeSessionTimeout s = .next s) ∧
    (s.rb .SAF_STAT_LOCKOUT = true → s.safeLockAt + msClk 60000 ≤ s.clk →
      exec .safeLockoutEnd s = .next { s.wb .SAF_STAT_LOCKOUT 0 false with safeFails := 0 }) ∧
    (s.clk < s.safeLockAt + msClk 60000 → exec .safeLockoutEnd s = .next s) ∧
    -- An answer of SAF that has not come within 100 ms (R392).
    (∀ (c : Fin 8) (t op : Nat) (p : Pkt) (rest : List (Nat × Pkt)), (s.ctx c.val).safAt = some t → (s.ctx c.val).held = (op, p) :: rest →
      (t + msT 100 ≤ s.now0 → exec (.safAnswerTimeout c) s =
        .next ((s.updCtx c.val (fun x => { x with held := rest })).finish op p .unavailable [])) ∧
      (s.now0 < t + msT 100 → exec (.safAnswerTimeout c) s = .next s))

/-- Messages of the Flue (R357 to R369, R371): a bad one is counted, none is taken from a silent Flue, and what each kind does to a unit whose role
takes it. -/
def Obligations.FlueMessages : Prop :=
  ∀ (s : State),
    (∀ (i : Instr), ((∃ m ok, i = .flueTickRx m ok) ∨ (∃ c d k g ok, i = .flueDigestRx c d k g ok) ∨ (∃ m ok, i = .flueRecordRx m ok) ∨
      (∃ f a t b ok, i = .flueSentRx f a t b ok) ∨ (∃ c k b ok, i = .flueContainerRx c k b ok) ∨ (∃ c ok, i = .flueRelayRx c ok) ∨
      (∃ c ok, i = .flueFrameRx c ok) ∨ (∃ m ok, i = .flueConfigRx m ok)) → s.twin.silent = true → exec i s = .next s) ∧
    (∀ (i : Instr), ((∃ m, i = .flueTickRx m false) ∨ (∃ c d k g, i = .flueDigestRx c d k g false) ∨ (∃ m, i = .flueRecordRx m false) ∨
      (∃ f a t b, i = .flueSentRx f a t b false) ∨ (∃ c k b, i = .flueContainerRx c k b false) ∨ (∃ c, i = .flueRelayRx c false) ∨
      (∃ c, i = .flueFrameRx c false) ∨ (∃ m, i = .flueConfigRx m false)) → s.twin.silent = false →
        exec i s = .next (s.inc .TWIN_CNT2_FLUE_ERR)) ∧
    (s.twin.silent = false →
      (∀ m, s.isStandby = false → exec (.flueTickRx m true) s = .next s) ∧
      -- A standby in step takes the schedule word, the trailer, the tables, the classes and the marks of the active's tick.
      (∀ m, s.isStandby = true → s.cyclic = true → s.r .TWIN_STAT_SYNC = 2 → s.mode = m.hdr.mode % 8 → s.sinceTick m.cycle ≤ 800 →
        let u := (((s.updTwin (fun t => { t with tick := some m.cycle, tickLate := t.tickLate || false })).wb .SW_STAT_ARMED 0 (bit m.hdr.mode 6)).w
          .SW_STAT_NEXT_SM 0 (m.hdr.mode / 8 % 8)).w .SW_CYCLE_CYCLE 0 m.hdr.switchCycle
        let u := ((u.setTrailer m.cycle m.hdr.ofsCorr m.hdr.rateCorr).hubPut 0x3F8000 (slice m.timeTable 0 64)).hubPut 0x3F8040 (slice m.fieldTable 0 16)
        exec (.flueTickRx m true) s = .next { u.takeClasses m.classes with marksIn := m.marks.foldl (fun t e => Tbl.set [] t e.1 e.2) [] }) ∧
      (∀ c (d : Fin 4) (k : Fin 4096) g,
        let u := s.updTwin (fun t => { t with theirs := t.theirs ++ [(c, d.val, k.val, g)] })
        ((s.r .TWIN_STAT_ROLE = 0 ∨ s.cutoffOf (s.desc d.val k.val) c ≤ (s.sinceTick c : Int)) → exec (.flueDigestRx c d k g true) s = .next s) ∧
        (s.r .TWIN_STAT_ROLE ≠ 0 → (s.sinceTick c : Int) < s.cutoffOf (s.desc d.val k.val) c →
          (∀ o, digestOf u.twin.mine c d.val k.val = some o → exec (.flueDigestRx c d k g true) s = .next (u.digestCheck c d.val k.val o g)) ∧
          (digestOf u.twin.mine c d.val k.val = none → exec (.flueDigestRx c d k g true) s = .next u))) ∧
      (∀ m : FlueRecord, s.isStandby = true → (s.r .TWIN_STAT_SYNC = 1 ∨ s.r .TWIN_STAT_SYNC = 2) →
        let key := (m.cycle, m.die, m.desc)
        let u := s.updTwin (fun t => { t with recs := t.recs ++ [key], pend := t.pend.filter (fun e => !(e.cycle == m.cycle && e.die == m.die && e.desc == m.desc)) })
        (key ∈ s.twin.recs → exec (.flueRecordRx m true) s = .next s) ∧
        (key ∉ s.twin.recs → m.outcome ≠ .commit → exec (.flueRecordRx m true) s = .next u) ∧
        (key ∉ s.twin.recs → m.outcome = .commit →
          let v := u.putLines (m.die * 16 + descCore (u.desc m.die m.desc)) m.cycle m.lines m.stores
          exec (.flueRecordRx m true) s =
            .next (m.shafts.foldl (fun t r => t.putShaftRec m.cycle r) (m.axes.foldl (fun t r => t.putAxisRec m.cycle r) v)))) ∧
      (∀ m : FlueRecord, s.isStandby = false → exec (.flueRecordRx m true) s = .next s) ∧
      (∀ f a t b, (s.r .TWIN_STAT_ROLE = 0 ∨ (s.partnerSent f a t).isSome = true) → exec (.flueSentRx f a t b true) s = .next s) ∧
      (∀ f a t b, s.r .TWIN_STAT_ROLE = 2 → s.partnerSent f a t = none →
        let u := s.updTwin (fun x => { x with sentIn := x.sentIn ++ [{ frame := f, addr := a, ty := t, blocks := b }] })
        (u.sched u.mode).seg a t = none → u.isActive = false → exec (.flueSentRx f a t b true) s = .next u) ∧
      (∀ c (k : Fin 256) b,
        (s.isStandby = true → s.cnAddr k.val ≠ 0 → exec (.flueContainerRx c k b true) s =
          .next ({ s with contDown := Tbl.set [] s.contDown (s.cnKey k.val) (le 4 c ++ slice b 0 12) }.updSafConn k.val
            (fun x => { x with seqOut := fld b 0 2, outFrame := c }))) ∧
        (s.isStandby = false ∨ s.cnAddr k.val = 0 → exec (.flueContainerRx c k b true) s = .next s)) ∧
      (∀ c, (s.rb .RING_STAT_BROKEN = true → s.r .TWIN_STAT_ROLE ≠ 0 → s.onTheWay c.cycle = true → s.inTime c.cycle = true →
          exec (.flueRelayRx c true) s = .next ((s.copyRx c).updTwin (fun t => { t with bytes := s.twin.bytes }))) ∧
        ((s.rb .RING_STAT_BROKEN = false ∨ s.r .TWIN_STAT_ROLE = 0) → exec (.flueRelayRx c true) s = .next s)) ∧
      (∀ b, (s.headIs .follow = true → exec (.flueFrameRx b true) s = .next (s.updTwin (fun t => { t with content := b }))) ∧
        (s.headIs .follow = false → exec (.flueFrameRx b true) s = .next s)) ∧
      (∀ op p, exec (.flueConfigRx (.command op p) true) s = .next (runOp op { p with port := .flue, ctx := 7 } s)) ∧
      exec (.flueConfigRx .ack true) s = .next s.forwardNext ∧
      (∀ v, s.isActive = true → exec (.flueConfigRx (.sync v) true) s =
        .next (if v.val = 3 then (s.w .TWIN_STAT_SYNC 0 v.val).forwardAll else s.w .TWIN_STAT_SYNC 0 v.val)))

/-- Lanes, silence and roles (R357, R358, R368, R372, R373): both units go on over one lane; a silent Flue sends an active on alone, a standby in
step to SOLO and a joining one to DETACHED; a SOLO standby becomes the active where the partner's frame does not come. -/
def Obligations.TwinRoleEvents : Prop :=
  ∀ (s : State),
    exec (.flueLaneDown 0) s = .next (s.wb .TWIN_STAT_LANE0 0 false) ∧ exec (.flueLaneDown 1) s = .next (s.wb .TWIN_STAT_LANE1 0 false) ∧
    (∀ l lat, Gives (.flueLaneUp l lat) s (fun t => t.twin.silent = false ∧ t.r .TWIN_LAT_LAT = lat % 2 ^ Fld.TWIN_LAT_LAT.info.width ∧
      t.rb (if l.val = 0 then .TWIN_STAT_LANE0 else .TWIN_STAT_LANE1) = true)) ∧
    (s.twin.silent = true → exec .flueSilent s = .next s) ∧
    (s.twin.silent = false →
      let u := s.updTwin (fun t => { t with silent := true })
      (u.isActive = true →
        exec .flueSilent s = .next ((((u.w .TWIN_STAT_SYNC 0 0).countOwed.updTwin (fun t => { t with solo := some s.cycle })).raise .flueLost).forwardAll)) ∧
      (u.isActive = false → u.isStandby = true → u.r .TWIN_STAT_SYNC = 2 → exec .flueSilent s = .next u.enterSolo.forwardAll) ∧
      (u.isActive = false → u.isStandby = true → u.r .TWIN_STAT_SYNC = 1 → exec .flueSilent s = .next u.detach.forwardAll)) ∧
    (∀ n, s.twin.solo = some n →
      (s.sinceTick (cycAdd n 1) < s.firstUplink (s.sched s.mode) * 8 + 800 → exec .partnerFrameTimeout s = .next s) ∧
      (cycDiff s.cycle n < 2 ^ 31 → s.cycle ≠ n → s.firstUplink (s.sched s.mode) * 8 + 800 ≤ s.sinceTick (cycAdd n 1) →
        s.isActive = false → s.isStandby = true → s.r .TWIN_STAT_SYNC = 4 →
        let came (b : Bool) : State := (s.wb .TWIN_STAT_PARTNER_RING 0 b).updTwin (fun t => { t with solo := none })
        (s.twin.frameAt = some (cycAdd n 1) →
          exec .partnerFrameTimeout s = .next (((came true).w .TWIN_STAT_SYNC 0 3).raise .flueLost)) ∧
        (s.twin.frameAt ≠ some (cycAdd n 1) →
          exec .partnerFrameTimeout s = .next
            ((((((came false).w .TWIN_STAT_ROLE 0 1).w .TWIN_STAT_SYNC 0 0).inc .TWIN_CNT3_ROLE_CHANGES).enterHead .cyclic).raise .partnerLost)))) ∧
    (s.cyclic = true → s.twin.swapAt = some s.nextCycle → exec .roleSwapTick s = .next s.tick) ∧
    (s.twin.swapAt ≠ some s.nextCycle → exec .roleSwapTick s = .next s) ∧
    (∀ c : JoinCopy, s.isStandby = true → s.r .TWIN_STAT_SYNC = 1 →
      let u := c.lines.foldl (fun t l => t.updCore l.1 (fun y => { y with view := y.view.writeN (32 * l.2.1) l.2.2 })) s
      let u := c.stores.foldl (fun t l => t.updSram l.1 (fun m => { m with base := m.base.write l.2.1 l.2.2 })) u
      let v := c.axes.foldl (fun t r => t.putAxisRec u.cycle r) u
      exec (.joinCopyComplete c) s =
        .next ((c.shafts.foldl (fun t r => t.putShaftRec v.cycle r) v).updTwin (fun t => { t with copied := joinBytes }))) ∧
    (∀ c, (s.isStandby = false ∨ s.r .TWIN_STAT_SYNC ≠ 1) → exec (.joinCopyComplete c) s = .next s)

/-- Host ports (R381, R386, R388, R391, R393, R396 to R400, R403): bad packets, leases, events sent again, the rings of an endpoint, SSPI and Ethernet. -/
def Obligations.HostPortEvents : Prop :=
  ∀ (s : State),
    (∀ p op, p.port = .eth0 ∨ p.port = .eth1 →
      let e := if p.port = .eth0 then 0 else 1
      (s.rb .ETH_STAT_LINK e = false → exec (.badPacket p op .crc) s = .next s ∧ exec (.badPacket p op .frame) s = .next s) ∧
      (s.rb .ETH_STAT_LINK e = true → exec (.badPacket p op .crc) s = .next (s.inc .ETH_ERR_CRC_ERR e) ∧
        exec (.badPacket p op .frame) s = .next (s.inc .ETH_ERR_BAD_FRAME e))) ∧
    (∀ p op, p.port = .pcie0 ∨ p.port = .pcie1 → exec (.badPacket p op .crc) s = .next s ∧
      ∀ u, s.take p = some u → exec (.badPacket p op .frame) s = .next (u.emit (replyPacket p p.ctx op .badParam []))) ∧
    (∀ p op u n, op ≠ 4 → Carries s p false false u n → exec (.badPacket p op .opcode) s = .next (u.answer p n op .unknownOpcode [])) ∧
    (∀ p op, p.port = .sspi → s.sspiRx = true → exec (.badPacket p op .frame) s = .next { s with sspiRx := false, sspiDrops := s.sspiDrops + 1 }) ∧
    (∀ c : Fin 8,
      (s.hmpRun = true → (s.ctx c.val).leaseEnd ≤ s.now0 → exec (.leaseExpiry c) s = .next (s.endSession c.val)) ∧
      ((s.hmpRun = false ∨ s.now0 < (s.ctx c.val).leaseEnd) → exec (.leaseExpiry c) s = .next s) ∧
      (∀ e rest, (s.ctx c.val).events = e :: rest → (s.ctx c.val).isOpen = true → (s.ctx c.val).port.eth.isSome = true →
        (max e.time (s.ctx c.val).evSent + msT 50 ≤ s.now0 → exec (.eventResend c) s = .next (s.resendEvents c.val)) ∧
        (s.now0 < max e.time (s.ctx c.val).evSent + msT 50 → exec (.eventResend c) s = .next s))) ∧
    -- A context without a session has none to end.
    (∀ c, (s.ctx c).isOpen = false → s.endSession c = s) ∧
    (∀ e : Fin 2,
      let off (t : State) : State := (t.wb .CTX_CTRL_ENABLE e.val false).wb .CTX_STAT_RUN e.val false
      (∀ i, exec (.commandDoorbell e i) s = .next (if (s.ctx e.val).isOpen then (s.w .Q_PROD_IDX (e.val * 3) i).restartLease e.val
        else s.w .Q_PROD_IDX (e.val * 3) i)) ∧
      (∀ i, exec (.replyRingConsume e i) s = .next (s.w .Q_CONS_IDX (e.val * 3 + 1) i)) ∧
      (∀ i,
        let n := (i + 65536 - s.r .Q_CONS_IDX (e.val * 3 + 2)) % 65536
        let gone := ((s.ctx e.val).ring.take n).filterMap id
        exec (.eventRingConsume e i) s = .next (((s.updCtx e.val (fun x =>
          { x with ring := x.ring.drop n, events := x.events.filter (fun ev => !gone.contains ev.seq) })).w .Q_CONS_IDX (e.val * 3 + 2) i).pumpEvents e.val 512)) ∧
      exec (.ctxEnable e false) s = .next (off s) ∧
      (s.rb .CTX_CTRL_ENABLE e.val = true → exec (.ctxEnable e true) s = .next s) ∧
      (s.rb .CTX_CTRL_ENABLE e.val = false → (∀ q, q < 3 → 2 ≤ s.r .Q_SIZE_LOG2 (e.val * 3 + q) ∧ s.r .Q_SIZE_LOG2 (e.val * 3 + q) ≤ 8) →
        exec (.ctxEnable e true) s = .next (((s.wb .CTX_CTRL_ENABLE e.val true).wb .CTX_STAT_RUN e.val true).pumpEvents e.val 512)) ∧
      (∀ q, s.rb .CTX_CTRL_ENABLE e.val = false → q < 3 → ¬(2 ≤ s.r .Q_SIZE_LOG2 (e.val * 3 + q) ∧ s.r .Q_SIZE_LOG2 (e.val * 3 + q) ≤ 8) →
        exec (.ctxEnable e true) s = .next (((off s).wb .CTX_STAT_ERR e.val true).msi e.val 3)) ∧
      Gives (.ctxReset e) s (fun t => t.rb .CTX_CTRL_ENABLE e.val = false ∧ t.rb .CTX_STAT_RUN e.val = false ∧ t.rb .CTX_STAT_ERR e.val = false ∧
        (t.ctx e.val).ring = [] ∧ (t.ctx e.val).toSend = [] ∧ (t.ctx e.val).isOpen = ((s.endSession e.val).ctx e.val).isOpen ∧
        (∀ q, q < 3 → t.r .Q_PROD_IDX (e.val * 3 + q) = 0 ∧ t.r .Q_CONS_IDX (e.val * 3 + q) = 0) ∧ t.claims = (s.endSession e.val).claims) ∧
      exec (.ctxBeat e) s = .next (if (s.ctx e.val).isOpen then s.restartLease e.val else s) ∧
      exec (.pcieLinkEvent e) s = .next (s.endSession e.val) ∧
      exec (.dmaError e) s = .next (((off s).wb .CTX_STAT_ERR e.val true).msi e.val 3)) ∧
    (s.sspiRx = false → exec .sspiWrite s = .next { s with sspiRx := true }) ∧
    (s.sspiRx = true → exec .sspiWrite s = .next { s with sspiDrops := s.sspiDrops + 1 }) ∧
    (∀ k rest, s.sspiReplies = k :: rest →
      exec (.sspiRead true) s = .next { s with sent := some k, sspiReplies := rest } ∧ exec (.sspiRead false) s = .next { s with sent := some k }) ∧
    (∀ e rest, s.sspiReplies = [] → (s.ctx 6).events = e :: rest →
      let u := { s with sent := some ((s.ctx 6).eventPacket 6 e) }
      exec (.sspiRead true) s = .next (u.updCtx 6 (fun x => { x with events := rest })) ∧ exec (.sspiRead false) s = .next u) ∧
    (s.sspiReplies = [] → (s.ctx 6).events = [] → ∀ w, exec (.sspiRead w) s =
      .next { s with sent := some { port := .sspi, ctx := 6, kind := 3, opcode := 0, seq := 0 } }) ∧
    Gives .sspiStatus s (fun t => t.readOut.getLsbD 0 = !s.sspiRx ∧ t.readOut.getLsbD 1 = decide (s.sspiReplies ≠ []) ∧
      t.readOut.getLsbD 2 = decide ((s.ctx 6).events ≠ []) ∧ t.readOut.getLsbD 3 = (s.ctx 6).events.any Event.urgent ∧
      ∀ k, 4 ≤ k → t.readOut.getLsbD k = false) ∧
    (∀ q : Fin 2,
      let mine := s.reassembly.filter (fun r => r.port == q.val)
      exec (.ethNeighbourAnswer q true) s = .next s ∧
      (s.rb .ETH_STAT_LINK q.val = true → exec (.ethNeighbourAnswer q false) s = .next (s.inc .ETH_DROP_COUNT q.val)) ∧
      exec (.ethLinkDown q) s = .next { s.wb .ETH_STAT_LINK q.val false with reassembly := s.reassembly.filter (fun r => r.port != q.val) } ∧
      (s.rb .ETH_STAT_LINK q.val = true → mine.length < 8 →
        exec (.udpReassemblyTimeout q .first) s = .next { s with reassembly := s.reassembly ++ [{ port := q.val, since := s.now0 }] }) ∧
      (s.rb .ETH_STAT_LINK q.val = true → 8 ≤ mine.length → exec (.udpReassemblyTimeout q .first) s = .next (s.inc .ETH_DROP_COUNT q.val)) ∧
      (∀ r rest, mine = r :: rest →
        exec (.udpReassemblyTimeout q .last) s = .next { s with reassembly := s.reassembly.erase r } ∧
        (r.since + msT 10 ≤ s.now0 →
          exec (.udpReassemblyTimeout q .late) s = .next ({ s with reassembly := s.reassembly.erase r }.inc .ETH_ERR_BAD_FRAME q.val)) ∧
        (s.now0 < r.since + msT 10 → exec (.udpReassemblyTimeout q .late) s = .next s)) ∧
      (∀ sp,
        let every := s.ru .net (q.val * 2 + s.addressSet) 13 1
        every ≠ 0 → s.rb .ETH_STAT_LINK q.val = true →
          (Tbl.get 0 s.announced q.val + msT (1000 * every) ≤ s.now0 →
            exec (.announce q false sp) s = .next { s with
              announced := Tbl.set 0 s.announced q.val s.now0
              sent := some { port := if q.val = 0 then .eth0 else .eth1, ctx := 0xFF, kind := 1, opcode := 0, seq := 0, params := s.deviceRecord } }) ∧
          (s.now0 < Tbl.get 0 s.announced q.val + msT (1000 * every) → exec (.announce q false sp) s = .next s)) ∧
      (∀ sp, Gives (.announce q true sp) s (fun t => t.rb .ETH_STAT_LINK q.val = true ∧ t.r .ETH_STAT_SPEED q.val = sp.val)))
/-! Resets, power, health, ageing, the soot log and the update's events. -/

/-- What is in force right after a reset of a kind (R432 to R434, Table 16.4): nothing of the sessions, the ring, the work and the axes is left;
the fuses, the flash, Ember RAM, TB0, and what stands outside the part are as they were; only the domain PD0 is powered. -/
def Claim.warmReset (s t : State) (kind : Nat) : Prop :=
  t.r .PWR_DOM_ON = 1 ∧ t.r .RST_CAUSE_KIND = kind ∧ t.hmpRun = false ∧ t.power.held = true ∧
    t.ctxs = [] ∧ t.claims = [] ∧ t.cfgLease = none ∧ t.head = {} ∧ t.scheds = [] ∧ t.cores = [] ∧ t.grates = [] ∧ t.axes = [] ∧ t.servos = [] ∧
    t.twin = {} ∧ t.safeSet = [] ∧ t.safConns = [] ∧ t.update = {} ∧ t.chans = [] ∧ t.recBufs = [] ∧ t.recs = [] ∧
    t.fuses = s.fuses ∧ t.recsFlash = s.recsFlash ∧ t.mapFlash = s.mapFlash ∧ t.safeFlash = s.safeFlash ∧ t.safeLog = s.safeLog ∧
    t.fw = s.fw ∧ t.fwCur = s.fwCur ∧ t.oldArea = s.oldArea ∧ t.nodes = s.nodes ∧ t.clk = s.clk ∧ t.pending = s.pending ∧ t.tb 0 = s.tb 0 ∧
    t.soot.ember = s.soot.ember ∧ t.soot.memRing = [] ∧ t.soot.queue = [] ∧ t.soot.booted = false

/-- Resets (R382, R432 to R435, R441, R462): RESET_N, the two trips, the loss of the reference and a power-on; the trips leave an entry that the next
boot stores; the watchdog restarts the HMP alone, the third time in 60 s from the other slot; when it runs again every lease starts over. -/
def Claim.ResetsAndRestarts : Prop :=
  ∀ (s : State),
    Gives .resetNRecognised s (fun t => Claim.warmReset s t 1 ∧ t.soot.held = s.soot.held) ∧
    Gives .thermalTrip s (fun t => Claim.warmReset s t 3 ∧ t.soot.held = s.soot.held ++ [s.sootEntry Ev.thermalTrip.code 0xFF 0 0 0]) ∧
    Gives .supplyTrip s (fun t => Claim.warmReset s t 4 ∧ t.soot.held = s.soot.held ++ [s.sootEntry Ev.supplyTrip.code 0xFF 0 0 0]) ∧
    Gives .refclkLoss s (fun t => t.r .RST_CAUSE_KIND = 4 ∧ t.hmpRun = false ∧ t.power.refclk = true ∧
      t.soot.held = s.soot.held ++ [s.sootEntry Ev.supplyTrip.code 0xFF 0 0 0]) ∧
    Gives .powerOn s (fun t => t.r .PWR_DOM_ON = 1 ∧ t.r .RST_CAUSE_KIND = 0 ∧ t.hmpRun = false ∧ t.tbs = [] ∧ t.soot = { booted := false } ∧
      t.ctxs = [] ∧ t.fuses = s.fuses ∧ t.recsFlash = s.recsFlash ∧ t.fw = s.fw ∧
      t.r .RST_BOOTS_COUNT = (s.r .RST_BOOTS_COUNT + 1) % 2 ^ Fld.RST_BOOTS_COUNT.info.width) ∧
    ((s.hmpRun = false ∨ s.recovering = true) → exec .hmpWatchdog s = .next s) ∧
    (s.hmpRun = true → s.recovering = false →
      let u := (s.hmpRestart false).updPower (fun p => { p with
        dogs := ((s.hmpRestart false).now0 :: p.dogs).filter (fun t => decide ((s.hmpRestart false).now0 < t + msT 60000)) })
      exec .hmpWatchdog s = .next (if 3 ≤ u.power.dogs.length then u.updPower (fun p => { p with other := true }) else u)) ∧
    (let u := ({ s with hmpRun := false }.inc .RST_CAUSE_HMP_RESTARTS).raise .hmpRestart
     let v := if u.power.other = true ∧ u.otherHmp = true then
        ((u.setFwIn 0 (1 - u.fwIn 0)).updPower (fun p => { p with other := false, dogs := [] })).raise .bootAlt else u
     s.hmpRestart true = v ∧
     s.hmpRestart false = ({ v with scheds := v.scheds.filter (fun (e : Nat × Sched) => e.2.phase != 1) }).dropWaiters.dropWaiting) ∧
    (s.hmpRun = true ∨ s.asleep = true → exec .hmpRestartDone s = .next s) ∧
    (s.hmpRun = false → s.asleep = false →
      let u := { s with hmpRun := true, update := { s.update with hmpAt := if s.update.began.isSome then some s.now0 else s.update.hmpAt } }
      let v := (List.range 8).foldl (fun t c => if (t.ctx c).isOpen then t.restartLease c else t) u
      exec .hmpRestartDone s = .next ((List.range 8).foldl (fun t c => State.runHeld 40 t c) v))

/-- The boot (R438 to R440): it begins where the part is held in reset, leaves Hibernate, or has never booted; the HMP starts from the slot in force, or
from the other with BOOT_ALT, or not at all, and then the part is in Recovery and serves hosts. -/
def Claim.Boot : Prop :=
  (∀ (s : State) (f : BootFacts), s.power.held = false → s.power.leaving = false → s.power.booted = true →
    exec (.bootStart f) s = .next s.safReady) ∧
  (∀ (s : State) (f : BootFacts), s.power.held = true → s.power.hib = none →
    let u := (s.updPower (fun q => { q with held := false, leaving := false, hib := none, wake := 0, woke := false, booted := true })).bootFallback
    let k := u.fwIn 0
    let good (n : Nat) : Prop := u.belowLimit 0 (u.fwSlot 0 n).version = false
    (f.inForce = true → good k → exec (.bootStart f) s = .next (u.bootHmp false f).safReady) ∧
    ((f.inForce = false ∨ ¬good k) → f.other = true → good (1 - k) →
      exec (.bootStart f) s = .next (((u.setFwIn 0 (1 - k)).raise .bootAlt).bootHmp false f).safReady) ∧
    ((f.inForce = false ∨ ¬good k) → (f.other = false ∨ ¬good (1 - k)) →
      exec (.bootStart f) s = .next (State.safReady { (u.domainsTo 0x613).w .PWR_STAT_STATE 0 2 with hmpRun := true }))) ∧
  -- The first entry that a boot stores is BOOT, then the entries held over the reset.
  (∀ (s : State) (e : SootEntry),
    let t := s.sootStore e
    t.r .SOOT_NEXT_SEQ = (s.r .SOOT_NEXT_SEQ + 1) % 2 ^ 32 ∧
      t.soot.memRing = (({ e with seq := s.r .SOOT_NEXT_SEQ } : SootEntry) :: s.soot.memRing).take 65536 ∧
      t.soot.ember = (({ e with seq := s.r .SOOT_NEXT_SEQ } : SootEntry) :: s.soot.ember).take 512 ∧ t.soot.queue = s.soot.queue)

/-- Power states (R428 to R431, R450): a change done powers the domains of its state; Hibernate shuts every damper and ends every session; the pin and
the timer wake the part only where they are armed; with the last domain switched the command is answered. -/
def Obligations.PowerStateEvents : Prop :=
  ∀ (s : State),
    (s.power.target = none → exec .powerStateChangeDone s = .next s) ∧
    (∀ st, s.power.target = some st →
      let u := (s.wb .PWR_STAT_CHANGING 0 false).updPower (fun q => { q with target := none })
      (st = 0 → exec .powerStateChangeDone s = .next (((u.domainsTo u.runOn).w .PWR_STAT_STATE 0 0).raise .powerState)) ∧
      (st = 1 → exec .powerStateChangeDone s =
        .next (((u.domainsTo (0x613 ||| (u.r .PWR_DOM_ON &&& 0x800))).w .PWR_STAT_STATE 0 1).raise .powerState)) ∧
      (2 ≤ st →
        let v := ((u.raise .powerState).shutAll 3).hubOff
        let w := v.updPower (fun q => { q with hib := some v.now0, doms := [], waiter := none })
        exec .powerStateChangeDone s = .next (if w.power.woke then w.leaveHibernate else w))) ∧
    (bit s.power.wake 0 = false → exec .wakeEdge s = .next s) ∧
    (bit s.power.wake 0 = true → exec .wakeEdge s = .next s.wakeUp) ∧
    (bit s.power.wake 1 = true → s.power.wakeAt ≤ s.now0 → exec .wakeTimer s = .next s.wakeUp) ∧
    ((bit s.power.wake 1 = false ∨ s.now0 < s.power.wakeAt) → exec .wakeTimer s = .next s) ∧
    (s.power.held = false → s.power.hib ≠ none → s.wakeUp = s.updPower (fun q => { q with leaving := true, wake := 0 })) ∧
    (s.power.held = false → s.power.hib = none → s.power.target = none → s.r .PWR_STAT_STATE = 1 →
      s.wakeUp = (s.wb .PWR_STAT_CHANGING 0 true).updPower (fun q => { q with target := some 0, wake := 0 })) ∧
    (∀ d : Fin 12, s.power.doms.find? (fun e => e.1 == d.val) = none → exec (.domainSwitchDone d) s = .next s) ∧
    (∀ (d : Fin 12) (on : Bool), s.power.doms.find? (fun e => e.1 == d.val) = some (d.val, on) →
      let u := s.updPower (fun q => { q with doms := q.doms.filter (fun k => k.1 != d.val) })
      let v := if on then u.domainOn d.val else u.domainOff d.val
      (v.power.doms ≠ [] → exec (.domainSwitchDone d) s = .next v) ∧
      (v.power.doms = [] →
        let w := (v.updPower (fun q => { q with waiter := none })).raise .domainChange 0xFF 0 0 [] v.power.mask
        (∀ p, s.power.waiter = some p → exec (.domainSwitchDone d) s = .next (w.finish 0x0021 p .ok [])) ∧
        (s.power.waiter = none → exec (.domainSwitchDone d) s = .next w))) ∧
    (∀ d, d < 12 → bit ((s.domainOn d).r .PWR_DOM_ON) d = true ∧ bit ((s.domainOff d).r .PWR_DOM_ON) d = false) ∧
    -- The soot log (R448): in order, after the count of what was lost.
    (s.soot.booted = false → exec .sootWrite s = .next s) ∧
    (s.soot.booted = true → s.soot.queue = [] → exec .sootWrite s = .next s) ∧
    (∀ e rest, s.soot.booted = true → s.soot.queue = e :: rest →
      let u := { s with soot := { s.soot with queue := rest, lost := 0 } }
      (s.soot.lost = 0 → exec .sootWrite s = .next (u.sootStore e)) ∧
      (s.soot.lost ≠ 0 → exec .sootWrite s = .next ((u.sootStore (u.sootEntry Ev.sootLost.code 0xFF 0 0 s.soot.lost)).sootStore e)))

/-- Health (R441, R443, R461): the thermal warning is set at 110 degrees and clears at 105, the supply warning follows the monitors, and the core
supply is raised one step at a time, each confirmed within 10 ms or tried again after 60 s. -/
def Claim.HealthEvents : Prop :=
  ∀ (s : State),
    (∀ (d : Fin 8) (tj : W16),
      let u := s.takeTj d.val (toSigned 16 tj.toNat)
      let hot : Prop := ∃ k, k < 8 ∧ 110 * 16 ≤ u.rI .HLTH_TJ_TJ k
      let cool : Prop := ∀ k, k < 8 → u.rI .HLTH_TJ_TJ k ≤ 105 * 16
      (hot → u.rb .HLTH_FLAGS_THERM_WARN = false →
        exec (.thermalWarn d tj) s = .next ((u.wb .HLTH_FLAGS_THERM_WARN 0 true).raise .thermalWarn)) ∧
      (hot → u.rb .HLTH_FLAGS_THERM_WARN = true → exec (.thermalWarn d tj) s = .next u) ∧
      (cool → exec (.thermalWarn d tj) s = .next (u.wb .HLTH_FLAGS_THERM_WARN 0 false)) ∧
      (¬hot → ¬cool → exec (.thermalWarn d tj) s = .next u)) ∧
    (s.rb .HLTH_FLAGS_SUP_WARN = false →
      exec (.supplyWarn true) s = .next ((s.wb .HLTH_FLAGS_SUP_WARN 0 true).raise .supplyWarn)) ∧
    (s.rb .HLTH_FLAGS_SUP_WARN = true → exec (.supplyWarn true) s = .next s) ∧
    exec (.supplyWarn false) s = .next (s.wb .HLTH_FLAGS_SUP_WARN 0 false) ∧
    exec .pmbAlert s = .next (s.raise .supplyWarn) ∧
    (∀ mv,
      let u := s.w .HLTH_VCORE_MV 0 mv
      let t := u.r .HLTH_VCORE_TARGET
      (((mv : Int) - t).natAbs * 100 ≤ t * 3 → exec (.vcoreRewrite mv) s = .next u) ∧
      (t * 3 < ((mv : Int) - t).natAbs * 100 → exec (.vcoreRewrite mv) s = .next (u.updPower (fun q => { q with vout := t })))) ∧
    (let lowLong : Prop := ∃ e ∈ s.power.low, ∃ t, e.2 = some t ∧ t + msT 60000 ≤ s.now0
     (s.r .AG_STAT_VRAISE < 10 → s.power.step = none → s.power.retry = none → lowLong → exec .ageingVraise s =
        .next (s.updPower (fun q => { q with step := some s.now0, retry := none, vout := s.r .HLTH_VCORE_TARGET + 5 }))) ∧
     ((10 ≤ s.r .AG_STAT_VRAISE ∨ s.power.step ≠ none ∨ s.power.retry ≠ none ∨ ¬lowLong) → exec .ageingVraise s = .next s)) ∧
    (∀ mv,
      let u := s.w .HLTH_VCORE_MV 0 mv
      let target := u.r .HLTH_VCORE_TARGET + 5
      (u.power.step = none → exec (.vraiseConfirm mv) s = .next u) ∧
      (∀ t, u.power.step = some t →
        let near : Prop := ((mv : Int) - target).natAbs * 100 ≤ target * 1
        (near → u.now0 ≤ t + msT 10 → exec (.vraiseConfirm mv) s =
          .next ((((u.inc .AG_STAT_VRAISE).w .HLTH_VCORE_TARGET 0 target).updPower (fun q => { q with step := none, low := [] })).raise .ageingVolt)) ∧
        (¬near → u.now0 < t + msT 10 → exec (.vraiseConfirm mv) s = .next u) ∧
        (¬near → t + msT 10 ≤ u.now0 → exec (.vraiseConfirm mv) s =
          .next ((u.updPower (fun q => { q with step := none, retry := some (u.now0 + msT 60000), vout := u.r .HLTH_VCORE_TARGET })).raise .supplyWarn)))) ∧
    (s.power.retry = none → exec .vraiseRetry s = .next s) ∧
    (∀ t, s.power.retry = some t →
      (s.now0 < t → exec .vraiseRetry s = .next s) ∧
      (t ≤ s.now0 → exec .vraiseRetry s = .next (s.updPower (fun q => { q with step := some s.now0, retry := none, vout := s.r .HLTH_VCORE_TARGET + 5 }))))

/-- Ageing (R442, R444 to R446): the guard time never falls, and its rise re-plans every closed mode; hours make a day's points of their lowest values,
and never more than 4,096 days are held; a core is worn only after 60 s at ten raises, and then its spare takes its bindings. -/
def Claim.AgeingEvents : Prop :=
  ∀ (s : State),
    (s.asleep = true → (∀ m, exec (.ageingSlackSample m) s = .next s) ∧ exec .ageingHour s = .next s ∧ exec .ageingDay s = .next s) ∧
    (s.asleep = false → ∀ m,
      let a := (List.range 8).foldl (fun t d =>
        let v := min (m.slack.getD d 0) 65535
        let t := (t.w .AG_SLACK_SLACK d v).takeTj d (m.tj.getD d 0)
        t.updPower (fun q => { q with low := Tbl.modify none q.low d (lowStep t.now0 (decide (v < t.r .AG_CFG_SLACK_LO))) })) s
      let b := (List.range 64).foldl (fun t n =>
        let low := t.r .AG_STAT_VRAISE == 10 && decide (m.cores.getD n 0 < t.r .AG_CFG_SLACK_MIN)
        t.updPower (fun q => { q with lowCore := Tbl.modify none q.lowCore n (lowStep t.now0 low) })) a
      let u := b.w .HLTH_VCORE_MV 0 m.mv
      let g := divCeil (max m.ports.1 m.ports.2 - u.fwdDelay) 1000
      (g ≤ u.r .AG_STAT_GUARD → exec (.ageingSlackSample m) s = .next u) ∧
      (u.r .AG_STAT_GUARD < g → exec (.ageingSlackSample m) s = .next ((u.w .AG_STAT_GUARD 0 (min g 255)).replan.raise .ageingGuard))) ∧
    (s.asleep = false → Gives .ageingHour s (fun t => t.r .AG_HOURS_HOURS = (s.inc .AG_HOURS_HOURS).r .AG_HOURS_HOURS ∧
      (∀ d, d < 8 → (Tbl.get [] t.power.hours d).length = min 24 ((Tbl.get [] s.power.hours d).length + 1)) ∧ t.power.days = s.power.days)) ∧
    ((Tbl.get [] s.power.hours 0).length < 24 → exec .ageingDay s = .next s) ∧
    (24 ≤ (Tbl.get [] s.power.hours 0).length → s.asleep = false →
      let u := s.updPower (fun q => { q with
        days := (List.range 8).foldl (fun t d => Tbl.modify [] t d (fun l => ((Tbl.get [] q.hours d).foldl min 65535 :: l).take 4096)) q.days
        hours := [] })
      let v := u.fresh.2.w .AG_STAT_DAYS 0
        (if (List.range 8).all (fun d => neverFell (Tbl.get [] u.fresh.2.power.days d)) then 65535 else u.fresh.1 % 65536)
      let w := (List.range 8).foldl (fun t k => match t.fitStatus k with
        | 2 => t.warnOnce k .ageingWarn
        | 3 => t.warnOnce (8 + k) .ageingNofit
        | _ => t) v
      exec .ageingDay s = .next (if w.r .AG_STAT_DAYS < w.r .AG_CFG_WARN_DAYS then w.warnOnce 16 .ageingWarn else w)) ∧
    (∀ n : Fin 64,
      let due : Prop := ∃ t, Tbl.get none s.power.lowCore n.val = some t ∧ t + msT 60000 ≤ s.now0
      let u := if n.val < 32 then s.w .AG_CORE_LO_WORN 0 (setBit (s.r .AG_CORE_LO_WORN) n.val true)
        else s.w .AG_CORE_HI_WORN 0 (setBit (s.r .AG_CORE_HI_WORN) (n.val - 32) true)
      ((¬due ∨ s.worn n.val = true ∨ s.r .AG_STAT_VRAISE ≠ 10) → exec (.ageingCoreWorn n) s = .next s) ∧
      (due → s.worn n.val = false → s.r .AG_STAT_VRAISE = 10 → u.spareOf n.val = none →
        exec (.ageingCoreWorn n) s = .next (u.raise .ageingNofit)) ∧
      (∀ k, due → s.worn n.val = false → s.r .AG_STAT_VRAISE = 10 → u.spareOf n.val = some k →
        let g := n.val / 16
        let ds := u.allDescs.map (fun d => if d.1 = g && descCore d.2.2 = n.val % 16
          then (d.1, d.2.1, patch d.2.2 3 [BitVec.ofNat 8 (fld d.2.2 3 1 / 16 * 16 + k)]) else d)
        let fits := (List.range 8).all (fun j => (u.sched j).phase != 2 || u.loadFits ds j (u.sched j))
        (fits = false → exec (.ageingCoreWorn n) s = .next (u.raise .ageingNofit)) ∧
        (fits = true →
          let v := u.updCore (g * 16 + k) (fun x => { x with prog := (u.core n.val).prog })
          let mine := (v.dieDescs g).filter (fun d => descCore d.2 == n.val % 16)
          exec (.ageingCoreWorn n) s = .next ((v.updGrate g (fun x => { x with moves := x.moves ++ mine.map (fun d =>
            { core := k, desc := d.1, lines := (32768 - descSvbase d.2) / 32, cycle := cycAdd v.cycle 16 }) })).raise .ageingCore))))

/-- The events of an update (R417, R422, R423): an activation at its tick, its readiness in time, a confirmation that does not come and a fall-back at
its tick; none acts before its time. -/
def Obligations.UpdateEvents : Prop :=
  ∀ (s : State),
    (s.r .UPD_CYCLE_CYCLE = 0xFFFFFFFF → exec .updateActivationTick s = .next s) ∧
    (s.r .UPD_CYCLE_CYCLE ≠ 0xFFFFFFFF → s.tickDue (s.r .UPD_CYCLE_CYCLE) = true → exec .updateActivationTick s = .next s.activate) ∧
    (s.tickDue (s.r .UPD_CYCLE_CYCLE) = false → exec .updateActivationTick s = .next s) ∧
    (s.update.fall = none → exec .updateFallbackTick s = .next s) ∧
    (∀ c cause, s.update.fall = some (c, cause) →
      (s.tickDue c = true → exec .updateFallbackTick s = .next (s.fallNow cause)) ∧ (s.tickDue c = false → exec .updateFallbackTick s = .next s)) ∧
    (s.update.ends = none → exec .updateConfirmTimeout s = .next s) ∧
    (∀ t, s.update.ends = some t →
      (t ≤ s.now0 → s.r .UPD_STAT_STATE = 3 → exec .updateConfirmTimeout s = .next (s.fallBack 2)) ∧
      ((s.now0 < t ∨ s.r .UPD_STAT_STATE ≠ 3) → exec .updateConfirmTimeout s = .next s)) ∧
    (s.update.began = none → exec .updateReadyCheck s = .next s) ∧
    (∀ t, s.update.began = some t →
      let withHmp : Prop := ∃ e ∈ mfCarried s.update.manifest, partType e = 0
      let hmpOk : Prop := ¬withHmp ∨ ∃ h, s.update.hmpAt = some h ∧ h ≤ t + msT 500
      let safOk : Prop := s.update.safDone = false ∨ s.r .SAF_STAT_STATE = 1
      (hmpOk → safOk → exec .updateReadyCheck s = .next ((s.updUpdate (fun u => { u with began := none })).raise .updateActive)) ∧
      (¬hmpOk → t + msT 500 ≤ s.now0 → exec .updateReadyCheck s = .next (s.fallBack 3)) ∧
      (hmpOk → ¬safOk → (s.r .SAF_STAT_STATE = 2 ∨ t + msT 2000 ≤ s.now0) → exec .updateReadyCheck s = .next (s.fallBack 3)) ∧
      (hmpOk → ¬safOk → s.r .SAF_STAT_STATE ≠ 2 → s.now0 < t + msT 2000 → exec .updateReadyCheck s = .next s)) ∧
    (∀ cause, s.update.fall = none →
      (s.cyclic = true → s.fallBack cause = s.updUpdate (fun u => { u with fall := some (cycAdd s.cycle 16, cause), began := none, ends := none })) ∧
      (s.cyclic = false → s.fallBack cause = s.fallNow cause)) ∧
    (∀ c, s.tickDue c = (!s.cyclic || decide (cycDiff s.cycle c < 2 ^ 31)))

/-- Resets, restarts and the boot (R382, R432 to R441, R448, R462). -/
def Obligations.ResetsAndBoot : Prop := Claim.ResetsAndRestarts ∧ Claim.Boot

/-- Health and ageing (R441 to R446, R461). -/
def Obligations.HealthAndAgeingEvents : Prop := Claim.HealthEvents ∧ Claim.AgeingEvents

/-! The whole block, and the loop cores as a whole. -/

/-- The issue that a loop-core command brings. -/
def Claim.issueOf : Instr → Option Issue
  | .add k _ _ => some k
  | .sub k _ => some k
  | .adds k _ _ => some k
  | .subs k _ => some k
  | .and k _ _ => some k
  | .or k _ _ => some k
  | .xor k _ _ => some k
  | .shl k _ _ => some k
  | .shr k _ _ => some k
  | .shra k _ _ => some k
  | .shls k _ _ => some k
  | .min k _ => some k
  | .max k _ => some k
  | .abs k _ => some k
  | .neg k _ => some k
  | .cls k _ => some k
  | .slt k _ _ => some k
  | .sltu k _ _ => some k
  | .mul k _ => some k
  | .mulf k _ => some k
  | .mulhu k _ => some k
  | .ldw k _ => some k
  | .ldh k _ => some k
  | .ldhu k _ => some k
  | .ldb k _ => some k
  | .ldbu k _ => some k
  | .stw k _ => some k
  | .sth k _ => some k
  | .stb k _ => some k
  | .ld2 k _ => some k
  | .st2 k _ => some k
  | .mac2 k _ => some k
  | .msu2 k _ => some k
  | .mpy2 k _ => some k
  | .macx2 k _ => some k
  | .ldp2 k _ => some k
  | .mac k _ => some k
  | .msu k _ => some k
  | .mpy k _ => some k
  | .addac k _ => some k
  | .subac k _ => some k
  | .clrac k _ => some k
  | .negac k _ => some k
  | .absac k _ => some k
  | .shac k _ => some k
  | .mvac k _ => some k
  | .mvda k _ => some k
  | .mvacl k _ => some k
  | .mvacm k _ => some k
  | .mvach k _ => some k
  | .br k _ => some k
  | .call k _ => some k
  | .beqz k _ => some k
  | .bnez k _ => some k
  | .bltz k _ => some k
  | .bgez k _ => some k
  | .bgtz k _ => some k
  | .blez k _ => some k
  | .bfs k _ => some k
  | .bfc k _ => some k
  | .jr k _ => some k
  | .ret k _ => some k
  | .repi k _ => some k
  | .repr k _ => some k
  | .hysb k _ => some k
  | .hysv k _ => some k
  | .hyst k _ => some k
  | .csc k _ => some k
  | .crot k _ => some k
  | .cvec k _ => some k
  | .mova k _ => some k
  | .movda k _ => some k
  | .movm k _ => some k
  | .movdm k _ => some k
  | .adda k _ => some k
  | .movc k _ => some k
  | .movtc k _ => some k
  | .movde k _ => some k
  | .moved k _ => some k
  | .eset k _ => some k
  | .erh k _ => some k
  | .ehead k _ => some k
  | .efix k _ => some k
  | .eadd k _ => some k
  | .esub k _ => some k
  | .shle k _ => some k
  | .mvace k _ => some k
  | .ldi k _ _ => some k
  | .ldia k _ _ => some k
  | .ldim k _ _ => some k
  | .nop k _ => some k
  | .tend k _ => some k
  | .brk k _ => some k
  | _ => none

/-- A step takes the command at the front of the queue, and is its effect on the block with the queue's rest; with none waiting one system clock passes
(the idle step is the model's choice, log 1). -/
def Obligations.StepTakesFrontCommand : Prop :=
  (∀ (c : Instr) (rest : List Instr) (s : State), step { s with pending := c :: rest } = exec c { s with pending := rest }) ∧
  (∀ s : State, s.pending = [] → step s = .next (s.clocks 1))

/-- What reset leaves: every register field at its table's value, no command waiting, no session, no ring, no task, no axis in a fault class, every memory
as it reads before anything is written. Where the manual gives no value it is the model's (log 8). -/
def Obligations.ResetValues : Prop :=
  (∀ (f : Fld) (i : Nat), State.reset.r f i = f.info.reset) ∧
  State.reset.pending = [] ∧ (∀ c, (State.reset.ctx c).isOpen = false) ∧ State.reset.cyclic = false ∧ State.reset.kindles = false ∧
  State.reset.headIs .off = true ∧ (∀ a, State.reset.fc a = 0) ∧ (∀ id, State.reset.owner id = none) ∧ State.reset.cfgLease = none ∧
  (∀ n, (State.reset.core n).task = none ∧ State.reset.issues n = false) ∧ (∀ g, (State.reset.grate g).ready = []) ∧
  State.reset.r .PWR_DOM_ON = 0x613 ∧ State.reset.r .AG_STAT_DAYS = 0xFFFF ∧ State.reset.readOut = 0

/-- Every command answers a next state, in every state: the block neither faults nor refuses. -/
def Obligations.NoCommandStops : Prop := ∀ (c : Instr) (s : State), ∃ t, exec c s = .next t

/-- Words written out from Tables 4.6 and 4.7, field by field, and the instructions they name; words that name none (R115). -/
def Obligations.LoopWordsDecode : Prop :=
  ∀ (k : Issue) (v : W32),
    -- ADD D3, D1, D2: format 0, op 0, Dd [21:17], Ds [16:12], Dt [11:7].
    decodeLoop k 0b0000_000000_00011_00001_00010_0000000#32 v = some (.add k false 0b00011_00001_00010_0000000#22) ∧
    -- ADD D3, D1, -1: format 1, the immediate in [11:0].
    decodeLoop k 0b0001_000000_00011_00001_111111111111#32 v = some (.add k true 0b00011_00001_111111111111#22) ∧
    -- SUB, MULF.
    decodeLoop k 0b0000_000001_00011_00001_00010_0000000#32 v = some (.sub k 0b00011_00001_00010_0000000#22) ∧
    decodeLoop k 0b0000_010011_00011_00001_00010_0000000#32 v = some (.mulf k 0b00011_00001_00010_0000000#22) ∧
    -- STW: format 2, op 5 in [27:24].
    decodeLoop k 0b0010_0101_00111_0011_0_0_0000000000001#32 v = some (.stw k 0b00111_0011_0_0_0000000000001#24) ∧
    -- MAC2 with two parallel loads: format 3, op 0 in [27:25].
    decodeLoop k 0x308AC1A0#32 v = some (.mac2 k 0x08AC1A0#25) ∧
    -- CLRAC, BEQZ, JR, REPI, HYSB, MOVC, ESET.
    decodeLoop k 0b0100_000101_00_00000000000000000000#32 v = some (.clrac k 0#22) ∧
    decodeLoop k 0b0101_0010_00101_0000000000000001010#32 v = some (.beqz k 0b00101_0000000000000001010#24) ∧
    decodeLoop k 0b0101_1010_00101_0000000000000000000#32 v = some (.jr k 0b00101_0000000000000000000#24) ∧
    decodeLoop k 0b0110_00_0000000100_0000000000001000#32 v = some (.repi k 0b0000000100_0000000000001000#26) ∧
    decodeLoop k 0b0111_000000_00011_00100_00110_0000000#32 v = some (.hysb k 0b00011_00100_00110_0000000#22) ∧
    decodeLoop k 0b1000_000101_00011_00000_000000000010#32 v = some (.movc k 0b00011_00000_000000000010#22) ∧
    decodeLoop k 0b1001_000000_011_0000000000011111111#32 v = some (.eset k 0b011_0000000000011111111#22) ∧
    -- LDI takes its second word as it stands; NOP, TEND and BRK.
    decodeLoop k 0b1010_000000_00101_00000000000000000#32 v = some (.ldi k 0b00101_00000000000000000#22 v) ∧
    decodeLoop k 0xB0000000#32 v = some (.nop k 0#22) ∧ decodeLoop k 0xB0400000#32 v = some (.tend k 0#22) ∧
    decodeLoop k 0xB0800000#32 v = some (.brk k 0#22) ∧
    -- Formats 0xC to 0xF, an op that no row has, and an immediate form that no row has.
    decodeLoop k 0xC0000000#32 v = none ∧ decodeLoop k 0xFFFFFFFF#32 v = none ∧ decodeLoop k 0b0000_010101_0000000000000000000000#32 v = none ∧
    decodeLoop k 0b0001_000001_0000000000000000000000#32 v = none ∧ decodeLoop k 0b1011_000011_0000000000000000000000#32 v = none

/-- Reading and writing instruction words agree, for every instruction of a loop core with every operand: what is written reads back as it was, and a
word that reads as an instruction is the word written for it. -/
def Obligations.LoopEncodingRoundTrip : Prop :=
  (∀ (i : Instr) (ws : List W32), encodeLoop i = some ws →
    ∃ k, Claim.issueOf i = some k ∧ 1 ≤ ws.length ∧ ws.length ≤ 2 ∧ ∀ v, decodeLoop k (ws.headD 0) (ws.getD 1 v) = some i) ∧
  (∀ (k : Issue) (w v : W32) (i : Instr), decodeLoop k w v = some i →
    Claim.issueOf i = some k ∧ (encodeLoop i = some [w] ∨ encodeLoop i = some [w, v])) ∧
  (∀ (i : Instr) (k : Issue), Claim.issueOf i = some k → (encodeLoop i).isSome = true)

/-- How an instruction comes to issue (R105, R115, R122): a core that does not issue takes none; an uncorrectable error in its word and a word that
names no instruction trap; a command whose words do not stand at the program counter does nothing (the model's choice, log 17). -/
def Obligations.LoopIssueChecks : Prop :=
  ∀ (i : Instr) (k : Issue) (ws : List W32) (s : State), Claim.issueOf i = some k → encodeLoop i = some ws →
    let n := k.core.val
    let pc := (s.core n).pc
    let named := LoopOp.ofWord ((s.core n).word pc)
    (s.issues n = false → exec i s = .next s) ∧
    (s.issues n = true → k.ecc = .progError → exec i s = .next (((s.w .LC_STAT_PC n pc).inc .LC_ECC_UNCORR n).trap n pc .eccProg)) ∧
    (s.issues n = true → k.ecc ≠ .progError → named = none → exec i s = .next ((s.noted k).trap n pc .illegal)) ∧
    (s.issues n = true → k.ecc ≠ .progError → named ≠ none → (s.core n).holds pc ws = false → exec i s = .next s)

/-- What no instruction of a loop core changes, whatever it does: other cores, the shared memory (a store waits for the commit), the configuration, the
ring, the sessions' rights, the time bases, SAF, the nodes, the firmware. -/
def Claim.loopFrame (s t : State) (n : Nat) : Prop :=
  (∀ m, m ≠ n → t.core m = s.core m) ∧
  t.sram = s.sram ∧ t.clk = s.clk ∧ t.pending = s.pending ∧ t.fuses = s.fuses ∧ t.recs = s.recs ∧ t.recsNext = s.recsNext ∧ t.regsFlash = s.regsFlash ∧
  t.recsFlash = s.recsFlash ∧ t.claims = s.claims ∧ t.cfgLease = s.cfgLease ∧ t.hmpRun = s.hmpRun ∧ t.head = s.head ∧ t.scheds = s.scheds ∧
  t.hnodes = s.hnodes ∧ t.addrMap = s.addrMap ∧ t.segIn = s.segIn ∧ t.cmds = s.cmds ∧ t.sentHist = s.sentHist ∧ t.descs = s.descs ∧
  t.descsNext = s.descsNext ∧ t.arrMap = s.arrMap ∧ t.fbs = s.fbs ∧ t.emus = s.emus ∧ t.posTab = s.posTab ∧ t.steppers = s.steppers ∧ t.vms = s.vms ∧
  t.cams = s.cams ∧ t.recBufs = s.recBufs ∧ t.convs = s.convs ∧ t.tbs = s.tbs ∧ t.tins = s.tins ∧ t.touts = s.touts ∧ t.ptps = s.ptps ∧
  t.nodes = s.nodes ∧ t.safeSet = s.safeSet ∧ t.safeEdit = s.safeEdit ∧ t.safeFlash = s.safeFlash ∧ t.safConns = s.safConns ∧ t.safSigs = s.safSigs ∧
  t.power = s.power ∧ t.update = s.update ∧ t.fw = s.fw ∧ t.fwCur = s.fwCur

/-- The frame of every instruction of a loop core, whether it completes, traps or does nothing. -/
def Obligations.LoopInstructionFrame : Prop :=
  ∀ (i : Instr) (k : Issue) (s t : State), Claim.issueOf i = some k → exec i s = .next t → Claim.loopFrame s t k.core.val

/-- A trap (R123): the task ends, nothing of it is committed, LC_TRAP holds the cause and the PC, the core is idle, each axis of the task stands in FC3
at least, and its slot leaves empty. -/
def Obligations.TrapEffect : Prop :=
  ∀ (s : State) (n pc : Nat) (cause : Trap) (k : Task), n < 64 → pc < 16384 → (s.core n).task = some k →
    let t := s.trap n pc cause
    t.r .LC_TRAP_CAUSE n = cause.code ∧ t.r .LC_TRAP_PC n = pc ∧ t.r .LC_STAT_STATE n = 0 ∧
      t.core n = { view := (s.core n).view, prog := (s.core n).prog, pc := (s.core n).pc, idleAt := s.clk } ∧
      (∀ a ∈ (s.taskAxes k.bytes k.cycle).take 4, 3 ≤ t.fc a ∧ (t.axis a).noInhibit = some (cycAdd k.cycle 1)) ∧
      Claim.loopFrame s t n
end

