-- ==== Sys2Proof/Laws/Tbl.lean ====
section
/-! SUPPORT. Sys2Proof/Laws/Tbl.lean: the laws of the sparse tables: a read after a write, and the canonical form that every write keeps. -/

namespace Sys2Proof.Machine

theorem Tbl.get_erase_same {α : Type} (d : α) (t : Tbl α) (i : Nat) : Tbl.get d (Tbl.erase t i) i = d := by
  induction t with
  | nil => rfl
  | cons e t ih =>
    obtain ⟨k, v⟩ := e
    by_cases h : k = i <;> simp [Tbl.erase, Tbl.get, h, ih]

theorem Tbl.get_erase_other {α : Type} (d : α) (t : Tbl α) {i j : Nat} (h : i ≠ j) :
    Tbl.get d (Tbl.erase t i) j = Tbl.get d t j := by
  induction t with
  | nil => rfl
  | cons e t ih =>
    obtain ⟨k, v⟩ := e
    by_cases hk : k = i
    · subst hk; simp [Tbl.erase, Tbl.get, ih, h]
    · simp only [Tbl.erase, hk, if_false, Tbl.get, ih]

theorem Tbl.get_insert_same {α : Type} (d : α) (t : Tbl α) (i : Nat) (x : α) : Tbl.get d (Tbl.insert t i x) i = x := by
  induction t with
  | nil => simp [Tbl.insert, Tbl.get]
  | cons e t ih =>
    obtain ⟨k, v⟩ := e
    by_cases h : k = i
    · simp [Tbl.insert, Tbl.get, h]
    · by_cases hl : i < k <;> simp [Tbl.insert, Tbl.get, h, hl, ih]

theorem Tbl.get_insert_other {α : Type} (d : α) (t : Tbl α) {i j : Nat} (x : α) (h : i ≠ j) :
    Tbl.get d (Tbl.insert t i x) j = Tbl.get d t j := by
  induction t with
  | nil => simp [Tbl.insert, Tbl.get, h]
  | cons e t ih =>
    obtain ⟨k, v⟩ := e
    by_cases hk : k = i
    · subst hk; simp [Tbl.insert, Tbl.get, h]
    · by_cases hl : i < k <;> simp [Tbl.insert, Tbl.get, h, hk, hl, ih]

/-- A read after a write of the same key gives the value written. -/
@[simp] theorem Tbl.get_set_same {α : Type} [DecidableEq α] (d : α) (t : Tbl α) (i : Nat) (x : α) :
    Tbl.get d (Tbl.set d t i x) i = x := by
  unfold Tbl.set
  split
  · rw [Tbl.get_erase_same]; exact Eq.symm ‹_›
  · exact Tbl.get_insert_same d t i x

/-- A write leaves every other key alone. -/
theorem Tbl.get_set_other {α : Type} [DecidableEq α] (d d' : α) (t : Tbl α) {i j : Nat} (x : α) (h : i ≠ j) :
    Tbl.get d (Tbl.set d' t i x) j = Tbl.get d t j := by
  unfold Tbl.set
  split
  · exact Tbl.get_erase_other d t h
  · exact Tbl.get_insert_other d t x h

/-- Both at once. -/
theorem Tbl.get_set {α : Type} [DecidableEq α] (d : α) (t : Tbl α) (i j : Nat) (x : α) :
    Tbl.get d (Tbl.set d t i x) j = if i = j then x else Tbl.get d t j := by
  split
  · next h => subst h; exact Tbl.get_set_same d t i x
  · next h => exact Tbl.get_set_other d d t x h

theorem Tbl.get_modify {α : Type} [DecidableEq α] (d : α) (t : Tbl α) (i j : Nat) (f : α → α) :
    Tbl.get d (Tbl.modify d t i f) j = if i = j then f (Tbl.get d t i) else Tbl.get d t j := Tbl.get_set d t i j _

@[simp] theorem Tbl.get_modify_same {α : Type} [DecidableEq α] (d : α) (t : Tbl α) (i : Nat) (f : α → α) :
    Tbl.get d (Tbl.modify d t i f) i = f (Tbl.get d t i) := Tbl.get_set_same d t i _

/-! The canonical form. -/

theorem Tbl.above_mono {α : Type} {a b : Nat} (h : a ≤ b) : ∀ t : Tbl α, Tbl.above b t = true → Tbl.above a t = true
  | [], _ => rfl
  | (k, _) :: t, hb => by
    simp only [Tbl.above, Bool.and_eq_true, decide_eq_true_eq] at hb ⊢
    exact ⟨by omega, Tbl.above_mono h t hb.2⟩

theorem Tbl.above_erase {α : Type} (b i : Nat) : ∀ t : Tbl α, Tbl.above b t = true → Tbl.above b (Tbl.erase t i) = true
  | [], _ => rfl
  | (k, v) :: t, h => by
    simp only [Tbl.above, Bool.and_eq_true, decide_eq_true_eq] at h
    unfold Tbl.erase
    split
    · exact Tbl.above_erase b i t h.2
    · simp only [Tbl.above, Bool.and_eq_true, decide_eq_true_eq]; exact ⟨h.1, Tbl.above_erase b i t h.2⟩

theorem Tbl.above_insert {α : Type} {b i : Nat} (x : α) (hi : b < i) : ∀ t : Tbl α, Tbl.above b t = true →
    Tbl.above b (Tbl.insert t i x) = true
  | [], _ => by simp [Tbl.insert, Tbl.above, hi]
  | (k, v) :: t, h => by
    have h' := h
    simp only [Tbl.above, Bool.and_eq_true, decide_eq_true_eq] at h
    unfold Tbl.insert
    split
    · simp [Tbl.above, hi, h.2]
    · split
      · simp [Tbl.above, hi, h.1, h.2]
      · simp only [Tbl.above, Bool.and_eq_true, decide_eq_true_eq]; exact ⟨h.1, Tbl.above_insert x hi t h.2⟩

theorem Tbl.wf_erase {α : Type} [DecidableEq α] (d : Nat → α) (i : Nat) : ∀ t : Tbl α, Tbl.wf d t = true →
    Tbl.wf d (Tbl.erase t i) = true
  | [], _ => rfl
  | (k, v) :: t, h => by
    simp only [Tbl.wf, Bool.and_eq_true] at h
    unfold Tbl.erase
    split
    · exact Tbl.wf_erase d i t h.2
    · simp only [Tbl.wf, Bool.and_eq_true]
      exact ⟨⟨h.1.1, Tbl.above_erase k i t h.1.2⟩, Tbl.wf_erase d i t h.2⟩

theorem Tbl.wf_insert {α : Type} [DecidableEq α] (d : Nat → α) (i : Nat) (x : α) (hx : x ≠ d i) : ∀ t : Tbl α,
    Tbl.wf d t = true → Tbl.wf d (Tbl.insert t i x) = true
  | [], _ => by simp [Tbl.insert, Tbl.wf, Tbl.above, hx]
  | (k, v) :: t, h => by
    have h0 := h
    simp only [Tbl.wf, Bool.and_eq_true, decide_eq_true_eq] at h
    unfold Tbl.insert
    split
    · next hk => subst hk; simp [Tbl.wf, hx, h.1.2, h.2]
    · next hk =>
      split
      · next hl =>
        simp only [Tbl.wf, Bool.and_eq_true, decide_eq_true_eq, Tbl.above]
        exact ⟨⟨hx, hl, Tbl.above_mono (Nat.le_of_lt hl) t h.1.2⟩, ⟨h.1.1, h.1.2⟩, h.2⟩
      · next hl =>
        simp only [Tbl.wf, Bool.and_eq_true, decide_eq_true_eq]
        exact ⟨⟨h.1.1, Tbl.above_insert x (by omega) t h.1.2⟩, Tbl.wf_insert d i x hx t h.2⟩

/-- A write keeps the canonical form. -/
theorem Tbl.wf_set {α : Type} [DecidableEq α] (d : Nat → α) (t : Tbl α) (i : Nat) (x : α) (h : Tbl.wf d t = true) :
    Tbl.wf d (Tbl.set (d i) t i x) = true := by
  unfold Tbl.set
  split
  · exact Tbl.wf_erase d i t h
  · next hx => exact Tbl.wf_insert d i x hx t h

theorem Tbl.wf_modify {α : Type} [DecidableEq α] (d : Nat → α) (t : Tbl α) (i : Nat) (f : α → α) (h : Tbl.wf d t = true) :
    Tbl.wf d (Tbl.modify (d i) t i f) = true := Tbl.wf_set d t i _ h

/-- Leaving entries out keeps the bound and the canonical form. -/
theorem Tbl.above_filter {α : Type} (b : Nat) (p : Nat × α → Bool) : ∀ t : Tbl α, Tbl.above b t = true →
    Tbl.above b (t.filter p) = true
  | [], _ => rfl
  | (k, v) :: t, h => by
    simp only [Tbl.above, Bool.and_eq_true, decide_eq_true_eq] at h
    by_cases hp : p (k, v) = true
    · simp [hp, Tbl.above, h.1, Tbl.above_filter b p t h.2]
    · simp [hp, Tbl.above_filter b p t h.2]

theorem Tbl.wf_filter {α : Type} [DecidableEq α] (d : Nat → α) (p : Nat × α → Bool) : ∀ t : Tbl α, Tbl.wf d t = true →
    Tbl.wf d (t.filter p) = true
  | [], _ => rfl
  | (k, v) :: t, h => by
    simp only [Tbl.wf, Bool.and_eq_true, decide_eq_true_eq] at h
    by_cases hp : p (k, v) = true
    · simp [hp, Tbl.wf, h.1.1, Tbl.above_filter k p t h.1.2, Tbl.wf_filter d p t h.2]
    · simp [hp, Tbl.wf_filter d p t h.2]

/-! Memories of bytes. -/

theorem Mem.read_write (m : Mem) (a b : Nat) (v : Byte) : (m.write a v).read b = if a = b then v else m.read b := Tbl.get_set 0 m a b v

/-- A run of bytes leaves every byte outside it alone. -/
theorem Mem.read_writeN_outside (bs : List Byte) : ∀ (m : Mem) (a b : Nat), b < a ∨ a + bs.length ≤ b →
    (m.writeN a bs).read b = m.read b := by
  induction bs with
  | nil => intros; rfl
  | cons v bs ih =>
    intro m a b h
    simp only [List.length_cons] at h
    rw [Mem.writeN, ih _ _ _ (by omega), Mem.read_write, if_neg (by omega)]

/-- Memory operations keep the canonical form. -/
theorem Mem.wf_write (m : Mem) (a : Nat) (v : Byte) (h : m.wf = true) : (m.write a v).wf = true :=
  Tbl.wf_set (fun _ => (0 : Byte)) m a v h

theorem Mem.wf_writeN (bs : List Byte) : ∀ (m : Mem) (a : Nat), m.wf = true → (m.writeN a bs).wf = true := by
  induction bs with
  | nil => intro m a h; exact h
  | cons v bs ih => intro m a h; exact ih _ _ (Mem.wf_write m a v h)

end Sys2Proof.Machine
end

