-- ==== Sys2Proof/Laws/State.lean ====
section
/-! SUPPORT. Sys2Proof/Laws/State.lean: what each one-field update of the state leaves alone, field by field, and what it writes. -/

namespace Sys2Proof.Machine

variable (s : State)

/-! State.w writes `regs`. -/
@[simp] theorem State.w_axes (f : Fld) (i v : Nat) : (s.w f i v).axes = s.axes := rfl
@[simp] theorem State.w_pending (f : Fld) (i v : Nat) : (s.w f i v).pending = s.pending := rfl
@[simp] theorem State.w_free (f : Fld) (i v : Nat) : (s.w f i v).free = s.free := rfl
@[simp] theorem State.w_clk (f : Fld) (i v : Nat) : (s.w f i v).clk = s.clk := rfl
@[simp] theorem State.w_fuses (f : Fld) (i v : Nat) : (s.w f i v).fuses = s.fuses := rfl
@[simp] theorem State.w_recs (f : Fld) (i v : Nat) : (s.w f i v).recs = s.recs := rfl
@[simp] theorem State.w_recsNext (f : Fld) (i v : Nat) : (s.w f i v).recsNext = s.recsNext := rfl
@[simp] theorem State.w_regsFlash (f : Fld) (i v : Nat) : (s.w f i v).regsFlash = s.regsFlash := rfl
@[simp] theorem State.w_recsFlash (f : Fld) (i v : Nat) : (s.w f i v).recsFlash = s.recsFlash := rfl
@[simp] theorem State.w_sent (f : Fld) (i v : Nat) : (s.w f i v).sent = s.sent := rfl
@[simp] theorem State.w_readOut (f : Fld) (i v : Nat) : (s.w f i v).readOut = s.readOut := rfl
@[simp] theorem State.w_ctxs (f : Fld) (i v : Nat) : (s.w f i v).ctxs = s.ctxs := rfl
@[simp] theorem State.w_claims (f : Fld) (i v : Nat) : (s.w f i v).claims = s.claims := rfl
@[simp] theorem State.w_cfgLease (f : Fld) (i v : Nat) : (s.w f i v).cfgLease = s.cfgLease := rfl
@[simp] theorem State.w_msix (f : Fld) (i v : Nat) : (s.w f i v).msix = s.msix := rfl
@[simp] theorem State.w_sspiReplies (f : Fld) (i v : Nat) : (s.w f i v).sspiReplies = s.sspiReplies := rfl
@[simp] theorem State.w_sspiRx (f : Fld) (i v : Nat) : (s.w f i v).sspiRx = s.sspiRx := rfl
@[simp] theorem State.w_hmpRun (f : Fld) (i v : Nat) : (s.w f i v).hmpRun = s.hmpRun := rfl
@[simp] theorem State.w_replay (f : Fld) (i v : Nat) : (s.w f i v).replay = s.replay := rfl
@[simp] theorem State.w_fwdOut (f : Fld) (i v : Nat) : (s.w f i v).fwdOut = s.fwdOut := rfl
@[simp] theorem State.w_soot (f : Fld) (i v : Nat) : (s.w f i v).soot = s.soot := rfl
@[simp] theorem State.w_head (f : Fld) (i v : Nat) : (s.w f i v).head = s.head := rfl
@[simp] theorem State.w_scheds (f : Fld) (i v : Nat) : (s.w f i v).scheds = s.scheds := rfl
@[simp] theorem State.w_hnodes (f : Fld) (i v : Nat) : (s.w f i v).hnodes = s.hnodes := rfl
@[simp] theorem State.w_segIn (f : Fld) (i v : Nat) : (s.w f i v).segIn = s.segIn := rfl
@[simp] theorem State.w_cmds (f : Fld) (i v : Nat) : (s.w f i v).cmds = s.cmds := rfl
@[simp] theorem State.w_cores (f : Fld) (i v : Nat) : (s.w f i v).cores = s.cores := rfl
@[simp] theorem State.w_sram (f : Fld) (i v : Nat) : (s.w f i v).sram = s.sram := rfl
@[simp] theorem State.w_grates (f : Fld) (i v : Nat) : (s.w f i v).grates = s.grates := rfl
@[simp] theorem State.w_descs (f : Fld) (i v : Nat) : (s.w f i v).descs = s.descs := rfl
@[simp] theorem State.w_descsNext (f : Fld) (i v : Nat) : (s.w f i v).descsNext = s.descsNext := rfl
@[simp] theorem State.w_reload (f : Fld) (i v : Nat) : (s.w f i v).reload = s.reload := rfl
@[simp] theorem State.w_insts (f : Fld) (i v : Nat) : (s.w f i v).insts = s.insts := rfl
@[simp] theorem State.w_fbs (f : Fld) (i v : Nat) : (s.w f i v).fbs = s.fbs := rfl
@[simp] theorem State.w_emus (f : Fld) (i v : Nat) : (s.w f i v).emus = s.emus := rfl
@[simp] theorem State.w_servos (f : Fld) (i v : Nat) : (s.w f i v).servos = s.servos := rfl
@[simp] theorem State.w_motions (f : Fld) (i v : Nat) : (s.w f i v).motions = s.motions := rfl
@[simp] theorem State.w_steppers (f : Fld) (i v : Nat) : (s.w f i v).steppers = s.steppers := rfl
@[simp] theorem State.w_vms (f : Fld) (i v : Nat) : (s.w f i v).vms = s.vms := rfl
@[simp] theorem State.w_groups (f : Fld) (i v : Nat) : (s.w f i v).groups = s.groups := rfl
@[simp] theorem State.w_recBufs (f : Fld) (i v : Nat) : (s.w f i v).recBufs = s.recBufs := rfl
@[simp] theorem State.w_convs (f : Fld) (i v : Nat) : (s.w f i v).convs = s.convs := rfl
@[simp] theorem State.w_tbs (f : Fld) (i v : Nat) : (s.w f i v).tbs = s.tbs := rfl
@[simp] theorem State.w_tins (f : Fld) (i v : Nat) : (s.w f i v).tins = s.tins := rfl
@[simp] theorem State.w_touts (f : Fld) (i v : Nat) : (s.w f i v).touts = s.touts := rfl
@[simp] theorem State.w_ptps (f : Fld) (i v : Nat) : (s.w f i v).ptps = s.ptps := rfl
@[simp] theorem State.w_chans (f : Fld) (i v : Nat) : (s.w f i v).chans = s.chans := rfl
@[simp] theorem State.w_twin (f : Fld) (i v : Nat) : (s.w f i v).twin = s.twin := rfl
@[simp] theorem State.w_nodes (f : Fld) (i v : Nat) : (s.w f i v).nodes = s.nodes := rfl
@[simp] theorem State.w_safConns (f : Fld) (i v : Nat) : (s.w f i v).safConns = s.safConns := rfl
@[simp] theorem State.w_safSigs (f : Fld) (i v : Nat) : (s.w f i v).safSigs = s.safSigs := rfl
@[simp] theorem State.w_power (f : Fld) (i v : Nat) : (s.w f i v).power = s.power := rfl
@[simp] theorem State.w_update (f : Fld) (i v : Nat) : (s.w f i v).update = s.update := rfl
@[simp] theorem State.w_fw (f : Fld) (i v : Nat) : (s.w f i v).fw = s.fw := rfl

/-! State.wb writes `regs`. -/
@[simp] theorem State.wb_axes (f : Fld) (i : Nat) (b : Bool) : (s.wb f i b).axes = s.axes := rfl
@[simp] theorem State.wb_pending (f : Fld) (i : Nat) (b : Bool) : (s.wb f i b).pending = s.pending := rfl
@[simp] theorem State.wb_free (f : Fld) (i : Nat) (b : Bool) : (s.wb f i b).free = s.free := rfl
@[simp] theorem State.wb_clk (f : Fld) (i : Nat) (b : Bool) : (s.wb f i b).clk = s.clk := rfl
@[simp] theorem State.wb_fuses (f : Fld) (i : Nat) (b : Bool) : (s.wb f i b).fuses = s.fuses := rfl
@[simp] theorem State.wb_recs (f : Fld) (i : Nat) (b : Bool) : (s.wb f i b).recs = s.recs := rfl
@[simp] theorem State.wb_recsNext (f : Fld) (i : Nat) (b : Bool) : (s.wb f i b).recsNext = s.recsNext := rfl
@[simp] theorem State.wb_regsFlash (f : Fld) (i : Nat) (b : Bool) : (s.wb f i b).regsFlash = s.regsFlash := rfl
@[simp] theorem State.wb_recsFlash (f : Fld) (i : Nat) (b : Bool) : (s.wb f i b).recsFlash = s.recsFlash := rfl
@[simp] theorem State.wb_sent (f : Fld) (i : Nat) (b : Bool) : (s.wb f i b).sent = s.sent := rfl
@[simp] theorem State.wb_readOut (f : Fld) (i : Nat) (b : Bool) : (s.wb f i b).readOut = s.readOut := rfl
@[simp] theorem State.wb_ctxs (f : Fld) (i : Nat) (b : Bool) : (s.wb f i b).ctxs = s.ctxs := rfl
@[simp] theorem State.wb_claims (f : Fld) (i : Nat) (b : Bool) : (s.wb f i b).claims = s.claims := rfl
@[simp] theorem State.wb_cfgLease (f : Fld) (i : Nat) (b : Bool) : (s.wb f i b).cfgLease = s.cfgLease := rfl
@[simp] theorem State.wb_msix (f : Fld) (i : Nat) (b : Bool) : (s.wb f i b).msix = s.msix := rfl
@[simp] theorem State.wb_sspiReplies (f : Fld) (i : Nat) (b : Bool) : (s.wb f i b).sspiReplies = s.sspiReplies := rfl
@[simp] theorem State.wb_sspiRx (f : Fld) (i : Nat) (b : Bool) : (s.wb f i b).sspiRx = s.sspiRx := rfl
@[simp] theorem State.wb_hmpRun (f : Fld) (i : Nat) (b : Bool) : (s.wb f i b).hmpRun = s.hmpRun := rfl
@[simp] theorem State.wb_replay (f : Fld) (i : Nat) (b : Bool) : (s.wb f i b).replay = s.replay := rfl
@[simp] theorem State.wb_fwdOut (f : Fld) (i : Nat) (b : Bool) : (s.wb f i b).fwdOut = s.fwdOut := rfl
@[simp] theorem State.wb_soot (f : Fld) (i : Nat) (b : Bool) : (s.wb f i b).soot = s.soot := rfl
@[simp] theorem State.wb_head (f : Fld) (i : Nat) (b : Bool) : (s.wb f i b).head = s.head := rfl
@[simp] theorem State.wb_scheds (f : Fld) (i : Nat) (b : Bool) : (s.wb f i b).scheds = s.scheds := rfl
@[simp] theorem State.wb_hnodes (f : Fld) (i : Nat) (b : Bool) : (s.wb f i b).hnodes = s.hnodes := rfl
@[simp] theorem State.wb_segIn (f : Fld) (i : Nat) (b : Bool) : (s.wb f i b).segIn = s.segIn := rfl
@[simp] theorem State.wb_cmds (f : Fld) (i : Nat) (b : Bool) : (s.wb f i b).cmds = s.cmds := rfl
@[simp] theorem State.wb_cores (f : Fld) (i : Nat) (b : Bool) : (s.wb f i b).cores = s.cores := rfl
@[simp] theorem State.wb_sram (f : Fld) (i : Nat) (b : Bool) : (s.wb f i b).sram = s.sram := rfl
@[simp] theorem State.wb_grates (f : Fld) (i : Nat) (b : Bool) : (s.wb f i b).grates = s.grates := rfl
@[simp] theorem State.wb_descs (f : Fld) (i : Nat) (b : Bool) : (s.wb f i b).descs = s.descs := rfl
@[simp] theorem State.wb_descsNext (f : Fld) (i : Nat) (b : Bool) : (s.wb f i b).descsNext = s.descsNext := rfl
@[simp] theorem State.wb_reload (f : Fld) (i : Nat) (b : Bool) : (s.wb f i b).reload = s.reload := rfl
@[simp] theorem State.wb_insts (f : Fld) (i : Nat) (b : Bool) : (s.wb f i b).insts = s.insts := rfl
@[simp] theorem State.wb_fbs (f : Fld) (i : Nat) (b : Bool) : (s.wb f i b).fbs = s.fbs := rfl
@[simp] theorem State.wb_emus (f : Fld) (i : Nat) (b : Bool) : (s.wb f i b).emus = s.emus := rfl
@[simp] theorem State.wb_servos (f : Fld) (i : Nat) (b : Bool) : (s.wb f i b).servos = s.servos := rfl
@[simp] theorem State.wb_motions (f : Fld) (i : Nat) (b : Bool) : (s.wb f i b).motions = s.motions := rfl
@[simp] theorem State.wb_steppers (f : Fld) (i : Nat) (b : Bool) : (s.wb f i b).steppers = s.steppers := rfl
@[simp] theorem State.wb_vms (f : Fld) (i : Nat) (b : Bool) : (s.wb f i b).vms = s.vms := rfl
@[simp] theorem State.wb_groups (f : Fld) (i : Nat) (b : Bool) : (s.wb f i b).groups = s.groups := rfl
@[simp] theorem State.wb_recBufs (f : Fld) (i : Nat) (b : Bool) : (s.wb f i b).recBufs = s.recBufs := rfl
@[simp] theorem State.wb_convs (f : Fld) (i : Nat) (b : Bool) : (s.wb f i b).convs = s.convs := rfl
@[simp] theorem State.wb_tbs (f : Fld) (i : Nat) (b : Bool) : (s.wb f i b).tbs = s.tbs := rfl
@[simp] theorem State.wb_tins (f : Fld) (i : Nat) (b : Bool) : (s.wb f i b).tins = s.tins := rfl
@[simp] theorem State.wb_touts (f : Fld) (i : Nat) (b : Bool) : (s.wb f i b).touts = s.touts := rfl
@[simp] theorem State.wb_ptps (f : Fld) (i : Nat) (b : Bool) : (s.wb f i b).ptps = s.ptps := rfl
@[simp] theorem State.wb_chans (f : Fld) (i : Nat) (b : Bool) : (s.wb f i b).chans = s.chans := rfl
@[simp] theorem State.wb_twin (f : Fld) (i : Nat) (b : Bool) : (s.wb f i b).twin = s.twin := rfl
@[simp] theorem State.wb_nodes (f : Fld) (i : Nat) (b : Bool) : (s.wb f i b).nodes = s.nodes := rfl
@[simp] theorem State.wb_safConns (f : Fld) (i : Nat) (b : Bool) : (s.wb f i b).safConns = s.safConns := rfl
@[simp] theorem State.wb_safSigs (f : Fld) (i : Nat) (b : Bool) : (s.wb f i b).safSigs = s.safSigs := rfl
@[simp] theorem State.wb_power (f : Fld) (i : Nat) (b : Bool) : (s.wb f i b).power = s.power := rfl
@[simp] theorem State.wb_update (f : Fld) (i : Nat) (b : Bool) : (s.wb f i b).update = s.update := rfl
@[simp] theorem State.wb_fw (f : Fld) (i : Nat) (b : Bool) : (s.wb f i b).fw = s.fw := rfl

/-! State.wI writes `regs`. -/
@[simp] theorem State.wI_axes (f : Fld) (i : Nat) (v : Int) : (s.wI f i v).axes = s.axes := rfl
@[simp] theorem State.wI_pending (f : Fld) (i : Nat) (v : Int) : (s.wI f i v).pending = s.pending := rfl
@[simp] theorem State.wI_free (f : Fld) (i : Nat) (v : Int) : (s.wI f i v).free = s.free := rfl
@[simp] theorem State.wI_clk (f : Fld) (i : Nat) (v : Int) : (s.wI f i v).clk = s.clk := rfl
@[simp] theorem State.wI_fuses (f : Fld) (i : Nat) (v : Int) : (s.wI f i v).fuses = s.fuses := rfl
@[simp] theorem State.wI_recs (f : Fld) (i : Nat) (v : Int) : (s.wI f i v).recs = s.recs := rfl
@[simp] theorem State.wI_recsNext (f : Fld) (i : Nat) (v : Int) : (s.wI f i v).recsNext = s.recsNext := rfl
@[simp] theorem State.wI_regsFlash (f : Fld) (i : Nat) (v : Int) : (s.wI f i v).regsFlash = s.regsFlash := rfl
@[simp] theorem State.wI_recsFlash (f : Fld) (i : Nat) (v : Int) : (s.wI f i v).recsFlash = s.recsFlash := rfl
@[simp] theorem State.wI_sent (f : Fld) (i : Nat) (v : Int) : (s.wI f i v).sent = s.sent := rfl
@[simp] theorem State.wI_readOut (f : Fld) (i : Nat) (v : Int) : (s.wI f i v).readOut = s.readOut := rfl
@[simp] theorem State.wI_ctxs (f : Fld) (i : Nat) (v : Int) : (s.wI f i v).ctxs = s.ctxs := rfl
@[simp] theorem State.wI_claims (f : Fld) (i : Nat) (v : Int) : (s.wI f i v).claims = s.claims := rfl
@[simp] theorem State.wI_cfgLease (f : Fld) (i : Nat) (v : Int) : (s.wI f i v).cfgLease = s.cfgLease := rfl
@[simp] theorem State.wI_msix (f : Fld) (i : Nat) (v : Int) : (s.wI f i v).msix = s.msix := rfl
@[simp] theorem State.wI_sspiReplies (f : Fld) (i : Nat) (v : Int) : (s.wI f i v).sspiReplies = s.sspiReplies := rfl
@[simp] theorem State.wI_sspiRx (f : Fld) (i : Nat) (v : Int) : (s.wI f i v).sspiRx = s.sspiRx := rfl
@[simp] theorem State.wI_hmpRun (f : Fld) (i : Nat) (v : Int) : (s.wI f i v).hmpRun = s.hmpRun := rfl
@[simp] theorem State.wI_replay (f : Fld) (i : Nat) (v : Int) : (s.wI f i v).replay = s.replay := rfl
@[simp] theorem State.wI_fwdOut (f : Fld) (i : Nat) (v : Int) : (s.wI f i v).fwdOut = s.fwdOut := rfl
@[simp] theorem State.wI_soot (f : Fld) (i : Nat) (v : Int) : (s.wI f i v).soot = s.soot := rfl
@[simp] theorem State.wI_head (f : Fld) (i : Nat) (v : Int) : (s.wI f i v).head = s.head := rfl
@[simp] theorem State.wI_scheds (f : Fld) (i : Nat) (v : Int) : (s.wI f i v).scheds = s.scheds := rfl
@[simp] theorem State.wI_hnodes (f : Fld) (i : Nat) (v : Int) : (s.wI f i v).hnodes = s.hnodes := rfl
@[simp] theorem State.wI_segIn (f : Fld) (i : Nat) (v : Int) : (s.wI f i v).segIn = s.segIn := rfl
@[simp] theorem State.wI_cmds (f : Fld) (i : Nat) (v : Int) : (s.wI f i v).cmds = s.cmds := rfl
@[simp] theorem State.wI_cores (f : Fld) (i : Nat) (v : Int) : (s.wI f i v).cores = s.cores := rfl
@[simp] theorem State.wI_sram (f : Fld) (i : Nat) (v : Int) : (s.wI f i v).sram = s.sram := rfl
@[simp] theorem State.wI_grates (f : Fld) (i : Nat) (v : Int) : (s.wI f i v).grates = s.grates := rfl
@[simp] theorem State.wI_descs (f : Fld) (i : Nat) (v : Int) : (s.wI f i v).descs = s.descs := rfl
@[simp] theorem State.wI_descsNext (f : Fld) (i : Nat) (v : Int) : (s.wI f i v).descsNext = s.descsNext := rfl
@[simp] theorem State.wI_reload (f : Fld) (i : Nat) (v : Int) : (s.wI f i v).reload = s.reload := rfl
@[simp] theorem State.wI_insts (f : Fld) (i : Nat) (v : Int) : (s.wI f i v).insts = s.insts := rfl
@[simp] theorem State.wI_fbs (f : Fld) (i : Nat) (v : Int) : (s.wI f i v).fbs = s.fbs := rfl
@[simp] theorem State.wI_emus (f : Fld) (i : Nat) (v : Int) : (s.wI f i v).emus = s.emus := rfl
@[simp] theorem State.wI_servos (f : Fld) (i : Nat) (v : Int) : (s.wI f i v).servos = s.servos := rfl
@[simp] theorem State.wI_motions (f : Fld) (i : Nat) (v : Int) : (s.wI f i v).motions = s.motions := rfl
@[simp] theorem State.wI_steppers (f : Fld) (i : Nat) (v : Int) : (s.wI f i v).steppers = s.steppers := rfl
@[simp] theorem State.wI_vms (f : Fld) (i : Nat) (v : Int) : (s.wI f i v).vms = s.vms := rfl
@[simp] theorem State.wI_groups (f : Fld) (i : Nat) (v : Int) : (s.wI f i v).groups = s.groups := rfl
@[simp] theorem State.wI_recBufs (f : Fld) (i : Nat) (v : Int) : (s.wI f i v).recBufs = s.recBufs := rfl
@[simp] theorem State.wI_convs (f : Fld) (i : Nat) (v : Int) : (s.wI f i v).convs = s.convs := rfl
@[simp] theorem State.wI_tbs (f : Fld) (i : Nat) (v : Int) : (s.wI f i v).tbs = s.tbs := rfl
@[simp] theorem State.wI_tins (f : Fld) (i : Nat) (v : Int) : (s.wI f i v).tins = s.tins := rfl
@[simp] theorem State.wI_touts (f : Fld) (i : Nat) (v : Int) : (s.wI f i v).touts = s.touts := rfl
@[simp] theorem State.wI_ptps (f : Fld) (i : Nat) (v : Int) : (s.wI f i v).ptps = s.ptps := rfl
@[simp] theorem State.wI_chans (f : Fld) (i : Nat) (v : Int) : (s.wI f i v).chans = s.chans := rfl
@[simp] theorem State.wI_twin (f : Fld) (i : Nat) (v : Int) : (s.wI f i v).twin = s.twin := rfl
@[simp] theorem State.wI_nodes (f : Fld) (i : Nat) (v : Int) : (s.wI f i v).nodes = s.nodes := rfl
@[simp] theorem State.wI_safConns (f : Fld) (i : Nat) (v : Int) : (s.wI f i v).safConns = s.safConns := rfl
@[simp] theorem State.wI_safSigs (f : Fld) (i : Nat) (v : Int) : (s.wI f i v).safSigs = s.safSigs := rfl
@[simp] theorem State.wI_power (f : Fld) (i : Nat) (v : Int) : (s.wI f i v).power = s.power := rfl
@[simp] theorem State.wI_update (f : Fld) (i : Nat) (v : Int) : (s.wI f i v).update = s.update := rfl
@[simp] theorem State.wI_fw (f : Fld) (i : Nat) (v : Int) : (s.wI f i v).fw = s.fw := rfl

/-! State.updTb writes `tbs`. -/
@[simp] theorem State.updTb_axes (i : Nat) (f : TimeBase → TimeBase) : (s.updTb i f).axes = s.axes := rfl
@[simp] theorem State.updTb_pending (i : Nat) (f : TimeBase → TimeBase) : (s.updTb i f).pending = s.pending := rfl
@[simp] theorem State.updTb_free (i : Nat) (f : TimeBase → TimeBase) : (s.updTb i f).free = s.free := rfl
@[simp] theorem State.updTb_clk (i : Nat) (f : TimeBase → TimeBase) : (s.updTb i f).clk = s.clk := rfl
@[simp] theorem State.updTb_regs (i : Nat) (f : TimeBase → TimeBase) : (s.updTb i f).regs = s.regs := rfl
@[simp] theorem State.updTb_fuses (i : Nat) (f : TimeBase → TimeBase) : (s.updTb i f).fuses = s.fuses := rfl
@[simp] theorem State.updTb_recs (i : Nat) (f : TimeBase → TimeBase) : (s.updTb i f).recs = s.recs := rfl
@[simp] theorem State.updTb_recsNext (i : Nat) (f : TimeBase → TimeBase) : (s.updTb i f).recsNext = s.recsNext := rfl
@[simp] theorem State.updTb_regsFlash (i : Nat) (f : TimeBase → TimeBase) : (s.updTb i f).regsFlash = s.regsFlash := rfl
@[simp] theorem State.updTb_recsFlash (i : Nat) (f : TimeBase → TimeBase) : (s.updTb i f).recsFlash = s.recsFlash := rfl
@[simp] theorem State.updTb_sent (i : Nat) (f : TimeBase → TimeBase) : (s.updTb i f).sent = s.sent := rfl
@[simp] theorem State.updTb_readOut (i : Nat) (f : TimeBase → TimeBase) : (s.updTb i f).readOut = s.readOut := rfl
@[simp] theorem State.updTb_ctxs (i : Nat) (f : TimeBase → TimeBase) : (s.updTb i f).ctxs = s.ctxs := rfl
@[simp] theorem State.updTb_claims (i : Nat) (f : TimeBase → TimeBase) : (s.updTb i f).claims = s.claims := rfl
@[simp] theorem State.updTb_cfgLease (i : Nat) (f : TimeBase → TimeBase) : (s.updTb i f).cfgLease = s.cfgLease := rfl
@[simp] theorem State.updTb_msix (i : Nat) (f : TimeBase → TimeBase) : (s.updTb i f).msix = s.msix := rfl
@[simp] theorem State.updTb_sspiReplies (i : Nat) (f : TimeBase → TimeBase) : (s.updTb i f).sspiReplies = s.sspiReplies := rfl
@[simp] theorem State.updTb_sspiRx (i : Nat) (f : TimeBase → TimeBase) : (s.updTb i f).sspiRx = s.sspiRx := rfl
@[simp] theorem State.updTb_hmpRun (i : Nat) (f : TimeBase → TimeBase) : (s.updTb i f).hmpRun = s.hmpRun := rfl
@[simp] theorem State.updTb_replay (i : Nat) (f : TimeBase → TimeBase) : (s.updTb i f).replay = s.replay := rfl
@[simp] theorem State.updTb_fwdOut (i : Nat) (f : TimeBase → TimeBase) : (s.updTb i f).fwdOut = s.fwdOut := rfl
@[simp] theorem State.updTb_soot (i : Nat) (f : TimeBase → TimeBase) : (s.updTb i f).soot = s.soot := rfl
@[simp] theorem State.updTb_head (i : Nat) (f : TimeBase → TimeBase) : (s.updTb i f).head = s.head := rfl
@[simp] theorem State.updTb_scheds (i : Nat) (f : TimeBase → TimeBase) : (s.updTb i f).scheds = s.scheds := rfl
@[simp] theorem State.updTb_hnodes (i : Nat) (f : TimeBase → TimeBase) : (s.updTb i f).hnodes = s.hnodes := rfl
@[simp] theorem State.updTb_segIn (i : Nat) (f : TimeBase → TimeBase) : (s.updTb i f).segIn = s.segIn := rfl
@[simp] theorem State.updTb_cmds (i : Nat) (f : TimeBase → TimeBase) : (s.updTb i f).cmds = s.cmds := rfl
@[simp] theorem State.updTb_cores (i : Nat) (f : TimeBase → TimeBase) : (s.updTb i f).cores = s.cores := rfl
@[simp] theorem State.updTb_sram (i : Nat) (f : TimeBase → TimeBase) : (s.updTb i f).sram = s.sram := rfl
@[simp] theorem State.updTb_grates (i : Nat) (f : TimeBase → TimeBase) : (s.updTb i f).grates = s.grates := rfl
@[simp] theorem State.updTb_descs (i : Nat) (f : TimeBase → TimeBase) : (s.updTb i f).descs = s.descs := rfl
@[simp] theorem State.updTb_descsNext (i : Nat) (f : TimeBase → TimeBase) : (s.updTb i f).descsNext = s.descsNext := rfl
@[simp] theorem State.updTb_reload (i : Nat) (f : TimeBase → TimeBase) : (s.updTb i f).reload = s.reload := rfl
@[simp] theorem State.updTb_insts (i : Nat) (f : TimeBase → TimeBase) : (s.updTb i f).insts = s.insts := rfl
@[simp] theorem State.updTb_fbs (i : Nat) (f : TimeBase → TimeBase) : (s.updTb i f).fbs = s.fbs := rfl
@[simp] theorem State.updTb_emus (i : Nat) (f : TimeBase → TimeBase) : (s.updTb i f).emus = s.emus := rfl
@[simp] theorem State.updTb_servos (i : Nat) (f : TimeBase → TimeBase) : (s.updTb i f).servos = s.servos := rfl
@[simp] theorem State.updTb_motions (i : Nat) (f : TimeBase → TimeBase) : (s.updTb i f).motions = s.motions := rfl
@[simp] theorem State.updTb_steppers (i : Nat) (f : TimeBase → TimeBase) : (s.updTb i f).steppers = s.steppers := rfl
@[simp] theorem State.updTb_vms (i : Nat) (f : TimeBase → TimeBase) : (s.updTb i f).vms = s.vms := rfl
@[simp] theorem State.updTb_groups (i : Nat) (f : TimeBase → TimeBase) : (s.updTb i f).groups = s.groups := rfl
@[simp] theorem State.updTb_recBufs (i : Nat) (f : TimeBase → TimeBase) : (s.updTb i f).recBufs = s.recBufs := rfl
@[simp] theorem State.updTb_convs (i : Nat) (f : TimeBase → TimeBase) : (s.updTb i f).convs = s.convs := rfl
@[simp] theorem State.updTb_tins (i : Nat) (f : TimeBase → TimeBase) : (s.updTb i f).tins = s.tins := rfl
@[simp] theorem State.updTb_touts (i : Nat) (f : TimeBase → TimeBase) : (s.updTb i f).touts = s.touts := rfl
@[simp] theorem State.updTb_ptps (i : Nat) (f : TimeBase → TimeBase) : (s.updTb i f).ptps = s.ptps := rfl
@[simp] theorem State.updTb_chans (i : Nat) (f : TimeBase → TimeBase) : (s.updTb i f).chans = s.chans := rfl
@[simp] theorem State.updTb_twin (i : Nat) (f : TimeBase → TimeBase) : (s.updTb i f).twin = s.twin := rfl
@[simp] theorem State.updTb_nodes (i : Nat) (f : TimeBase → TimeBase) : (s.updTb i f).nodes = s.nodes := rfl
@[simp] theorem State.updTb_safConns (i : Nat) (f : TimeBase → TimeBase) : (s.updTb i f).safConns = s.safConns := rfl
@[simp] theorem State.updTb_safSigs (i : Nat) (f : TimeBase → TimeBase) : (s.updTb i f).safSigs = s.safSigs := rfl
@[simp] theorem State.updTb_power (i : Nat) (f : TimeBase → TimeBase) : (s.updTb i f).power = s.power := rfl
@[simp] theorem State.updTb_update (i : Nat) (f : TimeBase → TimeBase) : (s.updTb i f).update = s.update := rfl
@[simp] theorem State.updTb_fw (i : Nat) (f : TimeBase → TimeBase) : (s.updTb i f).fw = s.fw := rfl

/-! State.updCtx writes `ctxs`. -/
@[simp] theorem State.updCtx_axes (i : Nat) (f : Ctx → Ctx) : (s.updCtx i f).axes = s.axes := rfl
@[simp] theorem State.updCtx_pending (i : Nat) (f : Ctx → Ctx) : (s.updCtx i f).pending = s.pending := rfl
@[simp] theorem State.updCtx_free (i : Nat) (f : Ctx → Ctx) : (s.updCtx i f).free = s.free := rfl
@[simp] theorem State.updCtx_clk (i : Nat) (f : Ctx → Ctx) : (s.updCtx i f).clk = s.clk := rfl
@[simp] theorem State.updCtx_regs (i : Nat) (f : Ctx → Ctx) : (s.updCtx i f).regs = s.regs := rfl
@[simp] theorem State.updCtx_fuses (i : Nat) (f : Ctx → Ctx) : (s.updCtx i f).fuses = s.fuses := rfl
@[simp] theorem State.updCtx_recs (i : Nat) (f : Ctx → Ctx) : (s.updCtx i f).recs = s.recs := rfl
@[simp] theorem State.updCtx_recsNext (i : Nat) (f : Ctx → Ctx) : (s.updCtx i f).recsNext = s.recsNext := rfl
@[simp] theorem State.updCtx_regsFlash (i : Nat) (f : Ctx → Ctx) : (s.updCtx i f).regsFlash = s.regsFlash := rfl
@[simp] theorem State.updCtx_recsFlash (i : Nat) (f : Ctx → Ctx) : (s.updCtx i f).recsFlash = s.recsFlash := rfl
@[simp] theorem State.updCtx_sent (i : Nat) (f : Ctx → Ctx) : (s.updCtx i f).sent = s.sent := rfl
@[simp] theorem State.updCtx_readOut (i : Nat) (f : Ctx → Ctx) : (s.updCtx i f).readOut = s.readOut := rfl
@[simp] theorem State.updCtx_claims (i : Nat) (f : Ctx → Ctx) : (s.updCtx i f).claims = s.claims := rfl
@[simp] theorem State.updCtx_cfgLease (i : Nat) (f : Ctx → Ctx) : (s.updCtx i f).cfgLease = s.cfgLease := rfl
@[simp] theorem State.updCtx_msix (i : Nat) (f : Ctx → Ctx) : (s.updCtx i f).msix = s.msix := rfl
@[simp] theorem State.updCtx_sspiReplies (i : Nat) (f : Ctx → Ctx) : (s.updCtx i f).sspiReplies = s.sspiReplies := rfl
@[simp] theorem State.updCtx_sspiRx (i : Nat) (f : Ctx → Ctx) : (s.updCtx i f).sspiRx = s.sspiRx := rfl
@[simp] theorem State.updCtx_hmpRun (i : Nat) (f : Ctx → Ctx) : (s.updCtx i f).hmpRun = s.hmpRun := rfl
@[simp] theorem State.updCtx_replay (i : Nat) (f : Ctx → Ctx) : (s.updCtx i f).replay = s.replay := rfl
@[simp] theorem State.updCtx_fwdOut (i : Nat) (f : Ctx → Ctx) : (s.updCtx i f).fwdOut = s.fwdOut := rfl
@[simp] theorem State.updCtx_soot (i : Nat) (f : Ctx → Ctx) : (s.updCtx i f).soot = s.soot := rfl
@[simp] theorem State.updCtx_head (i : Nat) (f : Ctx → Ctx) : (s.updCtx i f).head = s.head := rfl
@[simp] theorem State.updCtx_scheds (i : Nat) (f : Ctx → Ctx) : (s.updCtx i f).scheds = s.scheds := rfl
@[simp] theorem State.updCtx_hnodes (i : Nat) (f : Ctx → Ctx) : (s.updCtx i f).hnodes = s.hnodes := rfl
@[simp] theorem State.updCtx_segIn (i : Nat) (f : Ctx → Ctx) : (s.updCtx i f).segIn = s.segIn := rfl
@[simp] theorem State.updCtx_cmds (i : Nat) (f : Ctx → Ctx) : (s.updCtx i f).cmds = s.cmds := rfl
@[simp] theorem State.updCtx_cores (i : Nat) (f : Ctx → Ctx) : (s.updCtx i f).cores = s.cores := rfl
@[simp] theorem State.updCtx_sram (i : Nat) (f : Ctx → Ctx) : (s.updCtx i f).sram = s.sram := rfl
@[simp] theorem State.updCtx_grates (i : Nat) (f : Ctx → Ctx) : (s.updCtx i f).grates = s.grates := rfl
@[simp] theorem State.updCtx_descs (i : Nat) (f : Ctx → Ctx) : (s.updCtx i f).descs = s.descs := rfl
@[simp] theorem State.updCtx_descsNext (i : Nat) (f : Ctx → Ctx) : (s.updCtx i f).descsNext = s.descsNext := rfl
@[simp] theorem State.updCtx_reload (i : Nat) (f : Ctx → Ctx) : (s.updCtx i f).reload = s.reload := rfl
@[simp] theorem State.updCtx_insts (i : Nat) (f : Ctx → Ctx) : (s.updCtx i f).insts = s.insts := rfl
@[simp] theorem State.updCtx_fbs (i : Nat) (f : Ctx → Ctx) : (s.updCtx i f).fbs = s.fbs := rfl
@[simp] theorem State.updCtx_emus (i : Nat) (f : Ctx → Ctx) : (s.updCtx i f).emus = s.emus := rfl
@[simp] theorem State.updCtx_servos (i : Nat) (f : Ctx → Ctx) : (s.updCtx i f).servos = s.servos := rfl
@[simp] theorem State.updCtx_motions (i : Nat) (f : Ctx → Ctx) : (s.updCtx i f).motions = s.motions := rfl
@[simp] theorem State.updCtx_steppers (i : Nat) (f : Ctx → Ctx) : (s.updCtx i f).steppers = s.steppers := rfl
@[simp] theorem State.updCtx_vms (i : Nat) (f : Ctx → Ctx) : (s.updCtx i f).vms = s.vms := rfl
@[simp] theorem State.updCtx_groups (i : Nat) (f : Ctx → Ctx) : (s.updCtx i f).groups = s.groups := rfl
@[simp] theorem State.updCtx_recBufs (i : Nat) (f : Ctx → Ctx) : (s.updCtx i f).recBufs = s.recBufs := rfl
@[simp] theorem State.updCtx_convs (i : Nat) (f : Ctx → Ctx) : (s.updCtx i f).convs = s.convs := rfl
@[simp] theorem State.updCtx_tbs (i : Nat) (f : Ctx → Ctx) : (s.updCtx i f).tbs = s.tbs := rfl
@[simp] theorem State.updCtx_tins (i : Nat) (f : Ctx → Ctx) : (s.updCtx i f).tins = s.tins := rfl
@[simp] theorem State.updCtx_touts (i : Nat) (f : Ctx → Ctx) : (s.updCtx i f).touts = s.touts := rfl
@[simp] theorem State.updCtx_ptps (i : Nat) (f : Ctx → Ctx) : (s.updCtx i f).ptps = s.ptps := rfl
@[simp] theorem State.updCtx_chans (i : Nat) (f : Ctx → Ctx) : (s.updCtx i f).chans = s.chans := rfl
@[simp] theorem State.updCtx_twin (i : Nat) (f : Ctx → Ctx) : (s.updCtx i f).twin = s.twin := rfl
@[simp] theorem State.updCtx_nodes (i : Nat) (f : Ctx → Ctx) : (s.updCtx i f).nodes = s.nodes := rfl
@[simp] theorem State.updCtx_safConns (i : Nat) (f : Ctx → Ctx) : (s.updCtx i f).safConns = s.safConns := rfl
@[simp] theorem State.updCtx_safSigs (i : Nat) (f : Ctx → Ctx) : (s.updCtx i f).safSigs = s.safSigs := rfl
@[simp] theorem State.updCtx_power (i : Nat) (f : Ctx → Ctx) : (s.updCtx i f).power = s.power := rfl
@[simp] theorem State.updCtx_update (i : Nat) (f : Ctx → Ctx) : (s.updCtx i f).update = s.update := rfl
@[simp] theorem State.updCtx_fw (i : Nat) (f : Ctx → Ctx) : (s.updCtx i f).fw = s.fw := rfl

/-! State.msi writes `msix`. -/
@[simp] theorem State.msi_axes (i v : Nat) : (s.msi i v).axes = s.axes := rfl
@[simp] theorem State.msi_pending (i v : Nat) : (s.msi i v).pending = s.pending := rfl
@[simp] theorem State.msi_free (i v : Nat) : (s.msi i v).free = s.free := rfl
@[simp] theorem State.msi_clk (i v : Nat) : (s.msi i v).clk = s.clk := rfl
@[simp] theorem State.msi_regs (i v : Nat) : (s.msi i v).regs = s.regs := rfl
@[simp] theorem State.msi_fuses (i v : Nat) : (s.msi i v).fuses = s.fuses := rfl
@[simp] theorem State.msi_recs (i v : Nat) : (s.msi i v).recs = s.recs := rfl
@[simp] theorem State.msi_recsNext (i v : Nat) : (s.msi i v).recsNext = s.recsNext := rfl
@[simp] theorem State.msi_regsFlash (i v : Nat) : (s.msi i v).regsFlash = s.regsFlash := rfl
@[simp] theorem State.msi_recsFlash (i v : Nat) : (s.msi i v).recsFlash = s.recsFlash := rfl
@[simp] theorem State.msi_sent (i v : Nat) : (s.msi i v).sent = s.sent := rfl
@[simp] theorem State.msi_readOut (i v : Nat) : (s.msi i v).readOut = s.readOut := rfl
@[simp] theorem State.msi_ctxs (i v : Nat) : (s.msi i v).ctxs = s.ctxs := rfl
@[simp] theorem State.msi_claims (i v : Nat) : (s.msi i v).claims = s.claims := rfl
@[simp] theorem State.msi_cfgLease (i v : Nat) : (s.msi i v).cfgLease = s.cfgLease := rfl
@[simp] theorem State.msi_sspiReplies (i v : Nat) : (s.msi i v).sspiReplies = s.sspiReplies := rfl
@[simp] theorem State.msi_sspiRx (i v : Nat) : (s.msi i v).sspiRx = s.sspiRx := rfl
@[simp] theorem State.msi_hmpRun (i v : Nat) : (s.msi i v).hmpRun = s.hmpRun := rfl
@[simp] theorem State.msi_replay (i v : Nat) : (s.msi i v).replay = s.replay := rfl
@[simp] theorem State.msi_fwdOut (i v : Nat) : (s.msi i v).fwdOut = s.fwdOut := rfl
@[simp] theorem State.msi_soot (i v : Nat) : (s.msi i v).soot = s.soot := rfl
@[simp] theorem State.msi_head (i v : Nat) : (s.msi i v).head = s.head := rfl
@[simp] theorem State.msi_scheds (i v : Nat) : (s.msi i v).scheds = s.scheds := rfl
@[simp] theorem State.msi_hnodes (i v : Nat) : (s.msi i v).hnodes = s.hnodes := rfl
@[simp] theorem State.msi_segIn (i v : Nat) : (s.msi i v).segIn = s.segIn := rfl
@[simp] theorem State.msi_cmds (i v : Nat) : (s.msi i v).cmds = s.cmds := rfl
@[simp] theorem State.msi_cores (i v : Nat) : (s.msi i v).cores = s.cores := rfl
@[simp] theorem State.msi_sram (i v : Nat) : (s.msi i v).sram = s.sram := rfl
@[simp] theorem State.msi_grates (i v : Nat) : (s.msi i v).grates = s.grates := rfl
@[simp] theorem State.msi_descs (i v : Nat) : (s.msi i v).descs = s.descs := rfl
@[simp] theorem State.msi_descsNext (i v : Nat) : (s.msi i v).descsNext = s.descsNext := rfl
@[simp] theorem State.msi_reload (i v : Nat) : (s.msi i v).reload = s.reload := rfl
@[simp] theorem State.msi_insts (i v : Nat) : (s.msi i v).insts = s.insts := rfl
@[simp] theorem State.msi_fbs (i v : Nat) : (s.msi i v).fbs = s.fbs := rfl
@[simp] theorem State.msi_emus (i v : Nat) : (s.msi i v).emus = s.emus := rfl
@[simp] theorem State.msi_servos (i v : Nat) : (s.msi i v).servos = s.servos := rfl
@[simp] theorem State.msi_motions (i v : Nat) : (s.msi i v).motions = s.motions := rfl
@[simp] theorem State.msi_steppers (i v : Nat) : (s.msi i v).steppers = s.steppers := rfl
@[simp] theorem State.msi_vms (i v : Nat) : (s.msi i v).vms = s.vms := rfl
@[simp] theorem State.msi_groups (i v : Nat) : (s.msi i v).groups = s.groups := rfl
@[simp] theorem State.msi_recBufs (i v : Nat) : (s.msi i v).recBufs = s.recBufs := rfl
@[simp] theorem State.msi_convs (i v : Nat) : (s.msi i v).convs = s.convs := rfl
@[simp] theorem State.msi_tbs (i v : Nat) : (s.msi i v).tbs = s.tbs := rfl
@[simp] theorem State.msi_tins (i v : Nat) : (s.msi i v).tins = s.tins := rfl
@[simp] theorem State.msi_touts (i v : Nat) : (s.msi i v).touts = s.touts := rfl
@[simp] theorem State.msi_ptps (i v : Nat) : (s.msi i v).ptps = s.ptps := rfl
@[simp] theorem State.msi_chans (i v : Nat) : (s.msi i v).chans = s.chans := rfl
@[simp] theorem State.msi_twin (i v : Nat) : (s.msi i v).twin = s.twin := rfl
@[simp] theorem State.msi_nodes (i v : Nat) : (s.msi i v).nodes = s.nodes := rfl
@[simp] theorem State.msi_safConns (i v : Nat) : (s.msi i v).safConns = s.safConns := rfl
@[simp] theorem State.msi_safSigs (i v : Nat) : (s.msi i v).safSigs = s.safSigs := rfl
@[simp] theorem State.msi_power (i v : Nat) : (s.msi i v).power = s.power := rfl
@[simp] theorem State.msi_update (i v : Nat) : (s.msi i v).update = s.update := rfl
@[simp] theorem State.msi_fw (i v : Nat) : (s.msi i v).fw = s.fw := rfl

/-! State.updAxis writes `axes`. -/
@[simp] theorem State.updAxis_pending (i : Nat) (f : Axis → Axis) : (s.updAxis i f).pending = s.pending := rfl
@[simp] theorem State.updAxis_free (i : Nat) (f : Axis → Axis) : (s.updAxis i f).free = s.free := rfl
@[simp] theorem State.updAxis_clk (i : Nat) (f : Axis → Axis) : (s.updAxis i f).clk = s.clk := rfl
@[simp] theorem State.updAxis_regs (i : Nat) (f : Axis → Axis) : (s.updAxis i f).regs = s.regs := rfl
@[simp] theorem State.updAxis_fuses (i : Nat) (f : Axis → Axis) : (s.updAxis i f).fuses = s.fuses := rfl
@[simp] theorem State.updAxis_recs (i : Nat) (f : Axis → Axis) : (s.updAxis i f).recs = s.recs := rfl
@[simp] theorem State.updAxis_recsNext (i : Nat) (f : Axis → Axis) : (s.updAxis i f).recsNext = s.recsNext := rfl
@[simp] theorem State.updAxis_regsFlash (i : Nat) (f : Axis → Axis) : (s.updAxis i f).regsFlash = s.regsFlash := rfl
@[simp] theorem State.updAxis_recsFlash (i : Nat) (f : Axis → Axis) : (s.updAxis i f).recsFlash = s.recsFlash := rfl
@[simp] theorem State.updAxis_sent (i : Nat) (f : Axis → Axis) : (s.updAxis i f).sent = s.sent := rfl
@[simp] theorem State.updAxis_readOut (i : Nat) (f : Axis → Axis) : (s.updAxis i f).readOut = s.readOut := rfl
@[simp] theorem State.updAxis_ctxs (i : Nat) (f : Axis → Axis) : (s.updAxis i f).ctxs = s.ctxs := rfl
@[simp] theorem State.updAxis_claims (i : Nat) (f : Axis → Axis) : (s.updAxis i f).claims = s.claims := rfl
@[simp] theorem State.updAxis_cfgLease (i : Nat) (f : Axis → Axis) : (s.updAxis i f).cfgLease = s.cfgLease := rfl
@[simp] theorem State.updAxis_msix (i : Nat) (f : Axis → Axis) : (s.updAxis i f).msix = s.msix := rfl
@[simp] theorem State.updAxis_sspiReplies (i : Nat) (f : Axis → Axis) : (s.updAxis i f).sspiReplies = s.sspiReplies := rfl
@[simp] theorem State.updAxis_sspiRx (i : Nat) (f : Axis → Axis) : (s.updAxis i f).sspiRx = s.sspiRx := rfl
@[simp] theorem State.updAxis_hmpRun (i : Nat) (f : Axis → Axis) : (s.updAxis i f).hmpRun = s.hmpRun := rfl
@[simp] theorem State.updAxis_replay (i : Nat) (f : Axis → Axis) : (s.updAxis i f).replay = s.replay := rfl
@[simp] theorem State.updAxis_fwdOut (i : Nat) (f : Axis → Axis) : (s.updAxis i f).fwdOut = s.fwdOut := rfl
@[simp] theorem State.updAxis_soot (i : Nat) (f : Axis → Axis) : (s.updAxis i f).soot = s.soot := rfl
@[simp] theorem State.updAxis_head (i : Nat) (f : Axis → Axis) : (s.updAxis i f).head = s.head := rfl
@[simp] theorem State.updAxis_scheds (i : Nat) (f : Axis → Axis) : (s.updAxis i f).scheds = s.scheds := rfl
@[simp] theorem State.updAxis_hnodes (i : Nat) (f : Axis → Axis) : (s.updAxis i f).hnodes = s.hnodes := rfl
@[simp] theorem State.updAxis_segIn (i : Nat) (f : Axis → Axis) : (s.updAxis i f).segIn = s.segIn := rfl
@[simp] theorem State.updAxis_cmds (i : Nat) (f : Axis → Axis) : (s.updAxis i f).cmds = s.cmds := rfl
@[simp] theorem State.updAxis_cores (i : Nat) (f : Axis → Axis) : (s.updAxis i f).cores = s.cores := rfl
@[simp] theorem State.updAxis_sram (i : Nat) (f : Axis → Axis) : (s.updAxis i f).sram = s.sram := rfl
@[simp] theorem State.updAxis_grates (i : Nat) (f : Axis → Axis) : (s.updAxis i f).grates = s.grates := rfl
@[simp] theorem State.updAxis_descs (i : Nat) (f : Axis → Axis) : (s.updAxis i f).descs = s.descs := rfl
@[simp] theorem State.updAxis_descsNext (i : Nat) (f : Axis → Axis) : (s.updAxis i f).descsNext = s.descsNext := rfl
@[simp] theorem State.updAxis_reload (i : Nat) (f : Axis → Axis) : (s.updAxis i f).reload = s.reload := rfl
@[simp] theorem State.updAxis_insts (i : Nat) (f : Axis → Axis) : (s.updAxis i f).insts = s.insts := rfl
@[simp] theorem State.updAxis_fbs (i : Nat) (f : Axis → Axis) : (s.updAxis i f).fbs = s.fbs := rfl
@[simp] theorem State.updAxis_emus (i : Nat) (f : Axis → Axis) : (s.updAxis i f).emus = s.emus := rfl
@[simp] theorem State.updAxis_servos (i : Nat) (f : Axis → Axis) : (s.updAxis i f).servos = s.servos := rfl
@[simp] theorem State.updAxis_motions (i : Nat) (f : Axis → Axis) : (s.updAxis i f).motions = s.motions := rfl
@[simp] theorem State.updAxis_steppers (i : Nat) (f : Axis → Axis) : (s.updAxis i f).steppers = s.steppers := rfl
@[simp] theorem State.updAxis_vms (i : Nat) (f : Axis → Axis) : (s.updAxis i f).vms = s.vms := rfl
@[simp] theorem State.updAxis_groups (i : Nat) (f : Axis → Axis) : (s.updAxis i f).groups = s.groups := rfl
@[simp] theorem State.updAxis_recBufs (i : Nat) (f : Axis → Axis) : (s.updAxis i f).recBufs = s.recBufs := rfl
@[simp] theorem State.updAxis_convs (i : Nat) (f : Axis → Axis) : (s.updAxis i f).convs = s.convs := rfl
@[simp] theorem State.updAxis_tbs (i : Nat) (f : Axis → Axis) : (s.updAxis i f).tbs = s.tbs := rfl
@[simp] theorem State.updAxis_tins (i : Nat) (f : Axis → Axis) : (s.updAxis i f).tins = s.tins := rfl
@[simp] theorem State.updAxis_touts (i : Nat) (f : Axis → Axis) : (s.updAxis i f).touts = s.touts := rfl
@[simp] theorem State.updAxis_ptps (i : Nat) (f : Axis → Axis) : (s.updAxis i f).ptps = s.ptps := rfl
@[simp] theorem State.updAxis_chans (i : Nat) (f : Axis → Axis) : (s.updAxis i f).chans = s.chans := rfl
@[simp] theorem State.updAxis_twin (i : Nat) (f : Axis → Axis) : (s.updAxis i f).twin = s.twin := rfl
@[simp] theorem State.updAxis_nodes (i : Nat) (f : Axis → Axis) : (s.updAxis i f).nodes = s.nodes := rfl
@[simp] theorem State.updAxis_safConns (i : Nat) (f : Axis → Axis) : (s.updAxis i f).safConns = s.safConns := rfl
@[simp] theorem State.updAxis_safSigs (i : Nat) (f : Axis → Axis) : (s.updAxis i f).safSigs = s.safSigs := rfl
@[simp] theorem State.updAxis_power (i : Nat) (f : Axis → Axis) : (s.updAxis i f).power = s.power := rfl
@[simp] theorem State.updAxis_update (i : Nat) (f : Axis → Axis) : (s.updAxis i f).update = s.update := rfl
@[simp] theorem State.updAxis_fw (i : Nat) (f : Axis → Axis) : (s.updAxis i f).fw = s.fw := rfl

/-! State.updChan writes `chans`. -/
@[simp] theorem State.updChan_axes (i : Nat) (f : Chan → Chan) : (s.updChan i f).axes = s.axes := rfl
@[simp] theorem State.updChan_pending (i : Nat) (f : Chan → Chan) : (s.updChan i f).pending = s.pending := rfl
@[simp] theorem State.updChan_free (i : Nat) (f : Chan → Chan) : (s.updChan i f).free = s.free := rfl
@[simp] theorem State.updChan_clk (i : Nat) (f : Chan → Chan) : (s.updChan i f).clk = s.clk := rfl
@[simp] theorem State.updChan_regs (i : Nat) (f : Chan → Chan) : (s.updChan i f).regs = s.regs := rfl
@[simp] theorem State.updChan_fuses (i : Nat) (f : Chan → Chan) : (s.updChan i f).fuses = s.fuses := rfl
@[simp] theorem State.updChan_recs (i : Nat) (f : Chan → Chan) : (s.updChan i f).recs = s.recs := rfl
@[simp] theorem State.updChan_recsNext (i : Nat) (f : Chan → Chan) : (s.updChan i f).recsNext = s.recsNext := rfl
@[simp] theorem State.updChan_regsFlash (i : Nat) (f : Chan → Chan) : (s.updChan i f).regsFlash = s.regsFlash := rfl
@[simp] theorem State.updChan_recsFlash (i : Nat) (f : Chan → Chan) : (s.updChan i f).recsFlash = s.recsFlash := rfl
@[simp] theorem State.updChan_sent (i : Nat) (f : Chan → Chan) : (s.updChan i f).sent = s.sent := rfl
@[simp] theorem State.updChan_readOut (i : Nat) (f : Chan → Chan) : (s.updChan i f).readOut = s.readOut := rfl
@[simp] theorem State.updChan_ctxs (i : Nat) (f : Chan → Chan) : (s.updChan i f).ctxs = s.ctxs := rfl
@[simp] theorem State.updChan_claims (i : Nat) (f : Chan → Chan) : (s.updChan i f).claims = s.claims := rfl
@[simp] theorem State.updChan_cfgLease (i : Nat) (f : Chan → Chan) : (s.updChan i f).cfgLease = s.cfgLease := rfl
@[simp] theorem State.updChan_msix (i : Nat) (f : Chan → Chan) : (s.updChan i f).msix = s.msix := rfl
@[simp] theorem State.updChan_sspiReplies (i : Nat) (f : Chan → Chan) : (s.updChan i f).sspiReplies = s.sspiReplies := rfl
@[simp] theorem State.updChan_sspiRx (i : Nat) (f : Chan → Chan) : (s.updChan i f).sspiRx = s.sspiRx := rfl
@[simp] theorem State.updChan_hmpRun (i : Nat) (f : Chan → Chan) : (s.updChan i f).hmpRun = s.hmpRun := rfl
@[simp] theorem State.updChan_replay (i : Nat) (f : Chan → Chan) : (s.updChan i f).replay = s.replay := rfl
@[simp] theorem State.updChan_fwdOut (i : Nat) (f : Chan → Chan) : (s.updChan i f).fwdOut = s.fwdOut := rfl
@[simp] theorem State.updChan_soot (i : Nat) (f : Chan → Chan) : (s.updChan i f).soot = s.soot := rfl
@[simp] theorem State.updChan_head (i : Nat) (f : Chan → Chan) : (s.updChan i f).head = s.head := rfl
@[simp] theorem State.updChan_scheds (i : Nat) (f : Chan → Chan) : (s.updChan i f).scheds = s.scheds := rfl
@[simp] theorem State.updChan_hnodes (i : Nat) (f : Chan → Chan) : (s.updChan i f).hnodes = s.hnodes := rfl
@[simp] theorem State.updChan_segIn (i : Nat) (f : Chan → Chan) : (s.updChan i f).segIn = s.segIn := rfl
@[simp] theorem State.updChan_cmds (i : Nat) (f : Chan → Chan) : (s.updChan i f).cmds = s.cmds := rfl
@[simp] theorem State.updChan_cores (i : Nat) (f : Chan → Chan) : (s.updChan i f).cores = s.cores := rfl
@[simp] theorem State.updChan_sram (i : Nat) (f : Chan → Chan) : (s.updChan i f).sram = s.sram := rfl
@[simp] theorem State.updChan_grates (i : Nat) (f : Chan → Chan) : (s.updChan i f).grates = s.grates := rfl
@[simp] theorem State.updChan_descs (i : Nat) (f : Chan → Chan) : (s.updChan i f).descs = s.descs := rfl
@[simp] theorem State.updChan_descsNext (i : Nat) (f : Chan → Chan) : (s.updChan i f).descsNext = s.descsNext := rfl
@[simp] theorem State.updChan_reload (i : Nat) (f : Chan → Chan) : (s.updChan i f).reload = s.reload := rfl
@[simp] theorem State.updChan_insts (i : Nat) (f : Chan → Chan) : (s.updChan i f).insts = s.insts := rfl
@[simp] theorem State.updChan_fbs (i : Nat) (f : Chan → Chan) : (s.updChan i f).fbs = s.fbs := rfl
@[simp] theorem State.updChan_emus (i : Nat) (f : Chan → Chan) : (s.updChan i f).emus = s.emus := rfl
@[simp] theorem State.updChan_servos (i : Nat) (f : Chan → Chan) : (s.updChan i f).servos = s.servos := rfl
@[simp] theorem State.updChan_motions (i : Nat) (f : Chan → Chan) : (s.updChan i f).motions = s.motions := rfl
@[simp] theorem State.updChan_steppers (i : Nat) (f : Chan → Chan) : (s.updChan i f).steppers = s.steppers := rfl
@[simp] theorem State.updChan_vms (i : Nat) (f : Chan → Chan) : (s.updChan i f).vms = s.vms := rfl
@[simp] theorem State.updChan_groups (i : Nat) (f : Chan → Chan) : (s.updChan i f).groups = s.groups := rfl
@[simp] theorem State.updChan_recBufs (i : Nat) (f : Chan → Chan) : (s.updChan i f).recBufs = s.recBufs := rfl
@[simp] theorem State.updChan_convs (i : Nat) (f : Chan → Chan) : (s.updChan i f).convs = s.convs := rfl
@[simp] theorem State.updChan_tbs (i : Nat) (f : Chan → Chan) : (s.updChan i f).tbs = s.tbs := rfl
@[simp] theorem State.updChan_tins (i : Nat) (f : Chan → Chan) : (s.updChan i f).tins = s.tins := rfl
@[simp] theorem State.updChan_touts (i : Nat) (f : Chan → Chan) : (s.updChan i f).touts = s.touts := rfl
@[simp] theorem State.updChan_ptps (i : Nat) (f : Chan → Chan) : (s.updChan i f).ptps = s.ptps := rfl
@[simp] theorem State.updChan_twin (i : Nat) (f : Chan → Chan) : (s.updChan i f).twin = s.twin := rfl
@[simp] theorem State.updChan_nodes (i : Nat) (f : Chan → Chan) : (s.updChan i f).nodes = s.nodes := rfl
@[simp] theorem State.updChan_safConns (i : Nat) (f : Chan → Chan) : (s.updChan i f).safConns = s.safConns := rfl
@[simp] theorem State.updChan_safSigs (i : Nat) (f : Chan → Chan) : (s.updChan i f).safSigs = s.safSigs := rfl
@[simp] theorem State.updChan_power (i : Nat) (f : Chan → Chan) : (s.updChan i f).power = s.power := rfl
@[simp] theorem State.updChan_update (i : Nat) (f : Chan → Chan) : (s.updChan i f).update = s.update := rfl
@[simp] theorem State.updChan_fw (i : Nat) (f : Chan → Chan) : (s.updChan i f).fw = s.fw := rfl

/-! State.updCore writes `cores`. -/
@[simp] theorem State.updCore_axes (i : Nat) (f : Core → Core) : (s.updCore i f).axes = s.axes := rfl
@[simp] theorem State.updCore_pending (i : Nat) (f : Core → Core) : (s.updCore i f).pending = s.pending := rfl
@[simp] theorem State.updCore_free (i : Nat) (f : Core → Core) : (s.updCore i f).free = s.free := rfl
@[simp] theorem State.updCore_clk (i : Nat) (f : Core → Core) : (s.updCore i f).clk = s.clk := rfl
@[simp] theorem State.updCore_regs (i : Nat) (f : Core → Core) : (s.updCore i f).regs = s.regs := rfl
@[simp] theorem State.updCore_fuses (i : Nat) (f : Core → Core) : (s.updCore i f).fuses = s.fuses := rfl
@[simp] theorem State.updCore_recs (i : Nat) (f : Core → Core) : (s.updCore i f).recs = s.recs := rfl
@[simp] theorem State.updCore_recsNext (i : Nat) (f : Core → Core) : (s.updCore i f).recsNext = s.recsNext := rfl
@[simp] theorem State.updCore_regsFlash (i : Nat) (f : Core → Core) : (s.updCore i f).regsFlash = s.regsFlash := rfl
@[simp] theorem State.updCore_recsFlash (i : Nat) (f : Core → Core) : (s.updCore i f).recsFlash = s.recsFlash := rfl
@[simp] theorem State.updCore_sent (i : Nat) (f : Core → Core) : (s.updCore i f).sent = s.sent := rfl
@[simp] theorem State.updCore_readOut (i : Nat) (f : Core → Core) : (s.updCore i f).readOut = s.readOut := rfl
@[simp] theorem State.updCore_ctxs (i : Nat) (f : Core → Core) : (s.updCore i f).ctxs = s.ctxs := rfl
@[simp] theorem State.updCore_claims (i : Nat) (f : Core → Core) : (s.updCore i f).claims = s.claims := rfl
@[simp] theorem State.updCore_cfgLease (i : Nat) (f : Core → Core) : (s.updCore i f).cfgLease = s.cfgLease := rfl
@[simp] theorem State.updCore_msix (i : Nat) (f : Core → Core) : (s.updCore i f).msix = s.msix := rfl
@[simp] theorem State.updCore_sspiReplies (i : Nat) (f : Core → Core) : (s.updCore i f).sspiReplies = s.sspiReplies := rfl
@[simp] theorem State.updCore_sspiRx (i : Nat) (f : Core → Core) : (s.updCore i f).sspiRx = s.sspiRx := rfl
@[simp] theorem State.updCore_hmpRun (i : Nat) (f : Core → Core) : (s.updCore i f).hmpRun = s.hmpRun := rfl
@[simp] theorem State.updCore_replay (i : Nat) (f : Core → Core) : (s.updCore i f).replay = s.replay := rfl
@[simp] theorem State.updCore_fwdOut (i : Nat) (f : Core → Core) : (s.updCore i f).fwdOut = s.fwdOut := rfl
@[simp] theorem State.updCore_soot (i : Nat) (f : Core → Core) : (s.updCore i f).soot = s.soot := rfl
@[simp] theorem State.updCore_head (i : Nat) (f : Core → Core) : (s.updCore i f).head = s.head := rfl
@[simp] theorem State.updCore_scheds (i : Nat) (f : Core → Core) : (s.updCore i f).scheds = s.scheds := rfl
@[simp] theorem State.updCore_hnodes (i : Nat) (f : Core → Core) : (s.updCore i f).hnodes = s.hnodes := rfl
@[simp] theorem State.updCore_segIn (i : Nat) (f : Core → Core) : (s.updCore i f).segIn = s.segIn := rfl
@[simp] theorem State.updCore_cmds (i : Nat) (f : Core → Core) : (s.updCore i f).cmds = s.cmds := rfl
@[simp] theorem State.updCore_sram (i : Nat) (f : Core → Core) : (s.updCore i f).sram = s.sram := rfl
@[simp] theorem State.updCore_grates (i : Nat) (f : Core → Core) : (s.updCore i f).grates = s.grates := rfl
@[simp] theorem State.updCore_descs (i : Nat) (f : Core → Core) : (s.updCore i f).descs = s.descs := rfl
@[simp] theorem State.updCore_descsNext (i : Nat) (f : Core → Core) : (s.updCore i f).descsNext = s.descsNext := rfl
@[simp] theorem State.updCore_reload (i : Nat) (f : Core → Core) : (s.updCore i f).reload = s.reload := rfl
@[simp] theorem State.updCore_insts (i : Nat) (f : Core → Core) : (s.updCore i f).insts = s.insts := rfl
@[simp] theorem State.updCore_fbs (i : Nat) (f : Core → Core) : (s.updCore i f).fbs = s.fbs := rfl
@[simp] theorem State.updCore_emus (i : Nat) (f : Core → Core) : (s.updCore i f).emus = s.emus := rfl
@[simp] theorem State.updCore_servos (i : Nat) (f : Core → Core) : (s.updCore i f).servos = s.servos := rfl
@[simp] theorem State.updCore_motions (i : Nat) (f : Core → Core) : (s.updCore i f).motions = s.motions := rfl
@[simp] theorem State.updCore_steppers (i : Nat) (f : Core → Core) : (s.updCore i f).steppers = s.steppers := rfl
@[simp] theorem State.updCore_vms (i : Nat) (f : Core → Core) : (s.updCore i f).vms = s.vms := rfl
@[simp] theorem State.updCore_groups (i : Nat) (f : Core → Core) : (s.updCore i f).groups = s.groups := rfl
@[simp] theorem State.updCore_recBufs (i : Nat) (f : Core → Core) : (s.updCore i f).recBufs = s.recBufs := rfl
@[simp] theorem State.updCore_convs (i : Nat) (f : Core → Core) : (s.updCore i f).convs = s.convs := rfl
@[simp] theorem State.updCore_tbs (i : Nat) (f : Core → Core) : (s.updCore i f).tbs = s.tbs := rfl
@[simp] theorem State.updCore_tins (i : Nat) (f : Core → Core) : (s.updCore i f).tins = s.tins := rfl
@[simp] theorem State.updCore_touts (i : Nat) (f : Core → Core) : (s.updCore i f).touts = s.touts := rfl
@[simp] theorem State.updCore_ptps (i : Nat) (f : Core → Core) : (s.updCore i f).ptps = s.ptps := rfl
@[simp] theorem State.updCore_chans (i : Nat) (f : Core → Core) : (s.updCore i f).chans = s.chans := rfl
@[simp] theorem State.updCore_twin (i : Nat) (f : Core → Core) : (s.updCore i f).twin = s.twin := rfl
@[simp] theorem State.updCore_nodes (i : Nat) (f : Core → Core) : (s.updCore i f).nodes = s.nodes := rfl
@[simp] theorem State.updCore_safConns (i : Nat) (f : Core → Core) : (s.updCore i f).safConns = s.safConns := rfl
@[simp] theorem State.updCore_safSigs (i : Nat) (f : Core → Core) : (s.updCore i f).safSigs = s.safSigs := rfl
@[simp] theorem State.updCore_power (i : Nat) (f : Core → Core) : (s.updCore i f).power = s.power := rfl
@[simp] theorem State.updCore_update (i : Nat) (f : Core → Core) : (s.updCore i f).update = s.update := rfl
@[simp] theorem State.updCore_fw (i : Nat) (f : Core → Core) : (s.updCore i f).fw = s.fw := rfl

/-! State.updGrate writes `grates`. -/
@[simp] theorem State.updGrate_axes (i : Nat) (f : Grate → Grate) : (s.updGrate i f).axes = s.axes := rfl
@[simp] theorem State.updGrate_pending (i : Nat) (f : Grate → Grate) : (s.updGrate i f).pending = s.pending := rfl
@[simp] theorem State.updGrate_free (i : Nat) (f : Grate → Grate) : (s.updGrate i f).free = s.free := rfl
@[simp] theorem State.updGrate_clk (i : Nat) (f : Grate → Grate) : (s.updGrate i f).clk = s.clk := rfl
@[simp] theorem State.updGrate_regs (i : Nat) (f : Grate → Grate) : (s.updGrate i f).regs = s.regs := rfl
@[simp] theorem State.updGrate_fuses (i : Nat) (f : Grate → Grate) : (s.updGrate i f).fuses = s.fuses := rfl
@[simp] theorem State.updGrate_recs (i : Nat) (f : Grate → Grate) : (s.updGrate i f).recs = s.recs := rfl
@[simp] theorem State.updGrate_recsNext (i : Nat) (f : Grate → Grate) : (s.updGrate i f).recsNext = s.recsNext := rfl
@[simp] theorem State.updGrate_regsFlash (i : Nat) (f : Grate → Grate) : (s.updGrate i f).regsFlash = s.regsFlash := rfl
@[simp] theorem State.updGrate_recsFlash (i : Nat) (f : Grate → Grate) : (s.updGrate i f).recsFlash = s.recsFlash := rfl
@[simp] theorem State.updGrate_sent (i : Nat) (f : Grate → Grate) : (s.updGrate i f).sent = s.sent := rfl
@[simp] theorem State.updGrate_readOut (i : Nat) (f : Grate → Grate) : (s.updGrate i f).readOut = s.readOut := rfl
@[simp] theorem State.updGrate_ctxs (i : Nat) (f : Grate → Grate) : (s.updGrate i f).ctxs = s.ctxs := rfl
@[simp] theorem State.updGrate_claims (i : Nat) (f : Grate → Grate) : (s.updGrate i f).claims = s.claims := rfl
@[simp] theorem State.updGrate_cfgLease (i : Nat) (f : Grate → Grate) : (s.updGrate i f).cfgLease = s.cfgLease := rfl
@[simp] theorem State.updGrate_msix (i : Nat) (f : Grate → Grate) : (s.updGrate i f).msix = s.msix := rfl
@[simp] theorem State.updGrate_sspiReplies (i : Nat) (f : Grate → Grate) : (s.updGrate i f).sspiReplies = s.sspiReplies := rfl
@[simp] theorem State.updGrate_sspiRx (i : Nat) (f : Grate → Grate) : (s.updGrate i f).sspiRx = s.sspiRx := rfl
@[simp] theorem State.updGrate_hmpRun (i : Nat) (f : Grate → Grate) : (s.updGrate i f).hmpRun = s.hmpRun := rfl
@[simp] theorem State.updGrate_replay (i : Nat) (f : Grate → Grate) : (s.updGrate i f).replay = s.replay := rfl
@[simp] theorem State.updGrate_fwdOut (i : Nat) (f : Grate → Grate) : (s.updGrate i f).fwdOut = s.fwdOut := rfl
@[simp] theorem State.updGrate_soot (i : Nat) (f : Grate → Grate) : (s.updGrate i f).soot = s.soot := rfl
@[simp] theorem State.updGrate_head (i : Nat) (f : Grate → Grate) : (s.updGrate i f).head = s.head := rfl
@[simp] theorem State.updGrate_scheds (i : Nat) (f : Grate → Grate) : (s.updGrate i f).scheds = s.scheds := rfl
@[simp] theorem State.updGrate_hnodes (i : Nat) (f : Grate → Grate) : (s.updGrate i f).hnodes = s.hnodes := rfl
@[simp] theorem State.updGrate_segIn (i : Nat) (f : Grate → Grate) : (s.updGrate i f).segIn = s.segIn := rfl
@[simp] theorem State.updGrate_cmds (i : Nat) (f : Grate → Grate) : (s.updGrate i f).cmds = s.cmds := rfl
@[simp] theorem State.updGrate_cores (i : Nat) (f : Grate → Grate) : (s.updGrate i f).cores = s.cores := rfl
@[simp] theorem State.updGrate_sram (i : Nat) (f : Grate → Grate) : (s.updGrate i f).sram = s.sram := rfl
@[simp] theorem State.updGrate_descs (i : Nat) (f : Grate → Grate) : (s.updGrate i f).descs = s.descs := rfl
@[simp] theorem State.updGrate_descsNext (i : Nat) (f : Grate → Grate) : (s.updGrate i f).descsNext = s.descsNext := rfl
@[simp] theorem State.updGrate_reload (i : Nat) (f : Grate → Grate) : (s.updGrate i f).reload = s.reload := rfl
@[simp] theorem State.updGrate_insts (i : Nat) (f : Grate → Grate) : (s.updGrate i f).insts = s.insts := rfl
@[simp] theorem State.updGrate_fbs (i : Nat) (f : Grate → Grate) : (s.updGrate i f).fbs = s.fbs := rfl
@[simp] theorem State.updGrate_emus (i : Nat) (f : Grate → Grate) : (s.updGrate i f).emus = s.emus := rfl
@[simp] theorem State.updGrate_servos (i : Nat) (f : Grate → Grate) : (s.updGrate i f).servos = s.servos := rfl
@[simp] theorem State.updGrate_motions (i : Nat) (f : Grate → Grate) : (s.updGrate i f).motions = s.motions := rfl
@[simp] theorem State.updGrate_steppers (i : Nat) (f : Grate → Grate) : (s.updGrate i f).steppers = s.steppers := rfl
@[simp] theorem State.updGrate_vms (i : Nat) (f : Grate → Grate) : (s.updGrate i f).vms = s.vms := rfl
@[simp] theorem State.updGrate_groups (i : Nat) (f : Grate → Grate) : (s.updGrate i f).groups = s.groups := rfl
@[simp] theorem State.updGrate_recBufs (i : Nat) (f : Grate → Grate) : (s.updGrate i f).recBufs = s.recBufs := rfl
@[simp] theorem State.updGrate_convs (i : Nat) (f : Grate → Grate) : (s.updGrate i f).convs = s.convs := rfl
@[simp] theorem State.updGrate_tbs (i : Nat) (f : Grate → Grate) : (s.updGrate i f).tbs = s.tbs := rfl
@[simp] theorem State.updGrate_tins (i : Nat) (f : Grate → Grate) : (s.updGrate i f).tins = s.tins := rfl
@[simp] theorem State.updGrate_touts (i : Nat) (f : Grate → Grate) : (s.updGrate i f).touts = s.touts := rfl
@[simp] theorem State.updGrate_ptps (i : Nat) (f : Grate → Grate) : (s.updGrate i f).ptps = s.ptps := rfl
@[simp] theorem State.updGrate_chans (i : Nat) (f : Grate → Grate) : (s.updGrate i f).chans = s.chans := rfl
@[simp] theorem State.updGrate_twin (i : Nat) (f : Grate → Grate) : (s.updGrate i f).twin = s.twin := rfl
@[simp] theorem State.updGrate_nodes (i : Nat) (f : Grate → Grate) : (s.updGrate i f).nodes = s.nodes := rfl
@[simp] theorem State.updGrate_safConns (i : Nat) (f : Grate → Grate) : (s.updGrate i f).safConns = s.safConns := rfl
@[simp] theorem State.updGrate_safSigs (i : Nat) (f : Grate → Grate) : (s.updGrate i f).safSigs = s.safSigs := rfl
@[simp] theorem State.updGrate_power (i : Nat) (f : Grate → Grate) : (s.updGrate i f).power = s.power := rfl
@[simp] theorem State.updGrate_update (i : Nat) (f : Grate → Grate) : (s.updGrate i f).update = s.update := rfl
@[simp] theorem State.updGrate_fw (i : Nat) (f : Grate → Grate) : (s.updGrate i f).fw = s.fw := rfl

/-! State.updSram writes `sram`. -/
@[simp] theorem State.updSram_axes (i : Nat) (f : SharedSram → SharedSram) : (s.updSram i f).axes = s.axes := rfl
@[simp] theorem State.updSram_pending (i : Nat) (f : SharedSram → SharedSram) : (s.updSram i f).pending = s.pending := rfl
@[simp] theorem State.updSram_free (i : Nat) (f : SharedSram → SharedSram) : (s.updSram i f).free = s.free := rfl
@[simp] theorem State.updSram_clk (i : Nat) (f : SharedSram → SharedSram) : (s.updSram i f).clk = s.clk := rfl
@[simp] theorem State.updSram_regs (i : Nat) (f : SharedSram → SharedSram) : (s.updSram i f).regs = s.regs := rfl
@[simp] theorem State.updSram_fuses (i : Nat) (f : SharedSram → SharedSram) : (s.updSram i f).fuses = s.fuses := rfl
@[simp] theorem State.updSram_recs (i : Nat) (f : SharedSram → SharedSram) : (s.updSram i f).recs = s.recs := rfl
@[simp] theorem State.updSram_recsNext (i : Nat) (f : SharedSram → SharedSram) : (s.updSram i f).recsNext = s.recsNext := rfl
@[simp] theorem State.updSram_regsFlash (i : Nat) (f : SharedSram → SharedSram) : (s.updSram i f).regsFlash = s.regsFlash := rfl
@[simp] theorem State.updSram_recsFlash (i : Nat) (f : SharedSram → SharedSram) : (s.updSram i f).recsFlash = s.recsFlash := rfl
@[simp] theorem State.updSram_sent (i : Nat) (f : SharedSram → SharedSram) : (s.updSram i f).sent = s.sent := rfl
@[simp] theorem State.updSram_readOut (i : Nat) (f : SharedSram → SharedSram) : (s.updSram i f).readOut = s.readOut := rfl
@[simp] theorem State.updSram_ctxs (i : Nat) (f : SharedSram → SharedSram) : (s.updSram i f).ctxs = s.ctxs := rfl
@[simp] theorem State.updSram_claims (i : Nat) (f : SharedSram → SharedSram) : (s.updSram i f).claims = s.claims := rfl
@[simp] theorem State.updSram_cfgLease (i : Nat) (f : SharedSram → SharedSram) : (s.updSram i f).cfgLease = s.cfgLease := rfl
@[simp] theorem State.updSram_msix (i : Nat) (f : SharedSram → SharedSram) : (s.updSram i f).msix = s.msix := rfl
@[simp] theorem State.updSram_sspiReplies (i : Nat) (f : SharedSram → SharedSram) : (s.updSram i f).sspiReplies = s.sspiReplies := rfl
@[simp] theorem State.updSram_sspiRx (i : Nat) (f : SharedSram → SharedSram) : (s.updSram i f).sspiRx = s.sspiRx := rfl
@[simp] theorem State.updSram_hmpRun (i : Nat) (f : SharedSram → SharedSram) : (s.updSram i f).hmpRun = s.hmpRun := rfl
@[simp] theorem State.updSram_replay (i : Nat) (f : SharedSram → SharedSram) : (s.updSram i f).replay = s.replay := rfl
@[simp] theorem State.updSram_fwdOut (i : Nat) (f : SharedSram → SharedSram) : (s.updSram i f).fwdOut = s.fwdOut := rfl
@[simp] theorem State.updSram_soot (i : Nat) (f : SharedSram → SharedSram) : (s.updSram i f).soot = s.soot := rfl
@[simp] theorem State.updSram_head (i : Nat) (f : SharedSram → SharedSram) : (s.updSram i f).head = s.head := rfl
@[simp] theorem State.updSram_scheds (i : Nat) (f : SharedSram → SharedSram) : (s.updSram i f).scheds = s.scheds := rfl
@[simp] theorem State.updSram_hnodes (i : Nat) (f : SharedSram → SharedSram) : (s.updSram i f).hnodes = s.hnodes := rfl
@[simp] theorem State.updSram_segIn (i : Nat) (f : SharedSram → SharedSram) : (s.updSram i f).segIn = s.segIn := rfl
@[simp] theorem State.updSram_cmds (i : Nat) (f : SharedSram → SharedSram) : (s.updSram i f).cmds = s.cmds := rfl
@[simp] theorem State.updSram_cores (i : Nat) (f : SharedSram → SharedSram) : (s.updSram i f).cores = s.cores := rfl
@[simp] theorem State.updSram_grates (i : Nat) (f : SharedSram → SharedSram) : (s.updSram i f).grates = s.grates := rfl
@[simp] theorem State.updSram_descs (i : Nat) (f : SharedSram → SharedSram) : (s.updSram i f).descs = s.descs := rfl
@[simp] theorem State.updSram_descsNext (i : Nat) (f : SharedSram → SharedSram) : (s.updSram i f).descsNext = s.descsNext := rfl
@[simp] theorem State.updSram_reload (i : Nat) (f : SharedSram → SharedSram) : (s.updSram i f).reload = s.reload := rfl
@[simp] theorem State.updSram_insts (i : Nat) (f : SharedSram → SharedSram) : (s.updSram i f).insts = s.insts := rfl
@[simp] theorem State.updSram_fbs (i : Nat) (f : SharedSram → SharedSram) : (s.updSram i f).fbs = s.fbs := rfl
@[simp] theorem State.updSram_emus (i : Nat) (f : SharedSram → SharedSram) : (s.updSram i f).emus = s.emus := rfl
@[simp] theorem State.updSram_servos (i : Nat) (f : SharedSram → SharedSram) : (s.updSram i f).servos = s.servos := rfl
@[simp] theorem State.updSram_motions (i : Nat) (f : SharedSram → SharedSram) : (s.updSram i f).motions = s.motions := rfl
@[simp] theorem State.updSram_steppers (i : Nat) (f : SharedSram → SharedSram) : (s.updSram i f).steppers = s.steppers := rfl
@[simp] theorem State.updSram_vms (i : Nat) (f : SharedSram → SharedSram) : (s.updSram i f).vms = s.vms := rfl
@[simp] theorem State.updSram_groups (i : Nat) (f : SharedSram → SharedSram) : (s.updSram i f).groups = s.groups := rfl
@[simp] theorem State.updSram_recBufs (i : Nat) (f : SharedSram → SharedSram) : (s.updSram i f).recBufs = s.recBufs := rfl
@[simp] theorem State.updSram_convs (i : Nat) (f : SharedSram → SharedSram) : (s.updSram i f).convs = s.convs := rfl
@[simp] theorem State.updSram_tbs (i : Nat) (f : SharedSram → SharedSram) : (s.updSram i f).tbs = s.tbs := rfl
@[simp] theorem State.updSram_tins (i : Nat) (f : SharedSram → SharedSram) : (s.updSram i f).tins = s.tins := rfl
@[simp] theorem State.updSram_touts (i : Nat) (f : SharedSram → SharedSram) : (s.updSram i f).touts = s.touts := rfl
@[simp] theorem State.updSram_ptps (i : Nat) (f : SharedSram → SharedSram) : (s.updSram i f).ptps = s.ptps := rfl
@[simp] theorem State.updSram_chans (i : Nat) (f : SharedSram → SharedSram) : (s.updSram i f).chans = s.chans := rfl
@[simp] theorem State.updSram_twin (i : Nat) (f : SharedSram → SharedSram) : (s.updSram i f).twin = s.twin := rfl
@[simp] theorem State.updSram_nodes (i : Nat) (f : SharedSram → SharedSram) : (s.updSram i f).nodes = s.nodes := rfl
@[simp] theorem State.updSram_safConns (i : Nat) (f : SharedSram → SharedSram) : (s.updSram i f).safConns = s.safConns := rfl
@[simp] theorem State.updSram_safSigs (i : Nat) (f : SharedSram → SharedSram) : (s.updSram i f).safSigs = s.safSigs := rfl
@[simp] theorem State.updSram_power (i : Nat) (f : SharedSram → SharedSram) : (s.updSram i f).power = s.power := rfl
@[simp] theorem State.updSram_update (i : Nat) (f : SharedSram → SharedSram) : (s.updSram i f).update = s.update := rfl
@[simp] theorem State.updSram_fw (i : Nat) (f : SharedSram → SharedSram) : (s.updSram i f).fw = s.fw := rfl

/-! State.updHead writes `head`. -/
@[simp] theorem State.updHead_axes (f : Head → Head) : (s.updHead f).axes = s.axes := rfl
@[simp] theorem State.updHead_pending (f : Head → Head) : (s.updHead f).pending = s.pending := rfl
@[simp] theorem State.updHead_free (f : Head → Head) : (s.updHead f).free = s.free := rfl
@[simp] theorem State.updHead_clk (f : Head → Head) : (s.updHead f).clk = s.clk := rfl
@[simp] theorem State.updHead_regs (f : Head → Head) : (s.updHead f).regs = s.regs := rfl
@[simp] theorem State.updHead_fuses (f : Head → Head) : (s.updHead f).fuses = s.fuses := rfl
@[simp] theorem State.updHead_recs (f : Head → Head) : (s.updHead f).recs = s.recs := rfl
@[simp] theorem State.updHead_recsNext (f : Head → Head) : (s.updHead f).recsNext = s.recsNext := rfl
@[simp] theorem State.updHead_regsFlash (f : Head → Head) : (s.updHead f).regsFlash = s.regsFlash := rfl
@[simp] theorem State.updHead_recsFlash (f : Head → Head) : (s.updHead f).recsFlash = s.recsFlash := rfl
@[simp] theorem State.updHead_sent (f : Head → Head) : (s.updHead f).sent = s.sent := rfl
@[simp] theorem State.updHead_readOut (f : Head → Head) : (s.updHead f).readOut = s.readOut := rfl
@[simp] theorem State.updHead_ctxs (f : Head → Head) : (s.updHead f).ctxs = s.ctxs := rfl
@[simp] theorem State.updHead_claims (f : Head → Head) : (s.updHead f).claims = s.claims := rfl
@[simp] theorem State.updHead_cfgLease (f : Head → Head) : (s.updHead f).cfgLease = s.cfgLease := rfl
@[simp] theorem State.updHead_msix (f : Head → Head) : (s.updHead f).msix = s.msix := rfl
@[simp] theorem State.updHead_sspiReplies (f : Head → Head) : (s.updHead f).sspiReplies = s.sspiReplies := rfl
@[simp] theorem State.updHead_sspiRx (f : Head → Head) : (s.updHead f).sspiRx = s.sspiRx := rfl
@[simp] theorem State.updHead_hmpRun (f : Head → Head) : (s.updHead f).hmpRun = s.hmpRun := rfl
@[simp] theorem State.updHead_replay (f : Head → Head) : (s.updHead f).replay = s.replay := rfl
@[simp] theorem State.updHead_fwdOut (f : Head → Head) : (s.updHead f).fwdOut = s.fwdOut := rfl
@[simp] theorem State.updHead_soot (f : Head → Head) : (s.updHead f).soot = s.soot := rfl
@[simp] theorem State.updHead_scheds (f : Head → Head) : (s.updHead f).scheds = s.scheds := rfl
@[simp] theorem State.updHead_hnodes (f : Head → Head) : (s.updHead f).hnodes = s.hnodes := rfl
@[simp] theorem State.updHead_segIn (f : Head → Head) : (s.updHead f).segIn = s.segIn := rfl
@[simp] theorem State.updHead_cmds (f : Head → Head) : (s.updHead f).cmds = s.cmds := rfl
@[simp] theorem State.updHead_cores (f : Head → Head) : (s.updHead f).cores = s.cores := rfl
@[simp] theorem State.updHead_sram (f : Head → Head) : (s.updHead f).sram = s.sram := rfl
@[simp] theorem State.updHead_grates (f : Head → Head) : (s.updHead f).grates = s.grates := rfl
@[simp] theorem State.updHead_descs (f : Head → Head) : (s.updHead f).descs = s.descs := rfl
@[simp] theorem State.updHead_descsNext (f : Head → Head) : (s.updHead f).descsNext = s.descsNext := rfl
@[simp] theorem State.updHead_reload (f : Head → Head) : (s.updHead f).reload = s.reload := rfl
@[simp] theorem State.updHead_insts (f : Head → Head) : (s.updHead f).insts = s.insts := rfl
@[simp] theorem State.updHead_fbs (f : Head → Head) : (s.updHead f).fbs = s.fbs := rfl
@[simp] theorem State.updHead_emus (f : Head → Head) : (s.updHead f).emus = s.emus := rfl
@[simp] theorem State.updHead_servos (f : Head → Head) : (s.updHead f).servos = s.servos := rfl
@[simp] theorem State.updHead_motions (f : Head → Head) : (s.updHead f).motions = s.motions := rfl
@[simp] theorem State.updHead_steppers (f : Head → Head) : (s.updHead f).steppers = s.steppers := rfl
@[simp] theorem State.updHead_vms (f : Head → Head) : (s.updHead f).vms = s.vms := rfl
@[simp] theorem State.updHead_groups (f : Head → Head) : (s.updHead f).groups = s.groups := rfl
@[simp] theorem State.updHead_recBufs (f : Head → Head) : (s.updHead f).recBufs = s.recBufs := rfl
@[simp] theorem State.updHead_convs (f : Head → Head) : (s.updHead f).convs = s.convs := rfl
@[simp] theorem State.updHead_tbs (f : Head → Head) : (s.updHead f).tbs = s.tbs := rfl
@[simp] theorem State.updHead_tins (f : Head → Head) : (s.updHead f).tins = s.tins := rfl
@[simp] theorem State.updHead_touts (f : Head → Head) : (s.updHead f).touts = s.touts := rfl
@[simp] theorem State.updHead_ptps (f : Head → Head) : (s.updHead f).ptps = s.ptps := rfl
@[simp] theorem State.updHead_chans (f : Head → Head) : (s.updHead f).chans = s.chans := rfl
@[simp] theorem State.updHead_twin (f : Head → Head) : (s.updHead f).twin = s.twin := rfl
@[simp] theorem State.updHead_nodes (f : Head → Head) : (s.updHead f).nodes = s.nodes := rfl
@[simp] theorem State.updHead_safConns (f : Head → Head) : (s.updHead f).safConns = s.safConns := rfl
@[simp] theorem State.updHead_safSigs (f : Head → Head) : (s.updHead f).safSigs = s.safSigs := rfl
@[simp] theorem State.updHead_power (f : Head → Head) : (s.updHead f).power = s.power := rfl
@[simp] theorem State.updHead_update (f : Head → Head) : (s.updHead f).update = s.update := rfl
@[simp] theorem State.updHead_fw (f : Head → Head) : (s.updHead f).fw = s.fw := rfl

/-! State.updHnode writes `hnodes`. -/
@[simp] theorem State.updHnode_axes (i : Nat) (f : HNode → HNode) : (s.updHnode i f).axes = s.axes := rfl
@[simp] theorem State.updHnode_pending (i : Nat) (f : HNode → HNode) : (s.updHnode i f).pending = s.pending := rfl
@[simp] theorem State.updHnode_free (i : Nat) (f : HNode → HNode) : (s.updHnode i f).free = s.free := rfl
@[simp] theorem State.updHnode_clk (i : Nat) (f : HNode → HNode) : (s.updHnode i f).clk = s.clk := rfl
@[simp] theorem State.updHnode_regs (i : Nat) (f : HNode → HNode) : (s.updHnode i f).regs = s.regs := rfl
@[simp] theorem State.updHnode_fuses (i : Nat) (f : HNode → HNode) : (s.updHnode i f).fuses = s.fuses := rfl
@[simp] theorem State.updHnode_recs (i : Nat) (f : HNode → HNode) : (s.updHnode i f).recs = s.recs := rfl
@[simp] theorem State.updHnode_recsNext (i : Nat) (f : HNode → HNode) : (s.updHnode i f).recsNext = s.recsNext := rfl
@[simp] theorem State.updHnode_regsFlash (i : Nat) (f : HNode → HNode) : (s.updHnode i f).regsFlash = s.regsFlash := rfl
@[simp] theorem State.updHnode_recsFlash (i : Nat) (f : HNode → HNode) : (s.updHnode i f).recsFlash = s.recsFlash := rfl
@[simp] theorem State.updHnode_sent (i : Nat) (f : HNode → HNode) : (s.updHnode i f).sent = s.sent := rfl
@[simp] theorem State.updHnode_readOut (i : Nat) (f : HNode → HNode) : (s.updHnode i f).readOut = s.readOut := rfl
@[simp] theorem State.updHnode_ctxs (i : Nat) (f : HNode → HNode) : (s.updHnode i f).ctxs = s.ctxs := rfl
@[simp] theorem State.updHnode_claims (i : Nat) (f : HNode → HNode) : (s.updHnode i f).claims = s.claims := rfl
@[simp] theorem State.updHnode_cfgLease (i : Nat) (f : HNode → HNode) : (s.updHnode i f).cfgLease = s.cfgLease := rfl
@[simp] theorem State.updHnode_msix (i : Nat) (f : HNode → HNode) : (s.updHnode i f).msix = s.msix := rfl
@[simp] theorem State.updHnode_sspiReplies (i : Nat) (f : HNode → HNode) : (s.updHnode i f).sspiReplies = s.sspiReplies := rfl
@[simp] theorem State.updHnode_sspiRx (i : Nat) (f : HNode → HNode) : (s.updHnode i f).sspiRx = s.sspiRx := rfl
@[simp] theorem State.updHnode_hmpRun (i : Nat) (f : HNode → HNode) : (s.updHnode i f).hmpRun = s.hmpRun := rfl
@[simp] theorem State.updHnode_replay (i : Nat) (f : HNode → HNode) : (s.updHnode i f).replay = s.replay := rfl
@[simp] theorem State.updHnode_fwdOut (i : Nat) (f : HNode → HNode) : (s.updHnode i f).fwdOut = s.fwdOut := rfl
@[simp] theorem State.updHnode_soot (i : Nat) (f : HNode → HNode) : (s.updHnode i f).soot = s.soot := rfl
@[simp] theorem State.updHnode_head (i : Nat) (f : HNode → HNode) : (s.updHnode i f).head = s.head := rfl
@[simp] theorem State.updHnode_scheds (i : Nat) (f : HNode → HNode) : (s.updHnode i f).scheds = s.scheds := rfl
@[simp] theorem State.updHnode_segIn (i : Nat) (f : HNode → HNode) : (s.updHnode i f).segIn = s.segIn := rfl
@[simp] theorem State.updHnode_cmds (i : Nat) (f : HNode → HNode) : (s.updHnode i f).cmds = s.cmds := rfl
@[simp] theorem State.updHnode_cores (i : Nat) (f : HNode → HNode) : (s.updHnode i f).cores = s.cores := rfl
@[simp] theorem State.updHnode_sram (i : Nat) (f : HNode → HNode) : (s.updHnode i f).sram = s.sram := rfl
@[simp] theorem State.updHnode_grates (i : Nat) (f : HNode → HNode) : (s.updHnode i f).grates = s.grates := rfl
@[simp] theorem State.updHnode_descs (i : Nat) (f : HNode → HNode) : (s.updHnode i f).descs = s.descs := rfl
@[simp] theorem State.updHnode_descsNext (i : Nat) (f : HNode → HNode) : (s.updHnode i f).descsNext = s.descsNext := rfl
@[simp] theorem State.updHnode_reload (i : Nat) (f : HNode → HNode) : (s.updHnode i f).reload = s.reload := rfl
@[simp] theorem State.updHnode_insts (i : Nat) (f : HNode → HNode) : (s.updHnode i f).insts = s.insts := rfl
@[simp] theorem State.updHnode_fbs (i : Nat) (f : HNode → HNode) : (s.updHnode i f).fbs = s.fbs := rfl
@[simp] theorem State.updHnode_emus (i : Nat) (f : HNode → HNode) : (s.updHnode i f).emus = s.emus := rfl
@[simp] theorem State.updHnode_servos (i : Nat) (f : HNode → HNode) : (s.updHnode i f).servos = s.servos := rfl
@[simp] theorem State.updHnode_motions (i : Nat) (f : HNode → HNode) : (s.updHnode i f).motions = s.motions := rfl
@[simp] theorem State.updHnode_steppers (i : Nat) (f : HNode → HNode) : (s.updHnode i f).steppers = s.steppers := rfl
@[simp] theorem State.updHnode_vms (i : Nat) (f : HNode → HNode) : (s.updHnode i f).vms = s.vms := rfl
@[simp] theorem State.updHnode_groups (i : Nat) (f : HNode → HNode) : (s.updHnode i f).groups = s.groups := rfl
@[simp] theorem State.updHnode_recBufs (i : Nat) (f : HNode → HNode) : (s.updHnode i f).recBufs = s.recBufs := rfl
@[simp] theorem State.updHnode_convs (i : Nat) (f : HNode → HNode) : (s.updHnode i f).convs = s.convs := rfl
@[simp] theorem State.updHnode_tbs (i : Nat) (f : HNode → HNode) : (s.updHnode i f).tbs = s.tbs := rfl
@[simp] theorem State.updHnode_tins (i : Nat) (f : HNode → HNode) : (s.updHnode i f).tins = s.tins := rfl
@[simp] theorem State.updHnode_touts (i : Nat) (f : HNode → HNode) : (s.updHnode i f).touts = s.touts := rfl
@[simp] theorem State.updHnode_ptps (i : Nat) (f : HNode → HNode) : (s.updHnode i f).ptps = s.ptps := rfl
@[simp] theorem State.updHnode_chans (i : Nat) (f : HNode → HNode) : (s.updHnode i f).chans = s.chans := rfl
@[simp] theorem State.updHnode_twin (i : Nat) (f : HNode → HNode) : (s.updHnode i f).twin = s.twin := rfl
@[simp] theorem State.updHnode_nodes (i : Nat) (f : HNode → HNode) : (s.updHnode i f).nodes = s.nodes := rfl
@[simp] theorem State.updHnode_safConns (i : Nat) (f : HNode → HNode) : (s.updHnode i f).safConns = s.safConns := rfl
@[simp] theorem State.updHnode_safSigs (i : Nat) (f : HNode → HNode) : (s.updHnode i f).safSigs = s.safSigs := rfl
@[simp] theorem State.updHnode_power (i : Nat) (f : HNode → HNode) : (s.updHnode i f).power = s.power := rfl
@[simp] theorem State.updHnode_update (i : Nat) (f : HNode → HNode) : (s.updHnode i f).update = s.update := rfl
@[simp] theorem State.updHnode_fw (i : Nat) (f : HNode → HNode) : (s.updHnode i f).fw = s.fw := rfl

/-! State.updSched writes `scheds`. -/
@[simp] theorem State.updSched_axes (i : Nat) (f : Sched → Sched) : (s.updSched i f).axes = s.axes := rfl
@[simp] theorem State.updSched_pending (i : Nat) (f : Sched → Sched) : (s.updSched i f).pending = s.pending := rfl
@[simp] theorem State.updSched_free (i : Nat) (f : Sched → Sched) : (s.updSched i f).free = s.free := rfl
@[simp] theorem State.updSched_clk (i : Nat) (f : Sched → Sched) : (s.updSched i f).clk = s.clk := rfl
@[simp] theorem State.updSched_regs (i : Nat) (f : Sched → Sched) : (s.updSched i f).regs = s.regs := rfl
@[simp] theorem State.updSched_fuses (i : Nat) (f : Sched → Sched) : (s.updSched i f).fuses = s.fuses := rfl
@[simp] theorem State.updSched_recs (i : Nat) (f : Sched → Sched) : (s.updSched i f).recs = s.recs := rfl
@[simp] theorem State.updSched_recsNext (i : Nat) (f : Sched → Sched) : (s.updSched i f).recsNext = s.recsNext := rfl
@[simp] theorem State.updSched_regsFlash (i : Nat) (f : Sched → Sched) : (s.updSched i f).regsFlash = s.regsFlash := rfl
@[simp] theorem State.updSched_recsFlash (i : Nat) (f : Sched → Sched) : (s.updSched i f).recsFlash = s.recsFlash := rfl
@[simp] theorem State.updSched_sent (i : Nat) (f : Sched → Sched) : (s.updSched i f).sent = s.sent := rfl
@[simp] theorem State.updSched_readOut (i : Nat) (f : Sched → Sched) : (s.updSched i f).readOut = s.readOut := rfl
@[simp] theorem State.updSched_ctxs (i : Nat) (f : Sched → Sched) : (s.updSched i f).ctxs = s.ctxs := rfl
@[simp] theorem State.updSched_claims (i : Nat) (f : Sched → Sched) : (s.updSched i f).claims = s.claims := rfl
@[simp] theorem State.updSched_cfgLease (i : Nat) (f : Sched → Sched) : (s.updSched i f).cfgLease = s.cfgLease := rfl
@[simp] theorem State.updSched_msix (i : Nat) (f : Sched → Sched) : (s.updSched i f).msix = s.msix := rfl
@[simp] theorem State.updSched_sspiReplies (i : Nat) (f : Sched → Sched) : (s.updSched i f).sspiReplies = s.sspiReplies := rfl
@[simp] theorem State.updSched_sspiRx (i : Nat) (f : Sched → Sched) : (s.updSched i f).sspiRx = s.sspiRx := rfl
@[simp] theorem State.updSched_hmpRun (i : Nat) (f : Sched → Sched) : (s.updSched i f).hmpRun = s.hmpRun := rfl
@[simp] theorem State.updSched_replay (i : Nat) (f : Sched → Sched) : (s.updSched i f).replay = s.replay := rfl
@[simp] theorem State.updSched_fwdOut (i : Nat) (f : Sched → Sched) : (s.updSched i f).fwdOut = s.fwdOut := rfl
@[simp] theorem State.updSched_soot (i : Nat) (f : Sched → Sched) : (s.updSched i f).soot = s.soot := rfl
@[simp] theorem State.updSched_head (i : Nat) (f : Sched → Sched) : (s.updSched i f).head = s.head := rfl
@[simp] theorem State.updSched_hnodes (i : Nat) (f : Sched → Sched) : (s.updSched i f).hnodes = s.hnodes := rfl
@[simp] theorem State.updSched_segIn (i : Nat) (f : Sched → Sched) : (s.updSched i f).segIn = s.segIn := rfl
@[simp] theorem State.updSched_cmds (i : Nat) (f : Sched → Sched) : (s.updSched i f).cmds = s.cmds := rfl
@[simp] theorem State.updSched_cores (i : Nat) (f : Sched → Sched) : (s.updSched i f).cores = s.cores := rfl
@[simp] theorem State.updSched_sram (i : Nat) (f : Sched → Sched) : (s.updSched i f).sram = s.sram := rfl
@[simp] theorem State.updSched_grates (i : Nat) (f : Sched → Sched) : (s.updSched i f).grates = s.grates := rfl
@[simp] theorem State.updSched_descs (i : Nat) (f : Sched → Sched) : (s.updSched i f).descs = s.descs := rfl
@[simp] theorem State.updSched_descsNext (i : Nat) (f : Sched → Sched) : (s.updSched i f).descsNext = s.descsNext := rfl
@[simp] theorem State.updSched_reload (i : Nat) (f : Sched → Sched) : (s.updSched i f).reload = s.reload := rfl
@[simp] theorem State.updSched_insts (i : Nat) (f : Sched → Sched) : (s.updSched i f).insts = s.insts := rfl
@[simp] theorem State.updSched_fbs (i : Nat) (f : Sched → Sched) : (s.updSched i f).fbs = s.fbs := rfl
@[simp] theorem State.updSched_emus (i : Nat) (f : Sched → Sched) : (s.updSched i f).emus = s.emus := rfl
@[simp] theorem State.updSched_servos (i : Nat) (f : Sched → Sched) : (s.updSched i f).servos = s.servos := rfl
@[simp] theorem State.updSched_motions (i : Nat) (f : Sched → Sched) : (s.updSched i f).motions = s.motions := rfl
@[simp] theorem State.updSched_steppers (i : Nat) (f : Sched → Sched) : (s.updSched i f).steppers = s.steppers := rfl
@[simp] theorem State.updSched_vms (i : Nat) (f : Sched → Sched) : (s.updSched i f).vms = s.vms := rfl
@[simp] theorem State.updSched_groups (i : Nat) (f : Sched → Sched) : (s.updSched i f).groups = s.groups := rfl
@[simp] theorem State.updSched_recBufs (i : Nat) (f : Sched → Sched) : (s.updSched i f).recBufs = s.recBufs := rfl
@[simp] theorem State.updSched_convs (i : Nat) (f : Sched → Sched) : (s.updSched i f).convs = s.convs := rfl
@[simp] theorem State.updSched_tbs (i : Nat) (f : Sched → Sched) : (s.updSched i f).tbs = s.tbs := rfl
@[simp] theorem State.updSched_tins (i : Nat) (f : Sched → Sched) : (s.updSched i f).tins = s.tins := rfl
@[simp] theorem State.updSched_touts (i : Nat) (f : Sched → Sched) : (s.updSched i f).touts = s.touts := rfl
@[simp] theorem State.updSched_ptps (i : Nat) (f : Sched → Sched) : (s.updSched i f).ptps = s.ptps := rfl
@[simp] theorem State.updSched_chans (i : Nat) (f : Sched → Sched) : (s.updSched i f).chans = s.chans := rfl
@[simp] theorem State.updSched_twin (i : Nat) (f : Sched → Sched) : (s.updSched i f).twin = s.twin := rfl
@[simp] theorem State.updSched_nodes (i : Nat) (f : Sched → Sched) : (s.updSched i f).nodes = s.nodes := rfl
@[simp] theorem State.updSched_safConns (i : Nat) (f : Sched → Sched) : (s.updSched i f).safConns = s.safConns := rfl
@[simp] theorem State.updSched_safSigs (i : Nat) (f : Sched → Sched) : (s.updSched i f).safSigs = s.safSigs := rfl
@[simp] theorem State.updSched_power (i : Nat) (f : Sched → Sched) : (s.updSched i f).power = s.power := rfl
@[simp] theorem State.updSched_update (i : Nat) (f : Sched → Sched) : (s.updSched i f).update = s.update := rfl
@[simp] theorem State.updSched_fw (i : Nat) (f : Sched → Sched) : (s.updSched i f).fw = s.fw := rfl

/-! State.updTwin writes `twin`. -/
@[simp] theorem State.updTwin_axes (f : Twin → Twin) : (s.updTwin f).axes = s.axes := rfl
@[simp] theorem State.updTwin_pending (f : Twin → Twin) : (s.updTwin f).pending = s.pending := rfl
@[simp] theorem State.updTwin_free (f : Twin → Twin) : (s.updTwin f).free = s.free := rfl
@[simp] theorem State.updTwin_clk (f : Twin → Twin) : (s.updTwin f).clk = s.clk := rfl
@[simp] theorem State.updTwin_regs (f : Twin → Twin) : (s.updTwin f).regs = s.regs := rfl
@[simp] theorem State.updTwin_fuses (f : Twin → Twin) : (s.updTwin f).fuses = s.fuses := rfl
@[simp] theorem State.updTwin_recs (f : Twin → Twin) : (s.updTwin f).recs = s.recs := rfl
@[simp] theorem State.updTwin_recsNext (f : Twin → Twin) : (s.updTwin f).recsNext = s.recsNext := rfl
@[simp] theorem State.updTwin_regsFlash (f : Twin → Twin) : (s.updTwin f).regsFlash = s.regsFlash := rfl
@[simp] theorem State.updTwin_recsFlash (f : Twin → Twin) : (s.updTwin f).recsFlash = s.recsFlash := rfl
@[simp] theorem State.updTwin_sent (f : Twin → Twin) : (s.updTwin f).sent = s.sent := rfl
@[simp] theorem State.updTwin_readOut (f : Twin → Twin) : (s.updTwin f).readOut = s.readOut := rfl
@[simp] theorem State.updTwin_ctxs (f : Twin → Twin) : (s.updTwin f).ctxs = s.ctxs := rfl
@[simp] theorem State.updTwin_claims (f : Twin → Twin) : (s.updTwin f).claims = s.claims := rfl
@[simp] theorem State.updTwin_cfgLease (f : Twin → Twin) : (s.updTwin f).cfgLease = s.cfgLease := rfl
@[simp] theorem State.updTwin_msix (f : Twin → Twin) : (s.updTwin f).msix = s.msix := rfl
@[simp] theorem State.updTwin_sspiReplies (f : Twin → Twin) : (s.updTwin f).sspiReplies = s.sspiReplies := rfl
@[simp] theorem State.updTwin_sspiRx (f : Twin → Twin) : (s.updTwin f).sspiRx = s.sspiRx := rfl
@[simp] theorem State.updTwin_hmpRun (f : Twin → Twin) : (s.updTwin f).hmpRun = s.hmpRun := rfl
@[simp] theorem State.updTwin_replay (f : Twin → Twin) : (s.updTwin f).replay = s.replay := rfl
@[simp] theorem State.updTwin_fwdOut (f : Twin → Twin) : (s.updTwin f).fwdOut = s.fwdOut := rfl
@[simp] theorem State.updTwin_soot (f : Twin → Twin) : (s.updTwin f).soot = s.soot := rfl
@[simp] theorem State.updTwin_head (f : Twin → Twin) : (s.updTwin f).head = s.head := rfl
@[simp] theorem State.updTwin_scheds (f : Twin → Twin) : (s.updTwin f).scheds = s.scheds := rfl
@[simp] theorem State.updTwin_hnodes (f : Twin → Twin) : (s.updTwin f).hnodes = s.hnodes := rfl
@[simp] theorem State.updTwin_segIn (f : Twin → Twin) : (s.updTwin f).segIn = s.segIn := rfl
@[simp] theorem State.updTwin_cmds (f : Twin → Twin) : (s.updTwin f).cmds = s.cmds := rfl
@[simp] theorem State.updTwin_cores (f : Twin → Twin) : (s.updTwin f).cores = s.cores := rfl
@[simp] theorem State.updTwin_sram (f : Twin → Twin) : (s.updTwin f).sram = s.sram := rfl
@[simp] theorem State.updTwin_grates (f : Twin → Twin) : (s.updTwin f).grates = s.grates := rfl
@[simp] theorem State.updTwin_descs (f : Twin → Twin) : (s.updTwin f).descs = s.descs := rfl
@[simp] theorem State.updTwin_descsNext (f : Twin → Twin) : (s.updTwin f).descsNext = s.descsNext := rfl
@[simp] theorem State.updTwin_reload (f : Twin → Twin) : (s.updTwin f).reload = s.reload := rfl
@[simp] theorem State.updTwin_insts (f : Twin → Twin) : (s.updTwin f).insts = s.insts := rfl
@[simp] theorem State.updTwin_fbs (f : Twin → Twin) : (s.updTwin f).fbs = s.fbs := rfl
@[simp] theorem State.updTwin_emus (f : Twin → Twin) : (s.updTwin f).emus = s.emus := rfl
@[simp] theorem State.updTwin_servos (f : Twin → Twin) : (s.updTwin f).servos = s.servos := rfl
@[simp] theorem State.updTwin_motions (f : Twin → Twin) : (s.updTwin f).motions = s.motions := rfl
@[simp] theorem State.updTwin_steppers (f : Twin → Twin) : (s.updTwin f).steppers = s.steppers := rfl
@[simp] theorem State.updTwin_vms (f : Twin → Twin) : (s.updTwin f).vms = s.vms := rfl
@[simp] theorem State.updTwin_groups (f : Twin → Twin) : (s.updTwin f).groups = s.groups := rfl
@[simp] theorem State.updTwin_recBufs (f : Twin → Twin) : (s.updTwin f).recBufs = s.recBufs := rfl
@[simp] theorem State.updTwin_convs (f : Twin → Twin) : (s.updTwin f).convs = s.convs := rfl
@[simp] theorem State.updTwin_tbs (f : Twin → Twin) : (s.updTwin f).tbs = s.tbs := rfl
@[simp] theorem State.updTwin_tins (f : Twin → Twin) : (s.updTwin f).tins = s.tins := rfl
@[simp] theorem State.updTwin_touts (f : Twin → Twin) : (s.updTwin f).touts = s.touts := rfl
@[simp] theorem State.updTwin_ptps (f : Twin → Twin) : (s.updTwin f).ptps = s.ptps := rfl
@[simp] theorem State.updTwin_chans (f : Twin → Twin) : (s.updTwin f).chans = s.chans := rfl
@[simp] theorem State.updTwin_nodes (f : Twin → Twin) : (s.updTwin f).nodes = s.nodes := rfl
@[simp] theorem State.updTwin_safConns (f : Twin → Twin) : (s.updTwin f).safConns = s.safConns := rfl
@[simp] theorem State.updTwin_safSigs (f : Twin → Twin) : (s.updTwin f).safSigs = s.safSigs := rfl
@[simp] theorem State.updTwin_power (f : Twin → Twin) : (s.updTwin f).power = s.power := rfl
@[simp] theorem State.updTwin_update (f : Twin → Twin) : (s.updTwin f).update = s.update := rfl
@[simp] theorem State.updTwin_fw (f : Twin → Twin) : (s.updTwin f).fw = s.fw := rfl

/-! State.updNode writes `nodes`. -/
@[simp] theorem State.updNode_axes (i : Nat) (f : Node → Node) : (s.updNode i f).axes = s.axes := rfl
@[simp] theorem State.updNode_pending (i : Nat) (f : Node → Node) : (s.updNode i f).pending = s.pending := rfl
@[simp] theorem State.updNode_free (i : Nat) (f : Node → Node) : (s.updNode i f).free = s.free := rfl
@[simp] theorem State.updNode_clk (i : Nat) (f : Node → Node) : (s.updNode i f).clk = s.clk := rfl
@[simp] theorem State.updNode_regs (i : Nat) (f : Node → Node) : (s.updNode i f).regs = s.regs := rfl
@[simp] theorem State.updNode_fuses (i : Nat) (f : Node → Node) : (s.updNode i f).fuses = s.fuses := rfl
@[simp] theorem State.updNode_recs (i : Nat) (f : Node → Node) : (s.updNode i f).recs = s.recs := rfl
@[simp] theorem State.updNode_recsNext (i : Nat) (f : Node → Node) : (s.updNode i f).recsNext = s.recsNext := rfl
@[simp] theorem State.updNode_regsFlash (i : Nat) (f : Node → Node) : (s.updNode i f).regsFlash = s.regsFlash := rfl
@[simp] theorem State.updNode_recsFlash (i : Nat) (f : Node → Node) : (s.updNode i f).recsFlash = s.recsFlash := rfl
@[simp] theorem State.updNode_sent (i : Nat) (f : Node → Node) : (s.updNode i f).sent = s.sent := rfl
@[simp] theorem State.updNode_readOut (i : Nat) (f : Node → Node) : (s.updNode i f).readOut = s.readOut := rfl
@[simp] theorem State.updNode_ctxs (i : Nat) (f : Node → Node) : (s.updNode i f).ctxs = s.ctxs := rfl
@[simp] theorem State.updNode_claims (i : Nat) (f : Node → Node) : (s.updNode i f).claims = s.claims := rfl
@[simp] theorem State.updNode_cfgLease (i : Nat) (f : Node → Node) : (s.updNode i f).cfgLease = s.cfgLease := rfl
@[simp] theorem State.updNode_msix (i : Nat) (f : Node → Node) : (s.updNode i f).msix = s.msix := rfl
@[simp] theorem State.updNode_sspiReplies (i : Nat) (f : Node → Node) : (s.updNode i f).sspiReplies = s.sspiReplies := rfl
@[simp] theorem State.updNode_sspiRx (i : Nat) (f : Node → Node) : (s.updNode i f).sspiRx = s.sspiRx := rfl
@[simp] theorem State.updNode_hmpRun (i : Nat) (f : Node → Node) : (s.updNode i f).hmpRun = s.hmpRun := rfl
@[simp] theorem State.updNode_replay (i : Nat) (f : Node → Node) : (s.updNode i f).replay = s.replay := rfl
@[simp] theorem State.updNode_fwdOut (i : Nat) (f : Node → Node) : (s.updNode i f).fwdOut = s.fwdOut := rfl
@[simp] theorem State.updNode_soot (i : Nat) (f : Node → Node) : (s.updNode i f).soot = s.soot := rfl
@[simp] theorem State.updNode_head (i : Nat) (f : Node → Node) : (s.updNode i f).head = s.head := rfl
@[simp] theorem State.updNode_scheds (i : Nat) (f : Node → Node) : (s.updNode i f).scheds = s.scheds := rfl
@[simp] theorem State.updNode_hnodes (i : Nat) (f : Node → Node) : (s.updNode i f).hnodes = s.hnodes := rfl
@[simp] theorem State.updNode_segIn (i : Nat) (f : Node → Node) : (s.updNode i f).segIn = s.segIn := rfl
@[simp] theorem State.updNode_cmds (i : Nat) (f : Node → Node) : (s.updNode i f).cmds = s.cmds := rfl
@[simp] theorem State.updNode_cores (i : Nat) (f : Node → Node) : (s.updNode i f).cores = s.cores := rfl
@[simp] theorem State.updNode_sram (i : Nat) (f : Node → Node) : (s.updNode i f).sram = s.sram := rfl
@[simp] theorem State.updNode_grates (i : Nat) (f : Node → Node) : (s.updNode i f).grates = s.grates := rfl
@[simp] theorem State.updNode_descs (i : Nat) (f : Node → Node) : (s.updNode i f).descs = s.descs := rfl
@[simp] theorem State.updNode_descsNext (i : Nat) (f : Node → Node) : (s.updNode i f).descsNext = s.descsNext := rfl
@[simp] theorem State.updNode_reload (i : Nat) (f : Node → Node) : (s.updNode i f).reload = s.reload := rfl
@[simp] theorem State.updNode_insts (i : Nat) (f : Node → Node) : (s.updNode i f).insts = s.insts := rfl
@[simp] theorem State.updNode_fbs (i : Nat) (f : Node → Node) : (s.updNode i f).fbs = s.fbs := rfl
@[simp] theorem State.updNode_emus (i : Nat) (f : Node → Node) : (s.updNode i f).emus = s.emus := rfl
@[simp] theorem State.updNode_servos (i : Nat) (f : Node → Node) : (s.updNode i f).servos = s.servos := rfl
@[simp] theorem State.updNode_motions (i : Nat) (f : Node → Node) : (s.updNode i f).motions = s.motions := rfl
@[simp] theorem State.updNode_steppers (i : Nat) (f : Node → Node) : (s.updNode i f).steppers = s.steppers := rfl
@[simp] theorem State.updNode_vms (i : Nat) (f : Node → Node) : (s.updNode i f).vms = s.vms := rfl
@[simp] theorem State.updNode_groups (i : Nat) (f : Node → Node) : (s.updNode i f).groups = s.groups := rfl
@[simp] theorem State.updNode_recBufs (i : Nat) (f : Node → Node) : (s.updNode i f).recBufs = s.recBufs := rfl
@[simp] theorem State.updNode_convs (i : Nat) (f : Node → Node) : (s.updNode i f).convs = s.convs := rfl
@[simp] theorem State.updNode_tbs (i : Nat) (f : Node → Node) : (s.updNode i f).tbs = s.tbs := rfl
@[simp] theorem State.updNode_tins (i : Nat) (f : Node → Node) : (s.updNode i f).tins = s.tins := rfl
@[simp] theorem State.updNode_touts (i : Nat) (f : Node → Node) : (s.updNode i f).touts = s.touts := rfl
@[simp] theorem State.updNode_ptps (i : Nat) (f : Node → Node) : (s.updNode i f).ptps = s.ptps := rfl
@[simp] theorem State.updNode_chans (i : Nat) (f : Node → Node) : (s.updNode i f).chans = s.chans := rfl
@[simp] theorem State.updNode_twin (i : Nat) (f : Node → Node) : (s.updNode i f).twin = s.twin := rfl
@[simp] theorem State.updNode_safConns (i : Nat) (f : Node → Node) : (s.updNode i f).safConns = s.safConns := rfl
@[simp] theorem State.updNode_safSigs (i : Nat) (f : Node → Node) : (s.updNode i f).safSigs = s.safSigs := rfl
@[simp] theorem State.updNode_power (i : Nat) (f : Node → Node) : (s.updNode i f).power = s.power := rfl
@[simp] theorem State.updNode_update (i : Nat) (f : Node → Node) : (s.updNode i f).update = s.update := rfl
@[simp] theorem State.updNode_fw (i : Nat) (f : Node → Node) : (s.updNode i f).fw = s.fw := rfl

/-! State.updPower writes `power`. -/
@[simp] theorem State.updPower_axes (f : Power → Power) : (s.updPower f).axes = s.axes := rfl
@[simp] theorem State.updPower_pending (f : Power → Power) : (s.updPower f).pending = s.pending := rfl
@[simp] theorem State.updPower_free (f : Power → Power) : (s.updPower f).free = s.free := rfl
@[simp] theorem State.updPower_clk (f : Power → Power) : (s.updPower f).clk = s.clk := rfl
@[simp] theorem State.updPower_regs (f : Power → Power) : (s.updPower f).regs = s.regs := rfl
@[simp] theorem State.updPower_fuses (f : Power → Power) : (s.updPower f).fuses = s.fuses := rfl
@[simp] theorem State.updPower_recs (f : Power → Power) : (s.updPower f).recs = s.recs := rfl
@[simp] theorem State.updPower_recsNext (f : Power → Power) : (s.updPower f).recsNext = s.recsNext := rfl
@[simp] theorem State.updPower_regsFlash (f : Power → Power) : (s.updPower f).regsFlash = s.regsFlash := rfl
@[simp] theorem State.updPower_recsFlash (f : Power → Power) : (s.updPower f).recsFlash = s.recsFlash := rfl
@[simp] theorem State.updPower_sent (f : Power → Power) : (s.updPower f).sent = s.sent := rfl
@[simp] theorem State.updPower_readOut (f : Power → Power) : (s.updPower f).readOut = s.readOut := rfl
@[simp] theorem State.updPower_ctxs (f : Power → Power) : (s.updPower f).ctxs = s.ctxs := rfl
@[simp] theorem State.updPower_claims (f : Power → Power) : (s.updPower f).claims = s.claims := rfl
@[simp] theorem State.updPower_cfgLease (f : Power → Power) : (s.updPower f).cfgLease = s.cfgLease := rfl
@[simp] theorem State.updPower_msix (f : Power → Power) : (s.updPower f).msix = s.msix := rfl
@[simp] theorem State.updPower_sspiReplies (f : Power → Power) : (s.updPower f).sspiReplies = s.sspiReplies := rfl
@[simp] theorem State.updPower_sspiRx (f : Power → Power) : (s.updPower f).sspiRx = s.sspiRx := rfl
@[simp] theorem State.updPower_hmpRun (f : Power → Power) : (s.updPower f).hmpRun = s.hmpRun := rfl
@[simp] theorem State.updPower_replay (f : Power → Power) : (s.updPower f).replay = s.replay := rfl
@[simp] theorem State.updPower_fwdOut (f : Power → Power) : (s.updPower f).fwdOut = s.fwdOut := rfl
@[simp] theorem State.updPower_soot (f : Power → Power) : (s.updPower f).soot = s.soot := rfl
@[simp] theorem State.updPower_head (f : Power → Power) : (s.updPower f).head = s.head := rfl
@[simp] theorem State.updPower_scheds (f : Power → Power) : (s.updPower f).scheds = s.scheds := rfl
@[simp] theorem State.updPower_hnodes (f : Power → Power) : (s.updPower f).hnodes = s.hnodes := rfl
@[simp] theorem State.updPower_segIn (f : Power → Power) : (s.updPower f).segIn = s.segIn := rfl
@[simp] theorem State.updPower_cmds (f : Power → Power) : (s.updPower f).cmds = s.cmds := rfl
@[simp] theorem State.updPower_cores (f : Power → Power) : (s.updPower f).cores = s.cores := rfl
@[simp] theorem State.updPower_sram (f : Power → Power) : (s.updPower f).sram = s.sram := rfl
@[simp] theorem State.updPower_grates (f : Power → Power) : (s.updPower f).grates = s.grates := rfl
@[simp] theorem State.updPower_descs (f : Power → Power) : (s.updPower f).descs = s.descs := rfl
@[simp] theorem State.updPower_descsNext (f : Power → Power) : (s.updPower f).descsNext = s.descsNext := rfl
@[simp] theorem State.updPower_reload (f : Power → Power) : (s.updPower f).reload = s.reload := rfl
@[simp] theorem State.updPower_insts (f : Power → Power) : (s.updPower f).insts = s.insts := rfl
@[simp] theorem State.updPower_fbs (f : Power → Power) : (s.updPower f).fbs = s.fbs := rfl
@[simp] theorem State.updPower_emus (f : Power → Power) : (s.updPower f).emus = s.emus := rfl
@[simp] theorem State.updPower_servos (f : Power → Power) : (s.updPower f).servos = s.servos := rfl
@[simp] theorem State.updPower_motions (f : Power → Power) : (s.updPower f).motions = s.motions := rfl
@[simp] theorem State.updPower_steppers (f : Power → Power) : (s.updPower f).steppers = s.steppers := rfl
@[simp] theorem State.updPower_vms (f : Power → Power) : (s.updPower f).vms = s.vms := rfl
@[simp] theorem State.updPower_groups (f : Power → Power) : (s.updPower f).groups = s.groups := rfl
@[simp] theorem State.updPower_recBufs (f : Power → Power) : (s.updPower f).recBufs = s.recBufs := rfl
@[simp] theorem State.updPower_convs (f : Power → Power) : (s.updPower f).convs = s.convs := rfl
@[simp] theorem State.updPower_tbs (f : Power → Power) : (s.updPower f).tbs = s.tbs := rfl
@[simp] theorem State.updPower_tins (f : Power → Power) : (s.updPower f).tins = s.tins := rfl
@[simp] theorem State.updPower_touts (f : Power → Power) : (s.updPower f).touts = s.touts := rfl
@[simp] theorem State.updPower_ptps (f : Power → Power) : (s.updPower f).ptps = s.ptps := rfl
@[simp] theorem State.updPower_chans (f : Power → Power) : (s.updPower f).chans = s.chans := rfl
@[simp] theorem State.updPower_twin (f : Power → Power) : (s.updPower f).twin = s.twin := rfl
@[simp] theorem State.updPower_nodes (f : Power → Power) : (s.updPower f).nodes = s.nodes := rfl
@[simp] theorem State.updPower_safConns (f : Power → Power) : (s.updPower f).safConns = s.safConns := rfl
@[simp] theorem State.updPower_safSigs (f : Power → Power) : (s.updPower f).safSigs = s.safSigs := rfl
@[simp] theorem State.updPower_update (f : Power → Power) : (s.updPower f).update = s.update := rfl
@[simp] theorem State.updPower_fw (f : Power → Power) : (s.updPower f).fw = s.fw := rfl

/-! State.updUpdate writes `update`. -/
@[simp] theorem State.updUpdate_axes (f : Update → Update) : (s.updUpdate f).axes = s.axes := rfl
@[simp] theorem State.updUpdate_pending (f : Update → Update) : (s.updUpdate f).pending = s.pending := rfl
@[simp] theorem State.updUpdate_free (f : Update → Update) : (s.updUpdate f).free = s.free := rfl
@[simp] theorem State.updUpdate_clk (f : Update → Update) : (s.updUpdate f).clk = s.clk := rfl
@[simp] theorem State.updUpdate_regs (f : Update → Update) : (s.updUpdate f).regs = s.regs := rfl
@[simp] theorem State.updUpdate_fuses (f : Update → Update) : (s.updUpdate f).fuses = s.fuses := rfl
@[simp] theorem State.updUpdate_recs (f : Update → Update) : (s.updUpdate f).recs = s.recs := rfl
@[simp] theorem State.updUpdate_recsNext (f : Update → Update) : (s.updUpdate f).recsNext = s.recsNext := rfl
@[simp] theorem State.updUpdate_regsFlash (f : Update → Update) : (s.updUpdate f).regsFlash = s.regsFlash := rfl
@[simp] theorem State.updUpdate_recsFlash (f : Update → Update) : (s.updUpdate f).recsFlash = s.recsFlash := rfl
@[simp] theorem State.updUpdate_sent (f : Update → Update) : (s.updUpdate f).sent = s.sent := rfl
@[simp] theorem State.updUpdate_readOut (f : Update → Update) : (s.updUpdate f).readOut = s.readOut := rfl
@[simp] theorem State.updUpdate_ctxs (f : Update → Update) : (s.updUpdate f).ctxs = s.ctxs := rfl
@[simp] theorem State.updUpdate_claims (f : Update → Update) : (s.updUpdate f).claims = s.claims := rfl
@[simp] theorem State.updUpdate_cfgLease (f : Update → Update) : (s.updUpdate f).cfgLease = s.cfgLease := rfl
@[simp] theorem State.updUpdate_msix (f : Update → Update) : (s.updUpdate f).msix = s.msix := rfl
@[simp] theorem State.updUpdate_sspiReplies (f : Update → Update) : (s.updUpdate f).sspiReplies = s.sspiReplies := rfl
@[simp] theorem State.updUpdate_sspiRx (f : Update → Update) : (s.updUpdate f).sspiRx = s.sspiRx := rfl
@[simp] theorem State.updUpdate_hmpRun (f : Update → Update) : (s.updUpdate f).hmpRun = s.hmpRun := rfl
@[simp] theorem State.updUpdate_replay (f : Update → Update) : (s.updUpdate f).replay = s.replay := rfl
@[simp] theorem State.updUpdate_fwdOut (f : Update → Update) : (s.updUpdate f).fwdOut = s.fwdOut := rfl
@[simp] theorem State.updUpdate_soot (f : Update → Update) : (s.updUpdate f).soot = s.soot := rfl
@[simp] theorem State.updUpdate_head (f : Update → Update) : (s.updUpdate f).head = s.head := rfl
@[simp] theorem State.updUpdate_scheds (f : Update → Update) : (s.updUpdate f).scheds = s.scheds := rfl
@[simp] theorem State.updUpdate_hnodes (f : Update → Update) : (s.updUpdate f).hnodes = s.hnodes := rfl
@[simp] theorem State.updUpdate_segIn (f : Update → Update) : (s.updUpdate f).segIn = s.segIn := rfl
@[simp] theorem State.updUpdate_cmds (f : Update → Update) : (s.updUpdate f).cmds = s.cmds := rfl
@[simp] theorem State.updUpdate_cores (f : Update → Update) : (s.updUpdate f).cores = s.cores := rfl
@[simp] theorem State.updUpdate_sram (f : Update → Update) : (s.updUpdate f).sram = s.sram := rfl
@[simp] theorem State.updUpdate_grates (f : Update → Update) : (s.updUpdate f).grates = s.grates := rfl
@[simp] theorem State.updUpdate_descs (f : Update → Update) : (s.updUpdate f).descs = s.descs := rfl
@[simp] theorem State.updUpdate_descsNext (f : Update → Update) : (s.updUpdate f).descsNext = s.descsNext := rfl
@[simp] theorem State.updUpdate_reload (f : Update → Update) : (s.updUpdate f).reload = s.reload := rfl
@[simp] theorem State.updUpdate_insts (f : Update → Update) : (s.updUpdate f).insts = s.insts := rfl
@[simp] theorem State.updUpdate_fbs (f : Update → Update) : (s.updUpdate f).fbs = s.fbs := rfl
@[simp] theorem State.updUpdate_emus (f : Update → Update) : (s.updUpdate f).emus = s.emus := rfl
@[simp] theorem State.updUpdate_servos (f : Update → Update) : (s.updUpdate f).servos = s.servos := rfl
@[simp] theorem State.updUpdate_motions (f : Update → Update) : (s.updUpdate f).motions = s.motions := rfl
@[simp] theorem State.updUpdate_steppers (f : Update → Update) : (s.updUpdate f).steppers = s.steppers := rfl
@[simp] theorem State.updUpdate_vms (f : Update → Update) : (s.updUpdate f).vms = s.vms := rfl
@[simp] theorem State.updUpdate_groups (f : Update → Update) : (s.updUpdate f).groups = s.groups := rfl
@[simp] theorem State.updUpdate_recBufs (f : Update → Update) : (s.updUpdate f).recBufs = s.recBufs := rfl
@[simp] theorem State.updUpdate_convs (f : Update → Update) : (s.updUpdate f).convs = s.convs := rfl
@[simp] theorem State.updUpdate_tbs (f : Update → Update) : (s.updUpdate f).tbs = s.tbs := rfl
@[simp] theorem State.updUpdate_tins (f : Update → Update) : (s.updUpdate f).tins = s.tins := rfl
@[simp] theorem State.updUpdate_touts (f : Update → Update) : (s.updUpdate f).touts = s.touts := rfl
@[simp] theorem State.updUpdate_ptps (f : Update → Update) : (s.updUpdate f).ptps = s.ptps := rfl
@[simp] theorem State.updUpdate_chans (f : Update → Update) : (s.updUpdate f).chans = s.chans := rfl
@[simp] theorem State.updUpdate_twin (f : Update → Update) : (s.updUpdate f).twin = s.twin := rfl
@[simp] theorem State.updUpdate_nodes (f : Update → Update) : (s.updUpdate f).nodes = s.nodes := rfl
@[simp] theorem State.updUpdate_safConns (f : Update → Update) : (s.updUpdate f).safConns = s.safConns := rfl
@[simp] theorem State.updUpdate_safSigs (f : Update → Update) : (s.updUpdate f).safSigs = s.safSigs := rfl
@[simp] theorem State.updUpdate_power (f : Update → Update) : (s.updUpdate f).power = s.power := rfl
@[simp] theorem State.updUpdate_fw (f : Update → Update) : (s.updUpdate f).fw = s.fw := rfl

/-! State.updFb writes `fbs`. -/
@[simp] theorem State.updFb_axes (i : Nat) (f : Fb → Fb) : (s.updFb i f).axes = s.axes := rfl
@[simp] theorem State.updFb_pending (i : Nat) (f : Fb → Fb) : (s.updFb i f).pending = s.pending := rfl
@[simp] theorem State.updFb_free (i : Nat) (f : Fb → Fb) : (s.updFb i f).free = s.free := rfl
@[simp] theorem State.updFb_clk (i : Nat) (f : Fb → Fb) : (s.updFb i f).clk = s.clk := rfl
@[simp] theorem State.updFb_regs (i : Nat) (f : Fb → Fb) : (s.updFb i f).regs = s.regs := rfl
@[simp] theorem State.updFb_fuses (i : Nat) (f : Fb → Fb) : (s.updFb i f).fuses = s.fuses := rfl
@[simp] theorem State.updFb_recs (i : Nat) (f : Fb → Fb) : (s.updFb i f).recs = s.recs := rfl
@[simp] theorem State.updFb_recsNext (i : Nat) (f : Fb → Fb) : (s.updFb i f).recsNext = s.recsNext := rfl
@[simp] theorem State.updFb_regsFlash (i : Nat) (f : Fb → Fb) : (s.updFb i f).regsFlash = s.regsFlash := rfl
@[simp] theorem State.updFb_recsFlash (i : Nat) (f : Fb → Fb) : (s.updFb i f).recsFlash = s.recsFlash := rfl
@[simp] theorem State.updFb_sent (i : Nat) (f : Fb → Fb) : (s.updFb i f).sent = s.sent := rfl
@[simp] theorem State.updFb_readOut (i : Nat) (f : Fb → Fb) : (s.updFb i f).readOut = s.readOut := rfl
@[simp] theorem State.updFb_ctxs (i : Nat) (f : Fb → Fb) : (s.updFb i f).ctxs = s.ctxs := rfl
@[simp] theorem State.updFb_claims (i : Nat) (f : Fb → Fb) : (s.updFb i f).claims = s.claims := rfl
@[simp] theorem State.updFb_cfgLease (i : Nat) (f : Fb → Fb) : (s.updFb i f).cfgLease = s.cfgLease := rfl
@[simp] theorem State.updFb_msix (i : Nat) (f : Fb → Fb) : (s.updFb i f).msix = s.msix := rfl
@[simp] theorem State.updFb_sspiReplies (i : Nat) (f : Fb → Fb) : (s.updFb i f).sspiReplies = s.sspiReplies := rfl
@[simp] theorem State.updFb_sspiRx (i : Nat) (f : Fb → Fb) : (s.updFb i f).sspiRx = s.sspiRx := rfl
@[simp] theorem State.updFb_hmpRun (i : Nat) (f : Fb → Fb) : (s.updFb i f).hmpRun = s.hmpRun := rfl
@[simp] theorem State.updFb_replay (i : Nat) (f : Fb → Fb) : (s.updFb i f).replay = s.replay := rfl
@[simp] theorem State.updFb_fwdOut (i : Nat) (f : Fb → Fb) : (s.updFb i f).fwdOut = s.fwdOut := rfl
@[simp] theorem State.updFb_soot (i : Nat) (f : Fb → Fb) : (s.updFb i f).soot = s.soot := rfl
@[simp] theorem State.updFb_head (i : Nat) (f : Fb → Fb) : (s.updFb i f).head = s.head := rfl
@[simp] theorem State.updFb_scheds (i : Nat) (f : Fb → Fb) : (s.updFb i f).scheds = s.scheds := rfl
@[simp] theorem State.updFb_hnodes (i : Nat) (f : Fb → Fb) : (s.updFb i f).hnodes = s.hnodes := rfl
@[simp] theorem State.updFb_segIn (i : Nat) (f : Fb → Fb) : (s.updFb i f).segIn = s.segIn := rfl
@[simp] theorem State.updFb_cmds (i : Nat) (f : Fb → Fb) : (s.updFb i f).cmds = s.cmds := rfl
@[simp] theorem State.updFb_cores (i : Nat) (f : Fb → Fb) : (s.updFb i f).cores = s.cores := rfl
@[simp] theorem State.updFb_sram (i : Nat) (f : Fb → Fb) : (s.updFb i f).sram = s.sram := rfl
@[simp] theorem State.updFb_grates (i : Nat) (f : Fb → Fb) : (s.updFb i f).grates = s.grates := rfl
@[simp] theorem State.updFb_descs (i : Nat) (f : Fb → Fb) : (s.updFb i f).descs = s.descs := rfl
@[simp] theorem State.updFb_descsNext (i : Nat) (f : Fb → Fb) : (s.updFb i f).descsNext = s.descsNext := rfl
@[simp] theorem State.updFb_reload (i : Nat) (f : Fb → Fb) : (s.updFb i f).reload = s.reload := rfl
@[simp] theorem State.updFb_insts (i : Nat) (f : Fb → Fb) : (s.updFb i f).insts = s.insts := rfl
@[simp] theorem State.updFb_emus (i : Nat) (f : Fb → Fb) : (s.updFb i f).emus = s.emus := rfl
@[simp] theorem State.updFb_servos (i : Nat) (f : Fb → Fb) : (s.updFb i f).servos = s.servos := rfl
@[simp] theorem State.updFb_motions (i : Nat) (f : Fb → Fb) : (s.updFb i f).motions = s.motions := rfl
@[simp] theorem State.updFb_steppers (i : Nat) (f : Fb → Fb) : (s.updFb i f).steppers = s.steppers := rfl
@[simp] theorem State.updFb_vms (i : Nat) (f : Fb → Fb) : (s.updFb i f).vms = s.vms := rfl
@[simp] theorem State.updFb_groups (i : Nat) (f : Fb → Fb) : (s.updFb i f).groups = s.groups := rfl
@[simp] theorem State.updFb_recBufs (i : Nat) (f : Fb → Fb) : (s.updFb i f).recBufs = s.recBufs := rfl
@[simp] theorem State.updFb_convs (i : Nat) (f : Fb → Fb) : (s.updFb i f).convs = s.convs := rfl
@[simp] theorem State.updFb_tbs (i : Nat) (f : Fb → Fb) : (s.updFb i f).tbs = s.tbs := rfl
@[simp] theorem State.updFb_tins (i : Nat) (f : Fb → Fb) : (s.updFb i f).tins = s.tins := rfl
@[simp] theorem State.updFb_touts (i : Nat) (f : Fb → Fb) : (s.updFb i f).touts = s.touts := rfl
@[simp] theorem State.updFb_ptps (i : Nat) (f : Fb → Fb) : (s.updFb i f).ptps = s.ptps := rfl
@[simp] theorem State.updFb_chans (i : Nat) (f : Fb → Fb) : (s.updFb i f).chans = s.chans := rfl
@[simp] theorem State.updFb_twin (i : Nat) (f : Fb → Fb) : (s.updFb i f).twin = s.twin := rfl
@[simp] theorem State.updFb_nodes (i : Nat) (f : Fb → Fb) : (s.updFb i f).nodes = s.nodes := rfl
@[simp] theorem State.updFb_safConns (i : Nat) (f : Fb → Fb) : (s.updFb i f).safConns = s.safConns := rfl
@[simp] theorem State.updFb_safSigs (i : Nat) (f : Fb → Fb) : (s.updFb i f).safSigs = s.safSigs := rfl
@[simp] theorem State.updFb_power (i : Nat) (f : Fb → Fb) : (s.updFb i f).power = s.power := rfl
@[simp] theorem State.updFb_update (i : Nat) (f : Fb → Fb) : (s.updFb i f).update = s.update := rfl
@[simp] theorem State.updFb_fw (i : Nat) (f : Fb → Fb) : (s.updFb i f).fw = s.fw := rfl

/-! State.updEmu writes `emus`. -/
@[simp] theorem State.updEmu_axes (i : Nat) (f : Emu → Emu) : (s.updEmu i f).axes = s.axes := rfl
@[simp] theorem State.updEmu_pending (i : Nat) (f : Emu → Emu) : (s.updEmu i f).pending = s.pending := rfl
@[simp] theorem State.updEmu_free (i : Nat) (f : Emu → Emu) : (s.updEmu i f).free = s.free := rfl
@[simp] theorem State.updEmu_clk (i : Nat) (f : Emu → Emu) : (s.updEmu i f).clk = s.clk := rfl
@[simp] theorem State.updEmu_regs (i : Nat) (f : Emu → Emu) : (s.updEmu i f).regs = s.regs := rfl
@[simp] theorem State.updEmu_fuses (i : Nat) (f : Emu → Emu) : (s.updEmu i f).fuses = s.fuses := rfl
@[simp] theorem State.updEmu_recs (i : Nat) (f : Emu → Emu) : (s.updEmu i f).recs = s.recs := rfl
@[simp] theorem State.updEmu_recsNext (i : Nat) (f : Emu → Emu) : (s.updEmu i f).recsNext = s.recsNext := rfl
@[simp] theorem State.updEmu_regsFlash (i : Nat) (f : Emu → Emu) : (s.updEmu i f).regsFlash = s.regsFlash := rfl
@[simp] theorem State.updEmu_recsFlash (i : Nat) (f : Emu → Emu) : (s.updEmu i f).recsFlash = s.recsFlash := rfl
@[simp] theorem State.updEmu_sent (i : Nat) (f : Emu → Emu) : (s.updEmu i f).sent = s.sent := rfl
@[simp] theorem State.updEmu_readOut (i : Nat) (f : Emu → Emu) : (s.updEmu i f).readOut = s.readOut := rfl
@[simp] theorem State.updEmu_ctxs (i : Nat) (f : Emu → Emu) : (s.updEmu i f).ctxs = s.ctxs := rfl
@[simp] theorem State.updEmu_claims (i : Nat) (f : Emu → Emu) : (s.updEmu i f).claims = s.claims := rfl
@[simp] theorem State.updEmu_cfgLease (i : Nat) (f : Emu → Emu) : (s.updEmu i f).cfgLease = s.cfgLease := rfl
@[simp] theorem State.updEmu_msix (i : Nat) (f : Emu → Emu) : (s.updEmu i f).msix = s.msix := rfl
@[simp] theorem State.updEmu_sspiReplies (i : Nat) (f : Emu → Emu) : (s.updEmu i f).sspiReplies = s.sspiReplies := rfl
@[simp] theorem State.updEmu_sspiRx (i : Nat) (f : Emu → Emu) : (s.updEmu i f).sspiRx = s.sspiRx := rfl
@[simp] theorem State.updEmu_hmpRun (i : Nat) (f : Emu → Emu) : (s.updEmu i f).hmpRun = s.hmpRun := rfl
@[simp] theorem State.updEmu_replay (i : Nat) (f : Emu → Emu) : (s.updEmu i f).replay = s.replay := rfl
@[simp] theorem State.updEmu_fwdOut (i : Nat) (f : Emu → Emu) : (s.updEmu i f).fwdOut = s.fwdOut := rfl
@[simp] theorem State.updEmu_soot (i : Nat) (f : Emu → Emu) : (s.updEmu i f).soot = s.soot := rfl
@[simp] theorem State.updEmu_head (i : Nat) (f : Emu → Emu) : (s.updEmu i f).head = s.head := rfl
@[simp] theorem State.updEmu_scheds (i : Nat) (f : Emu → Emu) : (s.updEmu i f).scheds = s.scheds := rfl
@[simp] theorem State.updEmu_hnodes (i : Nat) (f : Emu → Emu) : (s.updEmu i f).hnodes = s.hnodes := rfl
@[simp] theorem State.updEmu_segIn (i : Nat) (f : Emu → Emu) : (s.updEmu i f).segIn = s.segIn := rfl
@[simp] theorem State.updEmu_cmds (i : Nat) (f : Emu → Emu) : (s.updEmu i f).cmds = s.cmds := rfl
@[simp] theorem State.updEmu_cores (i : Nat) (f : Emu → Emu) : (s.updEmu i f).cores = s.cores := rfl
@[simp] theorem State.updEmu_sram (i : Nat) (f : Emu → Emu) : (s.updEmu i f).sram = s.sram := rfl
@[simp] theorem State.updEmu_grates (i : Nat) (f : Emu → Emu) : (s.updEmu i f).grates = s.grates := rfl
@[simp] theorem State.updEmu_descs (i : Nat) (f : Emu → Emu) : (s.updEmu i f).descs = s.descs := rfl
@[simp] theorem State.updEmu_descsNext (i : Nat) (f : Emu → Emu) : (s.updEmu i f).descsNext = s.descsNext := rfl
@[simp] theorem State.updEmu_reload (i : Nat) (f : Emu → Emu) : (s.updEmu i f).reload = s.reload := rfl
@[simp] theorem State.updEmu_insts (i : Nat) (f : Emu → Emu) : (s.updEmu i f).insts = s.insts := rfl
@[simp] theorem State.updEmu_fbs (i : Nat) (f : Emu → Emu) : (s.updEmu i f).fbs = s.fbs := rfl
@[simp] theorem State.updEmu_servos (i : Nat) (f : Emu → Emu) : (s.updEmu i f).servos = s.servos := rfl
@[simp] theorem State.updEmu_motions (i : Nat) (f : Emu → Emu) : (s.updEmu i f).motions = s.motions := rfl
@[simp] theorem State.updEmu_steppers (i : Nat) (f : Emu → Emu) : (s.updEmu i f).steppers = s.steppers := rfl
@[simp] theorem State.updEmu_vms (i : Nat) (f : Emu → Emu) : (s.updEmu i f).vms = s.vms := rfl
@[simp] theorem State.updEmu_groups (i : Nat) (f : Emu → Emu) : (s.updEmu i f).groups = s.groups := rfl
@[simp] theorem State.updEmu_recBufs (i : Nat) (f : Emu → Emu) : (s.updEmu i f).recBufs = s.recBufs := rfl
@[simp] theorem State.updEmu_convs (i : Nat) (f : Emu → Emu) : (s.updEmu i f).convs = s.convs := rfl
@[simp] theorem State.updEmu_tbs (i : Nat) (f : Emu → Emu) : (s.updEmu i f).tbs = s.tbs := rfl
@[simp] theorem State.updEmu_tins (i : Nat) (f : Emu → Emu) : (s.updEmu i f).tins = s.tins := rfl
@[simp] theorem State.updEmu_touts (i : Nat) (f : Emu → Emu) : (s.updEmu i f).touts = s.touts := rfl
@[simp] theorem State.updEmu_ptps (i : Nat) (f : Emu → Emu) : (s.updEmu i f).ptps = s.ptps := rfl
@[simp] theorem State.updEmu_chans (i : Nat) (f : Emu → Emu) : (s.updEmu i f).chans = s.chans := rfl
@[simp] theorem State.updEmu_twin (i : Nat) (f : Emu → Emu) : (s.updEmu i f).twin = s.twin := rfl
@[simp] theorem State.updEmu_nodes (i : Nat) (f : Emu → Emu) : (s.updEmu i f).nodes = s.nodes := rfl
@[simp] theorem State.updEmu_safConns (i : Nat) (f : Emu → Emu) : (s.updEmu i f).safConns = s.safConns := rfl
@[simp] theorem State.updEmu_safSigs (i : Nat) (f : Emu → Emu) : (s.updEmu i f).safSigs = s.safSigs := rfl
@[simp] theorem State.updEmu_power (i : Nat) (f : Emu → Emu) : (s.updEmu i f).power = s.power := rfl
@[simp] theorem State.updEmu_update (i : Nat) (f : Emu → Emu) : (s.updEmu i f).update = s.update := rfl
@[simp] theorem State.updEmu_fw (i : Nat) (f : Emu → Emu) : (s.updEmu i f).fw = s.fw := rfl

/-! State.updServo writes `servos`. -/
@[simp] theorem State.updServo_axes (i : Nat) (f : Servo → Servo) : (s.updServo i f).axes = s.axes := rfl
@[simp] theorem State.updServo_pending (i : Nat) (f : Servo → Servo) : (s.updServo i f).pending = s.pending := rfl
@[simp] theorem State.updServo_free (i : Nat) (f : Servo → Servo) : (s.updServo i f).free = s.free := rfl
@[simp] theorem State.updServo_clk (i : Nat) (f : Servo → Servo) : (s.updServo i f).clk = s.clk := rfl
@[simp] theorem State.updServo_regs (i : Nat) (f : Servo → Servo) : (s.updServo i f).regs = s.regs := rfl
@[simp] theorem State.updServo_fuses (i : Nat) (f : Servo → Servo) : (s.updServo i f).fuses = s.fuses := rfl
@[simp] theorem State.updServo_recs (i : Nat) (f : Servo → Servo) : (s.updServo i f).recs = s.recs := rfl
@[simp] theorem State.updServo_recsNext (i : Nat) (f : Servo → Servo) : (s.updServo i f).recsNext = s.recsNext := rfl
@[simp] theorem State.updServo_regsFlash (i : Nat) (f : Servo → Servo) : (s.updServo i f).regsFlash = s.regsFlash := rfl
@[simp] theorem State.updServo_recsFlash (i : Nat) (f : Servo → Servo) : (s.updServo i f).recsFlash = s.recsFlash := rfl
@[simp] theorem State.updServo_sent (i : Nat) (f : Servo → Servo) : (s.updServo i f).sent = s.sent := rfl
@[simp] theorem State.updServo_readOut (i : Nat) (f : Servo → Servo) : (s.updServo i f).readOut = s.readOut := rfl
@[simp] theorem State.updServo_ctxs (i : Nat) (f : Servo → Servo) : (s.updServo i f).ctxs = s.ctxs := rfl
@[simp] theorem State.updServo_claims (i : Nat) (f : Servo → Servo) : (s.updServo i f).claims = s.claims := rfl
@[simp] theorem State.updServo_cfgLease (i : Nat) (f : Servo → Servo) : (s.updServo i f).cfgLease = s.cfgLease := rfl
@[simp] theorem State.updServo_msix (i : Nat) (f : Servo → Servo) : (s.updServo i f).msix = s.msix := rfl
@[simp] theorem State.updServo_sspiReplies (i : Nat) (f : Servo → Servo) : (s.updServo i f).sspiReplies = s.sspiReplies := rfl
@[simp] theorem State.updServo_sspiRx (i : Nat) (f : Servo → Servo) : (s.updServo i f).sspiRx = s.sspiRx := rfl
@[simp] theorem State.updServo_hmpRun (i : Nat) (f : Servo → Servo) : (s.updServo i f).hmpRun = s.hmpRun := rfl
@[simp] theorem State.updServo_replay (i : Nat) (f : Servo → Servo) : (s.updServo i f).replay = s.replay := rfl
@[simp] theorem State.updServo_fwdOut (i : Nat) (f : Servo → Servo) : (s.updServo i f).fwdOut = s.fwdOut := rfl
@[simp] theorem State.updServo_soot (i : Nat) (f : Servo → Servo) : (s.updServo i f).soot = s.soot := rfl
@[simp] theorem State.updServo_head (i : Nat) (f : Servo → Servo) : (s.updServo i f).head = s.head := rfl
@[simp] theorem State.updServo_scheds (i : Nat) (f : Servo → Servo) : (s.updServo i f).scheds = s.scheds := rfl
@[simp] theorem State.updServo_hnodes (i : Nat) (f : Servo → Servo) : (s.updServo i f).hnodes = s.hnodes := rfl
@[simp] theorem State.updServo_segIn (i : Nat) (f : Servo → Servo) : (s.updServo i f).segIn = s.segIn := rfl
@[simp] theorem State.updServo_cmds (i : Nat) (f : Servo → Servo) : (s.updServo i f).cmds = s.cmds := rfl
@[simp] theorem State.updServo_cores (i : Nat) (f : Servo → Servo) : (s.updServo i f).cores = s.cores := rfl
@[simp] theorem State.updServo_sram (i : Nat) (f : Servo → Servo) : (s.updServo i f).sram = s.sram := rfl
@[simp] theorem State.updServo_grates (i : Nat) (f : Servo → Servo) : (s.updServo i f).grates = s.grates := rfl
@[simp] theorem State.updServo_descs (i : Nat) (f : Servo → Servo) : (s.updServo i f).descs = s.descs := rfl
@[simp] theorem State.updServo_descsNext (i : Nat) (f : Servo → Servo) : (s.updServo i f).descsNext = s.descsNext := rfl
@[simp] theorem State.updServo_reload (i : Nat) (f : Servo → Servo) : (s.updServo i f).reload = s.reload := rfl
@[simp] theorem State.updServo_insts (i : Nat) (f : Servo → Servo) : (s.updServo i f).insts = s.insts := rfl
@[simp] theorem State.updServo_fbs (i : Nat) (f : Servo → Servo) : (s.updServo i f).fbs = s.fbs := rfl
@[simp] theorem State.updServo_emus (i : Nat) (f : Servo → Servo) : (s.updServo i f).emus = s.emus := rfl
@[simp] theorem State.updServo_motions (i : Nat) (f : Servo → Servo) : (s.updServo i f).motions = s.motions := rfl
@[simp] theorem State.updServo_steppers (i : Nat) (f : Servo → Servo) : (s.updServo i f).steppers = s.steppers := rfl
@[simp] theorem State.updServo_vms (i : Nat) (f : Servo → Servo) : (s.updServo i f).vms = s.vms := rfl
@[simp] theorem State.updServo_groups (i : Nat) (f : Servo → Servo) : (s.updServo i f).groups = s.groups := rfl
@[simp] theorem State.updServo_recBufs (i : Nat) (f : Servo → Servo) : (s.updServo i f).recBufs = s.recBufs := rfl
@[simp] theorem State.updServo_convs (i : Nat) (f : Servo → Servo) : (s.updServo i f).convs = s.convs := rfl
@[simp] theorem State.updServo_tbs (i : Nat) (f : Servo → Servo) : (s.updServo i f).tbs = s.tbs := rfl
@[simp] theorem State.updServo_tins (i : Nat) (f : Servo → Servo) : (s.updServo i f).tins = s.tins := rfl
@[simp] theorem State.updServo_touts (i : Nat) (f : Servo → Servo) : (s.updServo i f).touts = s.touts := rfl
@[simp] theorem State.updServo_ptps (i : Nat) (f : Servo → Servo) : (s.updServo i f).ptps = s.ptps := rfl
@[simp] theorem State.updServo_chans (i : Nat) (f : Servo → Servo) : (s.updServo i f).chans = s.chans := rfl
@[simp] theorem State.updServo_twin (i : Nat) (f : Servo → Servo) : (s.updServo i f).twin = s.twin := rfl
@[simp] theorem State.updServo_nodes (i : Nat) (f : Servo → Servo) : (s.updServo i f).nodes = s.nodes := rfl
@[simp] theorem State.updServo_safConns (i : Nat) (f : Servo → Servo) : (s.updServo i f).safConns = s.safConns := rfl
@[simp] theorem State.updServo_safSigs (i : Nat) (f : Servo → Servo) : (s.updServo i f).safSigs = s.safSigs := rfl
@[simp] theorem State.updServo_power (i : Nat) (f : Servo → Servo) : (s.updServo i f).power = s.power := rfl
@[simp] theorem State.updServo_update (i : Nat) (f : Servo → Servo) : (s.updServo i f).update = s.update := rfl
@[simp] theorem State.updServo_fw (i : Nat) (f : Servo → Servo) : (s.updServo i f).fw = s.fw := rfl

/-! State.updMotion writes `motions`. -/
@[simp] theorem State.updMotion_axes (i : Nat) (f : Motion → Motion) : (s.updMotion i f).axes = s.axes := rfl
@[simp] theorem State.updMotion_pending (i : Nat) (f : Motion → Motion) : (s.updMotion i f).pending = s.pending := rfl
@[simp] theorem State.updMotion_free (i : Nat) (f : Motion → Motion) : (s.updMotion i f).free = s.free := rfl
@[simp] theorem State.updMotion_clk (i : Nat) (f : Motion → Motion) : (s.updMotion i f).clk = s.clk := rfl
@[simp] theorem State.updMotion_regs (i : Nat) (f : Motion → Motion) : (s.updMotion i f).regs = s.regs := rfl
@[simp] theorem State.updMotion_fuses (i : Nat) (f : Motion → Motion) : (s.updMotion i f).fuses = s.fuses := rfl
@[simp] theorem State.updMotion_recs (i : Nat) (f : Motion → Motion) : (s.updMotion i f).recs = s.recs := rfl
@[simp] theorem State.updMotion_recsNext (i : Nat) (f : Motion → Motion) : (s.updMotion i f).recsNext = s.recsNext := rfl
@[simp] theorem State.updMotion_regsFlash (i : Nat) (f : Motion → Motion) : (s.updMotion i f).regsFlash = s.regsFlash := rfl
@[simp] theorem State.updMotion_recsFlash (i : Nat) (f : Motion → Motion) : (s.updMotion i f).recsFlash = s.recsFlash := rfl
@[simp] theorem State.updMotion_sent (i : Nat) (f : Motion → Motion) : (s.updMotion i f).sent = s.sent := rfl
@[simp] theorem State.updMotion_readOut (i : Nat) (f : Motion → Motion) : (s.updMotion i f).readOut = s.readOut := rfl
@[simp] theorem State.updMotion_ctxs (i : Nat) (f : Motion → Motion) : (s.updMotion i f).ctxs = s.ctxs := rfl
@[simp] theorem State.updMotion_claims (i : Nat) (f : Motion → Motion) : (s.updMotion i f).claims = s.claims := rfl
@[simp] theorem State.updMotion_cfgLease (i : Nat) (f : Motion → Motion) : (s.updMotion i f).cfgLease = s.cfgLease := rfl
@[simp] theorem State.updMotion_msix (i : Nat) (f : Motion → Motion) : (s.updMotion i f).msix = s.msix := rfl
@[simp] theorem State.updMotion_sspiReplies (i : Nat) (f : Motion → Motion) : (s.updMotion i f).sspiReplies = s.sspiReplies := rfl
@[simp] theorem State.updMotion_sspiRx (i : Nat) (f : Motion → Motion) : (s.updMotion i f).sspiRx = s.sspiRx := rfl
@[simp] theorem State.updMotion_hmpRun (i : Nat) (f : Motion → Motion) : (s.updMotion i f).hmpRun = s.hmpRun := rfl
@[simp] theorem State.updMotion_replay (i : Nat) (f : Motion → Motion) : (s.updMotion i f).replay = s.replay := rfl
@[simp] theorem State.updMotion_fwdOut (i : Nat) (f : Motion → Motion) : (s.updMotion i f).fwdOut = s.fwdOut := rfl
@[simp] theorem State.updMotion_soot (i : Nat) (f : Motion → Motion) : (s.updMotion i f).soot = s.soot := rfl
@[simp] theorem State.updMotion_head (i : Nat) (f : Motion → Motion) : (s.updMotion i f).head = s.head := rfl
@[simp] theorem State.updMotion_scheds (i : Nat) (f : Motion → Motion) : (s.updMotion i f).scheds = s.scheds := rfl
@[simp] theorem State.updMotion_hnodes (i : Nat) (f : Motion → Motion) : (s.updMotion i f).hnodes = s.hnodes := rfl
@[simp] theorem State.updMotion_segIn (i : Nat) (f : Motion → Motion) : (s.updMotion i f).segIn = s.segIn := rfl
@[simp] theorem State.updMotion_cmds (i : Nat) (f : Motion → Motion) : (s.updMotion i f).cmds = s.cmds := rfl
@[simp] theorem State.updMotion_cores (i : Nat) (f : Motion → Motion) : (s.updMotion i f).cores = s.cores := rfl
@[simp] theorem State.updMotion_sram (i : Nat) (f : Motion → Motion) : (s.updMotion i f).sram = s.sram := rfl
@[simp] theorem State.updMotion_grates (i : Nat) (f : Motion → Motion) : (s.updMotion i f).grates = s.grates := rfl
@[simp] theorem State.updMotion_descs (i : Nat) (f : Motion → Motion) : (s.updMotion i f).descs = s.descs := rfl
@[simp] theorem State.updMotion_descsNext (i : Nat) (f : Motion → Motion) : (s.updMotion i f).descsNext = s.descsNext := rfl
@[simp] theorem State.updMotion_reload (i : Nat) (f : Motion → Motion) : (s.updMotion i f).reload = s.reload := rfl
@[simp] theorem State.updMotion_insts (i : Nat) (f : Motion → Motion) : (s.updMotion i f).insts = s.insts := rfl
@[simp] theorem State.updMotion_fbs (i : Nat) (f : Motion → Motion) : (s.updMotion i f).fbs = s.fbs := rfl
@[simp] theorem State.updMotion_emus (i : Nat) (f : Motion → Motion) : (s.updMotion i f).emus = s.emus := rfl
@[simp] theorem State.updMotion_servos (i : Nat) (f : Motion → Motion) : (s.updMotion i f).servos = s.servos := rfl
@[simp] theorem State.updMotion_steppers (i : Nat) (f : Motion → Motion) : (s.updMotion i f).steppers = s.steppers := rfl
@[simp] theorem State.updMotion_vms (i : Nat) (f : Motion → Motion) : (s.updMotion i f).vms = s.vms := rfl
@[simp] theorem State.updMotion_groups (i : Nat) (f : Motion → Motion) : (s.updMotion i f).groups = s.groups := rfl
@[simp] theorem State.updMotion_recBufs (i : Nat) (f : Motion → Motion) : (s.updMotion i f).recBufs = s.recBufs := rfl
@[simp] theorem State.updMotion_convs (i : Nat) (f : Motion → Motion) : (s.updMotion i f).convs = s.convs := rfl
@[simp] theorem State.updMotion_tbs (i : Nat) (f : Motion → Motion) : (s.updMotion i f).tbs = s.tbs := rfl
@[simp] theorem State.updMotion_tins (i : Nat) (f : Motion → Motion) : (s.updMotion i f).tins = s.tins := rfl
@[simp] theorem State.updMotion_touts (i : Nat) (f : Motion → Motion) : (s.updMotion i f).touts = s.touts := rfl
@[simp] theorem State.updMotion_ptps (i : Nat) (f : Motion → Motion) : (s.updMotion i f).ptps = s.ptps := rfl
@[simp] theorem State.updMotion_chans (i : Nat) (f : Motion → Motion) : (s.updMotion i f).chans = s.chans := rfl
@[simp] theorem State.updMotion_twin (i : Nat) (f : Motion → Motion) : (s.updMotion i f).twin = s.twin := rfl
@[simp] theorem State.updMotion_nodes (i : Nat) (f : Motion → Motion) : (s.updMotion i f).nodes = s.nodes := rfl
@[simp] theorem State.updMotion_safConns (i : Nat) (f : Motion → Motion) : (s.updMotion i f).safConns = s.safConns := rfl
@[simp] theorem State.updMotion_safSigs (i : Nat) (f : Motion → Motion) : (s.updMotion i f).safSigs = s.safSigs := rfl
@[simp] theorem State.updMotion_power (i : Nat) (f : Motion → Motion) : (s.updMotion i f).power = s.power := rfl
@[simp] theorem State.updMotion_update (i : Nat) (f : Motion → Motion) : (s.updMotion i f).update = s.update := rfl
@[simp] theorem State.updMotion_fw (i : Nat) (f : Motion → Motion) : (s.updMotion i f).fw = s.fw := rfl

/-! State.updStepper writes `steppers`. -/
@[simp] theorem State.updStepper_axes (i : Nat) (f : Stepper → Stepper) : (s.updStepper i f).axes = s.axes := rfl
@[simp] theorem State.updStepper_pending (i : Nat) (f : Stepper → Stepper) : (s.updStepper i f).pending = s.pending := rfl
@[simp] theorem State.updStepper_free (i : Nat) (f : Stepper → Stepper) : (s.updStepper i f).free = s.free := rfl
@[simp] theorem State.updStepper_clk (i : Nat) (f : Stepper → Stepper) : (s.updStepper i f).clk = s.clk := rfl
@[simp] theorem State.updStepper_regs (i : Nat) (f : Stepper → Stepper) : (s.updStepper i f).regs = s.regs := rfl
@[simp] theorem State.updStepper_fuses (i : Nat) (f : Stepper → Stepper) : (s.updStepper i f).fuses = s.fuses := rfl
@[simp] theorem State.updStepper_recs (i : Nat) (f : Stepper → Stepper) : (s.updStepper i f).recs = s.recs := rfl
@[simp] theorem State.updStepper_recsNext (i : Nat) (f : Stepper → Stepper) : (s.updStepper i f).recsNext = s.recsNext := rfl
@[simp] theorem State.updStepper_regsFlash (i : Nat) (f : Stepper → Stepper) : (s.updStepper i f).regsFlash = s.regsFlash := rfl
@[simp] theorem State.updStepper_recsFlash (i : Nat) (f : Stepper → Stepper) : (s.updStepper i f).recsFlash = s.recsFlash := rfl
@[simp] theorem State.updStepper_sent (i : Nat) (f : Stepper → Stepper) : (s.updStepper i f).sent = s.sent := rfl
@[simp] theorem State.updStepper_readOut (i : Nat) (f : Stepper → Stepper) : (s.updStepper i f).readOut = s.readOut := rfl
@[simp] theorem State.updStepper_ctxs (i : Nat) (f : Stepper → Stepper) : (s.updStepper i f).ctxs = s.ctxs := rfl
@[simp] theorem State.updStepper_claims (i : Nat) (f : Stepper → Stepper) : (s.updStepper i f).claims = s.claims := rfl
@[simp] theorem State.updStepper_cfgLease (i : Nat) (f : Stepper → Stepper) : (s.updStepper i f).cfgLease = s.cfgLease := rfl
@[simp] theorem State.updStepper_msix (i : Nat) (f : Stepper → Stepper) : (s.updStepper i f).msix = s.msix := rfl
@[simp] theorem State.updStepper_sspiReplies (i : Nat) (f : Stepper → Stepper) : (s.updStepper i f).sspiReplies = s.sspiReplies := rfl
@[simp] theorem State.updStepper_sspiRx (i : Nat) (f : Stepper → Stepper) : (s.updStepper i f).sspiRx = s.sspiRx := rfl
@[simp] theorem State.updStepper_hmpRun (i : Nat) (f : Stepper → Stepper) : (s.updStepper i f).hmpRun = s.hmpRun := rfl
@[simp] theorem State.updStepper_replay (i : Nat) (f : Stepper → Stepper) : (s.updStepper i f).replay = s.replay := rfl
@[simp] theorem State.updStepper_fwdOut (i : Nat) (f : Stepper → Stepper) : (s.updStepper i f).fwdOut = s.fwdOut := rfl
@[simp] theorem State.updStepper_soot (i : Nat) (f : Stepper → Stepper) : (s.updStepper i f).soot = s.soot := rfl
@[simp] theorem State.updStepper_head (i : Nat) (f : Stepper → Stepper) : (s.updStepper i f).head = s.head := rfl
@[simp] theorem State.updStepper_scheds (i : Nat) (f : Stepper → Stepper) : (s.updStepper i f).scheds = s.scheds := rfl
@[simp] theorem State.updStepper_hnodes (i : Nat) (f : Stepper → Stepper) : (s.updStepper i f).hnodes = s.hnodes := rfl
@[simp] theorem State.updStepper_segIn (i : Nat) (f : Stepper → Stepper) : (s.updStepper i f).segIn = s.segIn := rfl
@[simp] theorem State.updStepper_cmds (i : Nat) (f : Stepper → Stepper) : (s.updStepper i f).cmds = s.cmds := rfl
@[simp] theorem State.updStepper_cores (i : Nat) (f : Stepper → Stepper) : (s.updStepper i f).cores = s.cores := rfl
@[simp] theorem State.updStepper_sram (i : Nat) (f : Stepper → Stepper) : (s.updStepper i f).sram = s.sram := rfl
@[simp] theorem State.updStepper_grates (i : Nat) (f : Stepper → Stepper) : (s.updStepper i f).grates = s.grates := rfl
@[simp] theorem State.updStepper_descs (i : Nat) (f : Stepper → Stepper) : (s.updStepper i f).descs = s.descs := rfl
@[simp] theorem State.updStepper_descsNext (i : Nat) (f : Stepper → Stepper) : (s.updStepper i f).descsNext = s.descsNext := rfl
@[simp] theorem State.updStepper_reload (i : Nat) (f : Stepper → Stepper) : (s.updStepper i f).reload = s.reload := rfl
@[simp] theorem State.updStepper_insts (i : Nat) (f : Stepper → Stepper) : (s.updStepper i f).insts = s.insts := rfl
@[simp] theorem State.updStepper_fbs (i : Nat) (f : Stepper → Stepper) : (s.updStepper i f).fbs = s.fbs := rfl
@[simp] theorem State.updStepper_emus (i : Nat) (f : Stepper → Stepper) : (s.updStepper i f).emus = s.emus := rfl
@[simp] theorem State.updStepper_servos (i : Nat) (f : Stepper → Stepper) : (s.updStepper i f).servos = s.servos := rfl
@[simp] theorem State.updStepper_motions (i : Nat) (f : Stepper → Stepper) : (s.updStepper i f).motions = s.motions := rfl
@[simp] theorem State.updStepper_vms (i : Nat) (f : Stepper → Stepper) : (s.updStepper i f).vms = s.vms := rfl
@[simp] theorem State.updStepper_groups (i : Nat) (f : Stepper → Stepper) : (s.updStepper i f).groups = s.groups := rfl
@[simp] theorem State.updStepper_recBufs (i : Nat) (f : Stepper → Stepper) : (s.updStepper i f).recBufs = s.recBufs := rfl
@[simp] theorem State.updStepper_convs (i : Nat) (f : Stepper → Stepper) : (s.updStepper i f).convs = s.convs := rfl
@[simp] theorem State.updStepper_tbs (i : Nat) (f : Stepper → Stepper) : (s.updStepper i f).tbs = s.tbs := rfl
@[simp] theorem State.updStepper_tins (i : Nat) (f : Stepper → Stepper) : (s.updStepper i f).tins = s.tins := rfl
@[simp] theorem State.updStepper_touts (i : Nat) (f : Stepper → Stepper) : (s.updStepper i f).touts = s.touts := rfl
@[simp] theorem State.updStepper_ptps (i : Nat) (f : Stepper → Stepper) : (s.updStepper i f).ptps = s.ptps := rfl
@[simp] theorem State.updStepper_chans (i : Nat) (f : Stepper → Stepper) : (s.updStepper i f).chans = s.chans := rfl
@[simp] theorem State.updStepper_twin (i : Nat) (f : Stepper → Stepper) : (s.updStepper i f).twin = s.twin := rfl
@[simp] theorem State.updStepper_nodes (i : Nat) (f : Stepper → Stepper) : (s.updStepper i f).nodes = s.nodes := rfl
@[simp] theorem State.updStepper_safConns (i : Nat) (f : Stepper → Stepper) : (s.updStepper i f).safConns = s.safConns := rfl
@[simp] theorem State.updStepper_safSigs (i : Nat) (f : Stepper → Stepper) : (s.updStepper i f).safSigs = s.safSigs := rfl
@[simp] theorem State.updStepper_power (i : Nat) (f : Stepper → Stepper) : (s.updStepper i f).power = s.power := rfl
@[simp] theorem State.updStepper_update (i : Nat) (f : Stepper → Stepper) : (s.updStepper i f).update = s.update := rfl
@[simp] theorem State.updStepper_fw (i : Nat) (f : Stepper → Stepper) : (s.updStepper i f).fw = s.fw := rfl

/-! State.updVm writes `vms`. -/
@[simp] theorem State.updVm_axes (i : Nat) (f : Vm → Vm) : (s.updVm i f).axes = s.axes := rfl
@[simp] theorem State.updVm_pending (i : Nat) (f : Vm → Vm) : (s.updVm i f).pending = s.pending := rfl
@[simp] theorem State.updVm_free (i : Nat) (f : Vm → Vm) : (s.updVm i f).free = s.free := rfl
@[simp] theorem State.updVm_clk (i : Nat) (f : Vm → Vm) : (s.updVm i f).clk = s.clk := rfl
@[simp] theorem State.updVm_regs (i : Nat) (f : Vm → Vm) : (s.updVm i f).regs = s.regs := rfl
@[simp] theorem State.updVm_fuses (i : Nat) (f : Vm → Vm) : (s.updVm i f).fuses = s.fuses := rfl
@[simp] theorem State.updVm_recs (i : Nat) (f : Vm → Vm) : (s.updVm i f).recs = s.recs := rfl
@[simp] theorem State.updVm_recsNext (i : Nat) (f : Vm → Vm) : (s.updVm i f).recsNext = s.recsNext := rfl
@[simp] theorem State.updVm_regsFlash (i : Nat) (f : Vm → Vm) : (s.updVm i f).regsFlash = s.regsFlash := rfl
@[simp] theorem State.updVm_recsFlash (i : Nat) (f : Vm → Vm) : (s.updVm i f).recsFlash = s.recsFlash := rfl
@[simp] theorem State.updVm_sent (i : Nat) (f : Vm → Vm) : (s.updVm i f).sent = s.sent := rfl
@[simp] theorem State.updVm_readOut (i : Nat) (f : Vm → Vm) : (s.updVm i f).readOut = s.readOut := rfl
@[simp] theorem State.updVm_ctxs (i : Nat) (f : Vm → Vm) : (s.updVm i f).ctxs = s.ctxs := rfl
@[simp] theorem State.updVm_claims (i : Nat) (f : Vm → Vm) : (s.updVm i f).claims = s.claims := rfl
@[simp] theorem State.updVm_cfgLease (i : Nat) (f : Vm → Vm) : (s.updVm i f).cfgLease = s.cfgLease := rfl
@[simp] theorem State.updVm_msix (i : Nat) (f : Vm → Vm) : (s.updVm i f).msix = s.msix := rfl
@[simp] theorem State.updVm_sspiReplies (i : Nat) (f : Vm → Vm) : (s.updVm i f).sspiReplies = s.sspiReplies := rfl
@[simp] theorem State.updVm_sspiRx (i : Nat) (f : Vm → Vm) : (s.updVm i f).sspiRx = s.sspiRx := rfl
@[simp] theorem State.updVm_hmpRun (i : Nat) (f : Vm → Vm) : (s.updVm i f).hmpRun = s.hmpRun := rfl
@[simp] theorem State.updVm_replay (i : Nat) (f : Vm → Vm) : (s.updVm i f).replay = s.replay := rfl
@[simp] theorem State.updVm_fwdOut (i : Nat) (f : Vm → Vm) : (s.updVm i f).fwdOut = s.fwdOut := rfl
@[simp] theorem State.updVm_soot (i : Nat) (f : Vm → Vm) : (s.updVm i f).soot = s.soot := rfl
@[simp] theorem State.updVm_head (i : Nat) (f : Vm → Vm) : (s.updVm i f).head = s.head := rfl
@[simp] theorem State.updVm_scheds (i : Nat) (f : Vm → Vm) : (s.updVm i f).scheds = s.scheds := rfl
@[simp] theorem State.updVm_hnodes (i : Nat) (f : Vm → Vm) : (s.updVm i f).hnodes = s.hnodes := rfl
@[simp] theorem State.updVm_segIn (i : Nat) (f : Vm → Vm) : (s.updVm i f).segIn = s.segIn := rfl
@[simp] theorem State.updVm_cmds (i : Nat) (f : Vm → Vm) : (s.updVm i f).cmds = s.cmds := rfl
@[simp] theorem State.updVm_cores (i : Nat) (f : Vm → Vm) : (s.updVm i f).cores = s.cores := rfl
@[simp] theorem State.updVm_sram (i : Nat) (f : Vm → Vm) : (s.updVm i f).sram = s.sram := rfl
@[simp] theorem State.updVm_grates (i : Nat) (f : Vm → Vm) : (s.updVm i f).grates = s.grates := rfl
@[simp] theorem State.updVm_descs (i : Nat) (f : Vm → Vm) : (s.updVm i f).descs = s.descs := rfl
@[simp] theorem State.updVm_descsNext (i : Nat) (f : Vm → Vm) : (s.updVm i f).descsNext = s.descsNext := rfl
@[simp] theorem State.updVm_reload (i : Nat) (f : Vm → Vm) : (s.updVm i f).reload = s.reload := rfl
@[simp] theorem State.updVm_insts (i : Nat) (f : Vm → Vm) : (s.updVm i f).insts = s.insts := rfl
@[simp] theorem State.updVm_fbs (i : Nat) (f : Vm → Vm) : (s.updVm i f).fbs = s.fbs := rfl
@[simp] theorem State.updVm_emus (i : Nat) (f : Vm → Vm) : (s.updVm i f).emus = s.emus := rfl
@[simp] theorem State.updVm_servos (i : Nat) (f : Vm → Vm) : (s.updVm i f).servos = s.servos := rfl
@[simp] theorem State.updVm_motions (i : Nat) (f : Vm → Vm) : (s.updVm i f).motions = s.motions := rfl
@[simp] theorem State.updVm_steppers (i : Nat) (f : Vm → Vm) : (s.updVm i f).steppers = s.steppers := rfl
@[simp] theorem State.updVm_groups (i : Nat) (f : Vm → Vm) : (s.updVm i f).groups = s.groups := rfl
@[simp] theorem State.updVm_recBufs (i : Nat) (f : Vm → Vm) : (s.updVm i f).recBufs = s.recBufs := rfl
@[simp] theorem State.updVm_convs (i : Nat) (f : Vm → Vm) : (s.updVm i f).convs = s.convs := rfl
@[simp] theorem State.updVm_tbs (i : Nat) (f : Vm → Vm) : (s.updVm i f).tbs = s.tbs := rfl
@[simp] theorem State.updVm_tins (i : Nat) (f : Vm → Vm) : (s.updVm i f).tins = s.tins := rfl
@[simp] theorem State.updVm_touts (i : Nat) (f : Vm → Vm) : (s.updVm i f).touts = s.touts := rfl
@[simp] theorem State.updVm_ptps (i : Nat) (f : Vm → Vm) : (s.updVm i f).ptps = s.ptps := rfl
@[simp] theorem State.updVm_chans (i : Nat) (f : Vm → Vm) : (s.updVm i f).chans = s.chans := rfl
@[simp] theorem State.updVm_twin (i : Nat) (f : Vm → Vm) : (s.updVm i f).twin = s.twin := rfl
@[simp] theorem State.updVm_nodes (i : Nat) (f : Vm → Vm) : (s.updVm i f).nodes = s.nodes := rfl
@[simp] theorem State.updVm_safConns (i : Nat) (f : Vm → Vm) : (s.updVm i f).safConns = s.safConns := rfl
@[simp] theorem State.updVm_safSigs (i : Nat) (f : Vm → Vm) : (s.updVm i f).safSigs = s.safSigs := rfl
@[simp] theorem State.updVm_power (i : Nat) (f : Vm → Vm) : (s.updVm i f).power = s.power := rfl
@[simp] theorem State.updVm_update (i : Nat) (f : Vm → Vm) : (s.updVm i f).update = s.update := rfl
@[simp] theorem State.updVm_fw (i : Nat) (f : Vm → Vm) : (s.updVm i f).fw = s.fw := rfl

/-! State.updGroup writes `groups`. -/
@[simp] theorem State.updGroup_axes (i : Nat) (f : Group → Group) : (s.updGroup i f).axes = s.axes := rfl
@[simp] theorem State.updGroup_pending (i : Nat) (f : Group → Group) : (s.updGroup i f).pending = s.pending := rfl
@[simp] theorem State.updGroup_free (i : Nat) (f : Group → Group) : (s.updGroup i f).free = s.free := rfl
@[simp] theorem State.updGroup_clk (i : Nat) (f : Group → Group) : (s.updGroup i f).clk = s.clk := rfl
@[simp] theorem State.updGroup_regs (i : Nat) (f : Group → Group) : (s.updGroup i f).regs = s.regs := rfl
@[simp] theorem State.updGroup_fuses (i : Nat) (f : Group → Group) : (s.updGroup i f).fuses = s.fuses := rfl
@[simp] theorem State.updGroup_recs (i : Nat) (f : Group → Group) : (s.updGroup i f).recs = s.recs := rfl
@[simp] theorem State.updGroup_recsNext (i : Nat) (f : Group → Group) : (s.updGroup i f).recsNext = s.recsNext := rfl
@[simp] theorem State.updGroup_regsFlash (i : Nat) (f : Group → Group) : (s.updGroup i f).regsFlash = s.regsFlash := rfl
@[simp] theorem State.updGroup_recsFlash (i : Nat) (f : Group → Group) : (s.updGroup i f).recsFlash = s.recsFlash := rfl
@[simp] theorem State.updGroup_sent (i : Nat) (f : Group → Group) : (s.updGroup i f).sent = s.sent := rfl
@[simp] theorem State.updGroup_readOut (i : Nat) (f : Group → Group) : (s.updGroup i f).readOut = s.readOut := rfl
@[simp] theorem State.updGroup_ctxs (i : Nat) (f : Group → Group) : (s.updGroup i f).ctxs = s.ctxs := rfl
@[simp] theorem State.updGroup_claims (i : Nat) (f : Group → Group) : (s.updGroup i f).claims = s.claims := rfl
@[simp] theorem State.updGroup_cfgLease (i : Nat) (f : Group → Group) : (s.updGroup i f).cfgLease = s.cfgLease := rfl
@[simp] theorem State.updGroup_msix (i : Nat) (f : Group → Group) : (s.updGroup i f).msix = s.msix := rfl
@[simp] theorem State.updGroup_sspiReplies (i : Nat) (f : Group → Group) : (s.updGroup i f).sspiReplies = s.sspiReplies := rfl
@[simp] theorem State.updGroup_sspiRx (i : Nat) (f : Group → Group) : (s.updGroup i f).sspiRx = s.sspiRx := rfl
@[simp] theorem State.updGroup_hmpRun (i : Nat) (f : Group → Group) : (s.updGroup i f).hmpRun = s.hmpRun := rfl
@[simp] theorem State.updGroup_replay (i : Nat) (f : Group → Group) : (s.updGroup i f).replay = s.replay := rfl
@[simp] theorem State.updGroup_fwdOut (i : Nat) (f : Group → Group) : (s.updGroup i f).fwdOut = s.fwdOut := rfl
@[simp] theorem State.updGroup_soot (i : Nat) (f : Group → Group) : (s.updGroup i f).soot = s.soot := rfl
@[simp] theorem State.updGroup_head (i : Nat) (f : Group → Group) : (s.updGroup i f).head = s.head := rfl
@[simp] theorem State.updGroup_scheds (i : Nat) (f : Group → Group) : (s.updGroup i f).scheds = s.scheds := rfl
@[simp] theorem State.updGroup_hnodes (i : Nat) (f : Group → Group) : (s.updGroup i f).hnodes = s.hnodes := rfl
@[simp] theorem State.updGroup_segIn (i : Nat) (f : Group → Group) : (s.updGroup i f).segIn = s.segIn := rfl
@[simp] theorem State.updGroup_cmds (i : Nat) (f : Group → Group) : (s.updGroup i f).cmds = s.cmds := rfl
@[simp] theorem State.updGroup_cores (i : Nat) (f : Group → Group) : (s.updGroup i f).cores = s.cores := rfl
@[simp] theorem State.updGroup_sram (i : Nat) (f : Group → Group) : (s.updGroup i f).sram = s.sram := rfl
@[simp] theorem State.updGroup_grates (i : Nat) (f : Group → Group) : (s.updGroup i f).grates = s.grates := rfl
@[simp] theorem State.updGroup_descs (i : Nat) (f : Group → Group) : (s.updGroup i f).descs = s.descs := rfl
@[simp] theorem State.updGroup_descsNext (i : Nat) (f : Group → Group) : (s.updGroup i f).descsNext = s.descsNext := rfl
@[simp] theorem State.updGroup_reload (i : Nat) (f : Group → Group) : (s.updGroup i f).reload = s.reload := rfl
@[simp] theorem State.updGroup_insts (i : Nat) (f : Group → Group) : (s.updGroup i f).insts = s.insts := rfl
@[simp] theorem State.updGroup_fbs (i : Nat) (f : Group → Group) : (s.updGroup i f).fbs = s.fbs := rfl
@[simp] theorem State.updGroup_emus (i : Nat) (f : Group → Group) : (s.updGroup i f).emus = s.emus := rfl
@[simp] theorem State.updGroup_servos (i : Nat) (f : Group → Group) : (s.updGroup i f).servos = s.servos := rfl
@[simp] theorem State.updGroup_motions (i : Nat) (f : Group → Group) : (s.updGroup i f).motions = s.motions := rfl
@[simp] theorem State.updGroup_steppers (i : Nat) (f : Group → Group) : (s.updGroup i f).steppers = s.steppers := rfl
@[simp] theorem State.updGroup_vms (i : Nat) (f : Group → Group) : (s.updGroup i f).vms = s.vms := rfl
@[simp] theorem State.updGroup_recBufs (i : Nat) (f : Group → Group) : (s.updGroup i f).recBufs = s.recBufs := rfl
@[simp] theorem State.updGroup_convs (i : Nat) (f : Group → Group) : (s.updGroup i f).convs = s.convs := rfl
@[simp] theorem State.updGroup_tbs (i : Nat) (f : Group → Group) : (s.updGroup i f).tbs = s.tbs := rfl
@[simp] theorem State.updGroup_tins (i : Nat) (f : Group → Group) : (s.updGroup i f).tins = s.tins := rfl
@[simp] theorem State.updGroup_touts (i : Nat) (f : Group → Group) : (s.updGroup i f).touts = s.touts := rfl
@[simp] theorem State.updGroup_ptps (i : Nat) (f : Group → Group) : (s.updGroup i f).ptps = s.ptps := rfl
@[simp] theorem State.updGroup_chans (i : Nat) (f : Group → Group) : (s.updGroup i f).chans = s.chans := rfl
@[simp] theorem State.updGroup_twin (i : Nat) (f : Group → Group) : (s.updGroup i f).twin = s.twin := rfl
@[simp] theorem State.updGroup_nodes (i : Nat) (f : Group → Group) : (s.updGroup i f).nodes = s.nodes := rfl
@[simp] theorem State.updGroup_safConns (i : Nat) (f : Group → Group) : (s.updGroup i f).safConns = s.safConns := rfl
@[simp] theorem State.updGroup_safSigs (i : Nat) (f : Group → Group) : (s.updGroup i f).safSigs = s.safSigs := rfl
@[simp] theorem State.updGroup_power (i : Nat) (f : Group → Group) : (s.updGroup i f).power = s.power := rfl
@[simp] theorem State.updGroup_update (i : Nat) (f : Group → Group) : (s.updGroup i f).update = s.update := rfl
@[simp] theorem State.updGroup_fw (i : Nat) (f : Group → Group) : (s.updGroup i f).fw = s.fw := rfl

/-! State.updTin writes `tins`. -/
@[simp] theorem State.updTin_axes (i : Nat) (f : Tin → Tin) : (s.updTin i f).axes = s.axes := rfl
@[simp] theorem State.updTin_pending (i : Nat) (f : Tin → Tin) : (s.updTin i f).pending = s.pending := rfl
@[simp] theorem State.updTin_free (i : Nat) (f : Tin → Tin) : (s.updTin i f).free = s.free := rfl
@[simp] theorem State.updTin_clk (i : Nat) (f : Tin → Tin) : (s.updTin i f).clk = s.clk := rfl
@[simp] theorem State.updTin_regs (i : Nat) (f : Tin → Tin) : (s.updTin i f).regs = s.regs := rfl
@[simp] theorem State.updTin_fuses (i : Nat) (f : Tin → Tin) : (s.updTin i f).fuses = s.fuses := rfl
@[simp] theorem State.updTin_recs (i : Nat) (f : Tin → Tin) : (s.updTin i f).recs = s.recs := rfl
@[simp] theorem State.updTin_recsNext (i : Nat) (f : Tin → Tin) : (s.updTin i f).recsNext = s.recsNext := rfl
@[simp] theorem State.updTin_regsFlash (i : Nat) (f : Tin → Tin) : (s.updTin i f).regsFlash = s.regsFlash := rfl
@[simp] theorem State.updTin_recsFlash (i : Nat) (f : Tin → Tin) : (s.updTin i f).recsFlash = s.recsFlash := rfl
@[simp] theorem State.updTin_sent (i : Nat) (f : Tin → Tin) : (s.updTin i f).sent = s.sent := rfl
@[simp] theorem State.updTin_readOut (i : Nat) (f : Tin → Tin) : (s.updTin i f).readOut = s.readOut := rfl
@[simp] theorem State.updTin_ctxs (i : Nat) (f : Tin → Tin) : (s.updTin i f).ctxs = s.ctxs := rfl
@[simp] theorem State.updTin_claims (i : Nat) (f : Tin → Tin) : (s.updTin i f).claims = s.claims := rfl
@[simp] theorem State.updTin_cfgLease (i : Nat) (f : Tin → Tin) : (s.updTin i f).cfgLease = s.cfgLease := rfl
@[simp] theorem State.updTin_msix (i : Nat) (f : Tin → Tin) : (s.updTin i f).msix = s.msix := rfl
@[simp] theorem State.updTin_sspiReplies (i : Nat) (f : Tin → Tin) : (s.updTin i f).sspiReplies = s.sspiReplies := rfl
@[simp] theorem State.updTin_sspiRx (i : Nat) (f : Tin → Tin) : (s.updTin i f).sspiRx = s.sspiRx := rfl
@[simp] theorem State.updTin_hmpRun (i : Nat) (f : Tin → Tin) : (s.updTin i f).hmpRun = s.hmpRun := rfl
@[simp] theorem State.updTin_replay (i : Nat) (f : Tin → Tin) : (s.updTin i f).replay = s.replay := rfl
@[simp] theorem State.updTin_fwdOut (i : Nat) (f : Tin → Tin) : (s.updTin i f).fwdOut = s.fwdOut := rfl
@[simp] theorem State.updTin_soot (i : Nat) (f : Tin → Tin) : (s.updTin i f).soot = s.soot := rfl
@[simp] theorem State.updTin_head (i : Nat) (f : Tin → Tin) : (s.updTin i f).head = s.head := rfl
@[simp] theorem State.updTin_scheds (i : Nat) (f : Tin → Tin) : (s.updTin i f).scheds = s.scheds := rfl
@[simp] theorem State.updTin_hnodes (i : Nat) (f : Tin → Tin) : (s.updTin i f).hnodes = s.hnodes := rfl
@[simp] theorem State.updTin_segIn (i : Nat) (f : Tin → Tin) : (s.updTin i f).segIn = s.segIn := rfl
@[simp] theorem State.updTin_cmds (i : Nat) (f : Tin → Tin) : (s.updTin i f).cmds = s.cmds := rfl
@[simp] theorem State.updTin_cores (i : Nat) (f : Tin → Tin) : (s.updTin i f).cores = s.cores := rfl
@[simp] theorem State.updTin_sram (i : Nat) (f : Tin → Tin) : (s.updTin i f).sram = s.sram := rfl
@[simp] theorem State.updTin_grates (i : Nat) (f : Tin → Tin) : (s.updTin i f).grates = s.grates := rfl
@[simp] theorem State.updTin_descs (i : Nat) (f : Tin → Tin) : (s.updTin i f).descs = s.descs := rfl
@[simp] theorem State.updTin_descsNext (i : Nat) (f : Tin → Tin) : (s.updTin i f).descsNext = s.descsNext := rfl
@[simp] theorem State.updTin_reload (i : Nat) (f : Tin → Tin) : (s.updTin i f).reload = s.reload := rfl
@[simp] theorem State.updTin_insts (i : Nat) (f : Tin → Tin) : (s.updTin i f).insts = s.insts := rfl
@[simp] theorem State.updTin_fbs (i : Nat) (f : Tin → Tin) : (s.updTin i f).fbs = s.fbs := rfl
@[simp] theorem State.updTin_emus (i : Nat) (f : Tin → Tin) : (s.updTin i f).emus = s.emus := rfl
@[simp] theorem State.updTin_servos (i : Nat) (f : Tin → Tin) : (s.updTin i f).servos = s.servos := rfl
@[simp] theorem State.updTin_motions (i : Nat) (f : Tin → Tin) : (s.updTin i f).motions = s.motions := rfl
@[simp] theorem State.updTin_steppers (i : Nat) (f : Tin → Tin) : (s.updTin i f).steppers = s.steppers := rfl
@[simp] theorem State.updTin_vms (i : Nat) (f : Tin → Tin) : (s.updTin i f).vms = s.vms := rfl
@[simp] theorem State.updTin_groups (i : Nat) (f : Tin → Tin) : (s.updTin i f).groups = s.groups := rfl
@[simp] theorem State.updTin_recBufs (i : Nat) (f : Tin → Tin) : (s.updTin i f).recBufs = s.recBufs := rfl
@[simp] theorem State.updTin_convs (i : Nat) (f : Tin → Tin) : (s.updTin i f).convs = s.convs := rfl
@[simp] theorem State.updTin_tbs (i : Nat) (f : Tin → Tin) : (s.updTin i f).tbs = s.tbs := rfl
@[simp] theorem State.updTin_touts (i : Nat) (f : Tin → Tin) : (s.updTin i f).touts = s.touts := rfl
@[simp] theorem State.updTin_ptps (i : Nat) (f : Tin → Tin) : (s.updTin i f).ptps = s.ptps := rfl
@[simp] theorem State.updTin_chans (i : Nat) (f : Tin → Tin) : (s.updTin i f).chans = s.chans := rfl
@[simp] theorem State.updTin_twin (i : Nat) (f : Tin → Tin) : (s.updTin i f).twin = s.twin := rfl
@[simp] theorem State.updTin_nodes (i : Nat) (f : Tin → Tin) : (s.updTin i f).nodes = s.nodes := rfl
@[simp] theorem State.updTin_safConns (i : Nat) (f : Tin → Tin) : (s.updTin i f).safConns = s.safConns := rfl
@[simp] theorem State.updTin_safSigs (i : Nat) (f : Tin → Tin) : (s.updTin i f).safSigs = s.safSigs := rfl
@[simp] theorem State.updTin_power (i : Nat) (f : Tin → Tin) : (s.updTin i f).power = s.power := rfl
@[simp] theorem State.updTin_update (i : Nat) (f : Tin → Tin) : (s.updTin i f).update = s.update := rfl
@[simp] theorem State.updTin_fw (i : Nat) (f : Tin → Tin) : (s.updTin i f).fw = s.fw := rfl

/-! State.updTout writes `touts`. -/
@[simp] theorem State.updTout_axes (i : Nat) (f : Tout → Tout) : (s.updTout i f).axes = s.axes := rfl
@[simp] theorem State.updTout_pending (i : Nat) (f : Tout → Tout) : (s.updTout i f).pending = s.pending := rfl
@[simp] theorem State.updTout_free (i : Nat) (f : Tout → Tout) : (s.updTout i f).free = s.free := rfl
@[simp] theorem State.updTout_clk (i : Nat) (f : Tout → Tout) : (s.updTout i f).clk = s.clk := rfl
@[simp] theorem State.updTout_regs (i : Nat) (f : Tout → Tout) : (s.updTout i f).regs = s.regs := rfl
@[simp] theorem State.updTout_fuses (i : Nat) (f : Tout → Tout) : (s.updTout i f).fuses = s.fuses := rfl
@[simp] theorem State.updTout_recs (i : Nat) (f : Tout → Tout) : (s.updTout i f).recs = s.recs := rfl
@[simp] theorem State.updTout_recsNext (i : Nat) (f : Tout → Tout) : (s.updTout i f).recsNext = s.recsNext := rfl
@[simp] theorem State.updTout_regsFlash (i : Nat) (f : Tout → Tout) : (s.updTout i f).regsFlash = s.regsFlash := rfl
@[simp] theorem State.updTout_recsFlash (i : Nat) (f : Tout → Tout) : (s.updTout i f).recsFlash = s.recsFlash := rfl
@[simp] theorem State.updTout_sent (i : Nat) (f : Tout → Tout) : (s.updTout i f).sent = s.sent := rfl
@[simp] theorem State.updTout_readOut (i : Nat) (f : Tout → Tout) : (s.updTout i f).readOut = s.readOut := rfl
@[simp] theorem State.updTout_ctxs (i : Nat) (f : Tout → Tout) : (s.updTout i f).ctxs = s.ctxs := rfl
@[simp] theorem State.updTout_claims (i : Nat) (f : Tout → Tout) : (s.updTout i f).claims = s.claims := rfl
@[simp] theorem State.updTout_cfgLease (i : Nat) (f : Tout → Tout) : (s.updTout i f).cfgLease = s.cfgLease := rfl
@[simp] theorem State.updTout_msix (i : Nat) (f : Tout → Tout) : (s.updTout i f).msix = s.msix := rfl
@[simp] theorem State.updTout_sspiReplies (i : Nat) (f : Tout → Tout) : (s.updTout i f).sspiReplies = s.sspiReplies := rfl
@[simp] theorem State.updTout_sspiRx (i : Nat) (f : Tout → Tout) : (s.updTout i f).sspiRx = s.sspiRx := rfl
@[simp] theorem State.updTout_hmpRun (i : Nat) (f : Tout → Tout) : (s.updTout i f).hmpRun = s.hmpRun := rfl
@[simp] theorem State.updTout_replay (i : Nat) (f : Tout → Tout) : (s.updTout i f).replay = s.replay := rfl
@[simp] theorem State.updTout_fwdOut (i : Nat) (f : Tout → Tout) : (s.updTout i f).fwdOut = s.fwdOut := rfl
@[simp] theorem State.updTout_soot (i : Nat) (f : Tout → Tout) : (s.updTout i f).soot = s.soot := rfl
@[simp] theorem State.updTout_head (i : Nat) (f : Tout → Tout) : (s.updTout i f).head = s.head := rfl
@[simp] theorem State.updTout_scheds (i : Nat) (f : Tout → Tout) : (s.updTout i f).scheds = s.scheds := rfl
@[simp] theorem State.updTout_hnodes (i : Nat) (f : Tout → Tout) : (s.updTout i f).hnodes = s.hnodes := rfl
@[simp] theorem State.updTout_segIn (i : Nat) (f : Tout → Tout) : (s.updTout i f).segIn = s.segIn := rfl
@[simp] theorem State.updTout_cmds (i : Nat) (f : Tout → Tout) : (s.updTout i f).cmds = s.cmds := rfl
@[simp] theorem State.updTout_cores (i : Nat) (f : Tout → Tout) : (s.updTout i f).cores = s.cores := rfl
@[simp] theorem State.updTout_sram (i : Nat) (f : Tout → Tout) : (s.updTout i f).sram = s.sram := rfl
@[simp] theorem State.updTout_grates (i : Nat) (f : Tout → Tout) : (s.updTout i f).grates = s.grates := rfl
@[simp] theorem State.updTout_descs (i : Nat) (f : Tout → Tout) : (s.updTout i f).descs = s.descs := rfl
@[simp] theorem State.updTout_descsNext (i : Nat) (f : Tout → Tout) : (s.updTout i f).descsNext = s.descsNext := rfl
@[simp] theorem State.updTout_reload (i : Nat) (f : Tout → Tout) : (s.updTout i f).reload = s.reload := rfl
@[simp] theorem State.updTout_insts (i : Nat) (f : Tout → Tout) : (s.updTout i f).insts = s.insts := rfl
@[simp] theorem State.updTout_fbs (i : Nat) (f : Tout → Tout) : (s.updTout i f).fbs = s.fbs := rfl
@[simp] theorem State.updTout_emus (i : Nat) (f : Tout → Tout) : (s.updTout i f).emus = s.emus := rfl
@[simp] theorem State.updTout_servos (i : Nat) (f : Tout → Tout) : (s.updTout i f).servos = s.servos := rfl
@[simp] theorem State.updTout_motions (i : Nat) (f : Tout → Tout) : (s.updTout i f).motions = s.motions := rfl
@[simp] theorem State.updTout_steppers (i : Nat) (f : Tout → Tout) : (s.updTout i f).steppers = s.steppers := rfl
@[simp] theorem State.updTout_vms (i : Nat) (f : Tout → Tout) : (s.updTout i f).vms = s.vms := rfl
@[simp] theorem State.updTout_groups (i : Nat) (f : Tout → Tout) : (s.updTout i f).groups = s.groups := rfl
@[simp] theorem State.updTout_recBufs (i : Nat) (f : Tout → Tout) : (s.updTout i f).recBufs = s.recBufs := rfl
@[simp] theorem State.updTout_convs (i : Nat) (f : Tout → Tout) : (s.updTout i f).convs = s.convs := rfl
@[simp] theorem State.updTout_tbs (i : Nat) (f : Tout → Tout) : (s.updTout i f).tbs = s.tbs := rfl
@[simp] theorem State.updTout_tins (i : Nat) (f : Tout → Tout) : (s.updTout i f).tins = s.tins := rfl
@[simp] theorem State.updTout_ptps (i : Nat) (f : Tout → Tout) : (s.updTout i f).ptps = s.ptps := rfl
@[simp] theorem State.updTout_chans (i : Nat) (f : Tout → Tout) : (s.updTout i f).chans = s.chans := rfl
@[simp] theorem State.updTout_twin (i : Nat) (f : Tout → Tout) : (s.updTout i f).twin = s.twin := rfl
@[simp] theorem State.updTout_nodes (i : Nat) (f : Tout → Tout) : (s.updTout i f).nodes = s.nodes := rfl
@[simp] theorem State.updTout_safConns (i : Nat) (f : Tout → Tout) : (s.updTout i f).safConns = s.safConns := rfl
@[simp] theorem State.updTout_safSigs (i : Nat) (f : Tout → Tout) : (s.updTout i f).safSigs = s.safSigs := rfl
@[simp] theorem State.updTout_power (i : Nat) (f : Tout → Tout) : (s.updTout i f).power = s.power := rfl
@[simp] theorem State.updTout_update (i : Nat) (f : Tout → Tout) : (s.updTout i f).update = s.update := rfl
@[simp] theorem State.updTout_fw (i : Nat) (f : Tout → Tout) : (s.updTout i f).fw = s.fw := rfl

/-! State.updPtp writes `ptps`. -/
@[simp] theorem State.updPtp_axes (i : Nat) (f : PtpPort → PtpPort) : (s.updPtp i f).axes = s.axes := rfl
@[simp] theorem State.updPtp_pending (i : Nat) (f : PtpPort → PtpPort) : (s.updPtp i f).pending = s.pending := rfl
@[simp] theorem State.updPtp_free (i : Nat) (f : PtpPort → PtpPort) : (s.updPtp i f).free = s.free := rfl
@[simp] theorem State.updPtp_clk (i : Nat) (f : PtpPort → PtpPort) : (s.updPtp i f).clk = s.clk := rfl
@[simp] theorem State.updPtp_regs (i : Nat) (f : PtpPort → PtpPort) : (s.updPtp i f).regs = s.regs := rfl
@[simp] theorem State.updPtp_fuses (i : Nat) (f : PtpPort → PtpPort) : (s.updPtp i f).fuses = s.fuses := rfl
@[simp] theorem State.updPtp_recs (i : Nat) (f : PtpPort → PtpPort) : (s.updPtp i f).recs = s.recs := rfl
@[simp] theorem State.updPtp_recsNext (i : Nat) (f : PtpPort → PtpPort) : (s.updPtp i f).recsNext = s.recsNext := rfl
@[simp] theorem State.updPtp_regsFlash (i : Nat) (f : PtpPort → PtpPort) : (s.updPtp i f).regsFlash = s.regsFlash := rfl
@[simp] theorem State.updPtp_recsFlash (i : Nat) (f : PtpPort → PtpPort) : (s.updPtp i f).recsFlash = s.recsFlash := rfl
@[simp] theorem State.updPtp_sent (i : Nat) (f : PtpPort → PtpPort) : (s.updPtp i f).sent = s.sent := rfl
@[simp] theorem State.updPtp_readOut (i : Nat) (f : PtpPort → PtpPort) : (s.updPtp i f).readOut = s.readOut := rfl
@[simp] theorem State.updPtp_ctxs (i : Nat) (f : PtpPort → PtpPort) : (s.updPtp i f).ctxs = s.ctxs := rfl
@[simp] theorem State.updPtp_claims (i : Nat) (f : PtpPort → PtpPort) : (s.updPtp i f).claims = s.claims := rfl
@[simp] theorem State.updPtp_cfgLease (i : Nat) (f : PtpPort → PtpPort) : (s.updPtp i f).cfgLease = s.cfgLease := rfl
@[simp] theorem State.updPtp_msix (i : Nat) (f : PtpPort → PtpPort) : (s.updPtp i f).msix = s.msix := rfl
@[simp] theorem State.updPtp_sspiReplies (i : Nat) (f : PtpPort → PtpPort) : (s.updPtp i f).sspiReplies = s.sspiReplies := rfl
@[simp] theorem State.updPtp_sspiRx (i : Nat) (f : PtpPort → PtpPort) : (s.updPtp i f).sspiRx = s.sspiRx := rfl
@[simp] theorem State.updPtp_hmpRun (i : Nat) (f : PtpPort → PtpPort) : (s.updPtp i f).hmpRun = s.hmpRun := rfl
@[simp] theorem State.updPtp_replay (i : Nat) (f : PtpPort → PtpPort) : (s.updPtp i f).replay = s.replay := rfl
@[simp] theorem State.updPtp_fwdOut (i : Nat) (f : PtpPort → PtpPort) : (s.updPtp i f).fwdOut = s.fwdOut := rfl
@[simp] theorem State.updPtp_soot (i : Nat) (f : PtpPort → PtpPort) : (s.updPtp i f).soot = s.soot := rfl
@[simp] theorem State.updPtp_head (i : Nat) (f : PtpPort → PtpPort) : (s.updPtp i f).head = s.head := rfl
@[simp] theorem State.updPtp_scheds (i : Nat) (f : PtpPort → PtpPort) : (s.updPtp i f).scheds = s.scheds := rfl
@[simp] theorem State.updPtp_hnodes (i : Nat) (f : PtpPort → PtpPort) : (s.updPtp i f).hnodes = s.hnodes := rfl
@[simp] theorem State.updPtp_segIn (i : Nat) (f : PtpPort → PtpPort) : (s.updPtp i f).segIn = s.segIn := rfl
@[simp] theorem State.updPtp_cmds (i : Nat) (f : PtpPort → PtpPort) : (s.updPtp i f).cmds = s.cmds := rfl
@[simp] theorem State.updPtp_cores (i : Nat) (f : PtpPort → PtpPort) : (s.updPtp i f).cores = s.cores := rfl
@[simp] theorem State.updPtp_sram (i : Nat) (f : PtpPort → PtpPort) : (s.updPtp i f).sram = s.sram := rfl
@[simp] theorem State.updPtp_grates (i : Nat) (f : PtpPort → PtpPort) : (s.updPtp i f).grates = s.grates := rfl
@[simp] theorem State.updPtp_descs (i : Nat) (f : PtpPort → PtpPort) : (s.updPtp i f).descs = s.descs := rfl
@[simp] theorem State.updPtp_descsNext (i : Nat) (f : PtpPort → PtpPort) : (s.updPtp i f).descsNext = s.descsNext := rfl
@[simp] theorem State.updPtp_reload (i : Nat) (f : PtpPort → PtpPort) : (s.updPtp i f).reload = s.reload := rfl
@[simp] theorem State.updPtp_insts (i : Nat) (f : PtpPort → PtpPort) : (s.updPtp i f).insts = s.insts := rfl
@[simp] theorem State.updPtp_fbs (i : Nat) (f : PtpPort → PtpPort) : (s.updPtp i f).fbs = s.fbs := rfl
@[simp] theorem State.updPtp_emus (i : Nat) (f : PtpPort → PtpPort) : (s.updPtp i f).emus = s.emus := rfl
@[simp] theorem State.updPtp_servos (i : Nat) (f : PtpPort → PtpPort) : (s.updPtp i f).servos = s.servos := rfl
@[simp] theorem State.updPtp_motions (i : Nat) (f : PtpPort → PtpPort) : (s.updPtp i f).motions = s.motions := rfl
@[simp] theorem State.updPtp_steppers (i : Nat) (f : PtpPort → PtpPort) : (s.updPtp i f).steppers = s.steppers := rfl
@[simp] theorem State.updPtp_vms (i : Nat) (f : PtpPort → PtpPort) : (s.updPtp i f).vms = s.vms := rfl
@[simp] theorem State.updPtp_groups (i : Nat) (f : PtpPort → PtpPort) : (s.updPtp i f).groups = s.groups := rfl
@[simp] theorem State.updPtp_recBufs (i : Nat) (f : PtpPort → PtpPort) : (s.updPtp i f).recBufs = s.recBufs := rfl
@[simp] theorem State.updPtp_convs (i : Nat) (f : PtpPort → PtpPort) : (s.updPtp i f).convs = s.convs := rfl
@[simp] theorem State.updPtp_tbs (i : Nat) (f : PtpPort → PtpPort) : (s.updPtp i f).tbs = s.tbs := rfl
@[simp] theorem State.updPtp_tins (i : Nat) (f : PtpPort → PtpPort) : (s.updPtp i f).tins = s.tins := rfl
@[simp] theorem State.updPtp_touts (i : Nat) (f : PtpPort → PtpPort) : (s.updPtp i f).touts = s.touts := rfl
@[simp] theorem State.updPtp_chans (i : Nat) (f : PtpPort → PtpPort) : (s.updPtp i f).chans = s.chans := rfl
@[simp] theorem State.updPtp_twin (i : Nat) (f : PtpPort → PtpPort) : (s.updPtp i f).twin = s.twin := rfl
@[simp] theorem State.updPtp_nodes (i : Nat) (f : PtpPort → PtpPort) : (s.updPtp i f).nodes = s.nodes := rfl
@[simp] theorem State.updPtp_safConns (i : Nat) (f : PtpPort → PtpPort) : (s.updPtp i f).safConns = s.safConns := rfl
@[simp] theorem State.updPtp_safSigs (i : Nat) (f : PtpPort → PtpPort) : (s.updPtp i f).safSigs = s.safSigs := rfl
@[simp] theorem State.updPtp_power (i : Nat) (f : PtpPort → PtpPort) : (s.updPtp i f).power = s.power := rfl
@[simp] theorem State.updPtp_update (i : Nat) (f : PtpPort → PtpPort) : (s.updPtp i f).update = s.update := rfl
@[simp] theorem State.updPtp_fw (i : Nat) (f : PtpPort → PtpPort) : (s.updPtp i f).fw = s.fw := rfl

/-! State.updAcq writes `recBufs`. -/
@[simp] theorem State.updAcq_axes (i : Nat) (f : AcqRec → AcqRec) : (s.updAcq i f).axes = s.axes := rfl
@[simp] theorem State.updAcq_pending (i : Nat) (f : AcqRec → AcqRec) : (s.updAcq i f).pending = s.pending := rfl
@[simp] theorem State.updAcq_free (i : Nat) (f : AcqRec → AcqRec) : (s.updAcq i f).free = s.free := rfl
@[simp] theorem State.updAcq_clk (i : Nat) (f : AcqRec → AcqRec) : (s.updAcq i f).clk = s.clk := rfl
@[simp] theorem State.updAcq_regs (i : Nat) (f : AcqRec → AcqRec) : (s.updAcq i f).regs = s.regs := rfl
@[simp] theorem State.updAcq_fuses (i : Nat) (f : AcqRec → AcqRec) : (s.updAcq i f).fuses = s.fuses := rfl
@[simp] theorem State.updAcq_recs (i : Nat) (f : AcqRec → AcqRec) : (s.updAcq i f).recs = s.recs := rfl
@[simp] theorem State.updAcq_recsNext (i : Nat) (f : AcqRec → AcqRec) : (s.updAcq i f).recsNext = s.recsNext := rfl
@[simp] theorem State.updAcq_regsFlash (i : Nat) (f : AcqRec → AcqRec) : (s.updAcq i f).regsFlash = s.regsFlash := rfl
@[simp] theorem State.updAcq_recsFlash (i : Nat) (f : AcqRec → AcqRec) : (s.updAcq i f).recsFlash = s.recsFlash := rfl
@[simp] theorem State.updAcq_sent (i : Nat) (f : AcqRec → AcqRec) : (s.updAcq i f).sent = s.sent := rfl
@[simp] theorem State.updAcq_readOut (i : Nat) (f : AcqRec → AcqRec) : (s.updAcq i f).readOut = s.readOut := rfl
@[simp] theorem State.updAcq_ctxs (i : Nat) (f : AcqRec → AcqRec) : (s.updAcq i f).ctxs = s.ctxs := rfl
@[simp] theorem State.updAcq_claims (i : Nat) (f : AcqRec → AcqRec) : (s.updAcq i f).claims = s.claims := rfl
@[simp] theorem State.updAcq_cfgLease (i : Nat) (f : AcqRec → AcqRec) : (s.updAcq i f).cfgLease = s.cfgLease := rfl
@[simp] theorem State.updAcq_msix (i : Nat) (f : AcqRec → AcqRec) : (s.updAcq i f).msix = s.msix := rfl
@[simp] theorem State.updAcq_sspiReplies (i : Nat) (f : AcqRec → AcqRec) : (s.updAcq i f).sspiReplies = s.sspiReplies := rfl
@[simp] theorem State.updAcq_sspiRx (i : Nat) (f : AcqRec → AcqRec) : (s.updAcq i f).sspiRx = s.sspiRx := rfl
@[simp] theorem State.updAcq_hmpRun (i : Nat) (f : AcqRec → AcqRec) : (s.updAcq i f).hmpRun = s.hmpRun := rfl
@[simp] theorem State.updAcq_replay (i : Nat) (f : AcqRec → AcqRec) : (s.updAcq i f).replay = s.replay := rfl
@[simp] theorem State.updAcq_fwdOut (i : Nat) (f : AcqRec → AcqRec) : (s.updAcq i f).fwdOut = s.fwdOut := rfl
@[simp] theorem State.updAcq_soot (i : Nat) (f : AcqRec → AcqRec) : (s.updAcq i f).soot = s.soot := rfl
@[simp] theorem State.updAcq_head (i : Nat) (f : AcqRec → AcqRec) : (s.updAcq i f).head = s.head := rfl
@[simp] theorem State.updAcq_scheds (i : Nat) (f : AcqRec → AcqRec) : (s.updAcq i f).scheds = s.scheds := rfl
@[simp] theorem State.updAcq_hnodes (i : Nat) (f : AcqRec → AcqRec) : (s.updAcq i f).hnodes = s.hnodes := rfl
@[simp] theorem State.updAcq_segIn (i : Nat) (f : AcqRec → AcqRec) : (s.updAcq i f).segIn = s.segIn := rfl
@[simp] theorem State.updAcq_cmds (i : Nat) (f : AcqRec → AcqRec) : (s.updAcq i f).cmds = s.cmds := rfl
@[simp] theorem State.updAcq_cores (i : Nat) (f : AcqRec → AcqRec) : (s.updAcq i f).cores = s.cores := rfl
@[simp] theorem State.updAcq_sram (i : Nat) (f : AcqRec → AcqRec) : (s.updAcq i f).sram = s.sram := rfl
@[simp] theorem State.updAcq_grates (i : Nat) (f : AcqRec → AcqRec) : (s.updAcq i f).grates = s.grates := rfl
@[simp] theorem State.updAcq_descs (i : Nat) (f : AcqRec → AcqRec) : (s.updAcq i f).descs = s.descs := rfl
@[simp] theorem State.updAcq_descsNext (i : Nat) (f : AcqRec → AcqRec) : (s.updAcq i f).descsNext = s.descsNext := rfl
@[simp] theorem State.updAcq_reload (i : Nat) (f : AcqRec → AcqRec) : (s.updAcq i f).reload = s.reload := rfl
@[simp] theorem State.updAcq_insts (i : Nat) (f : AcqRec → AcqRec) : (s.updAcq i f).insts = s.insts := rfl
@[simp] theorem State.updAcq_fbs (i : Nat) (f : AcqRec → AcqRec) : (s.updAcq i f).fbs = s.fbs := rfl
@[simp] theorem State.updAcq_emus (i : Nat) (f : AcqRec → AcqRec) : (s.updAcq i f).emus = s.emus := rfl
@[simp] theorem State.updAcq_servos (i : Nat) (f : AcqRec → AcqRec) : (s.updAcq i f).servos = s.servos := rfl
@[simp] theorem State.updAcq_motions (i : Nat) (f : AcqRec → AcqRec) : (s.updAcq i f).motions = s.motions := rfl
@[simp] theorem State.updAcq_steppers (i : Nat) (f : AcqRec → AcqRec) : (s.updAcq i f).steppers = s.steppers := rfl
@[simp] theorem State.updAcq_vms (i : Nat) (f : AcqRec → AcqRec) : (s.updAcq i f).vms = s.vms := rfl
@[simp] theorem State.updAcq_groups (i : Nat) (f : AcqRec → AcqRec) : (s.updAcq i f).groups = s.groups := rfl
@[simp] theorem State.updAcq_convs (i : Nat) (f : AcqRec → AcqRec) : (s.updAcq i f).convs = s.convs := rfl
@[simp] theorem State.updAcq_tbs (i : Nat) (f : AcqRec → AcqRec) : (s.updAcq i f).tbs = s.tbs := rfl
@[simp] theorem State.updAcq_tins (i : Nat) (f : AcqRec → AcqRec) : (s.updAcq i f).tins = s.tins := rfl
@[simp] theorem State.updAcq_touts (i : Nat) (f : AcqRec → AcqRec) : (s.updAcq i f).touts = s.touts := rfl
@[simp] theorem State.updAcq_ptps (i : Nat) (f : AcqRec → AcqRec) : (s.updAcq i f).ptps = s.ptps := rfl
@[simp] theorem State.updAcq_chans (i : Nat) (f : AcqRec → AcqRec) : (s.updAcq i f).chans = s.chans := rfl
@[simp] theorem State.updAcq_twin (i : Nat) (f : AcqRec → AcqRec) : (s.updAcq i f).twin = s.twin := rfl
@[simp] theorem State.updAcq_nodes (i : Nat) (f : AcqRec → AcqRec) : (s.updAcq i f).nodes = s.nodes := rfl
@[simp] theorem State.updAcq_safConns (i : Nat) (f : AcqRec → AcqRec) : (s.updAcq i f).safConns = s.safConns := rfl
@[simp] theorem State.updAcq_safSigs (i : Nat) (f : AcqRec → AcqRec) : (s.updAcq i f).safSigs = s.safSigs := rfl
@[simp] theorem State.updAcq_power (i : Nat) (f : AcqRec → AcqRec) : (s.updAcq i f).power = s.power := rfl
@[simp] theorem State.updAcq_update (i : Nat) (f : AcqRec → AcqRec) : (s.updAcq i f).update = s.update := rfl
@[simp] theorem State.updAcq_fw (i : Nat) (f : AcqRec → AcqRec) : (s.updAcq i f).fw = s.fw := rfl

/-! State.updConv writes `convs`. -/
@[simp] theorem State.updConv_axes (i : Nat) (f : Conv → Conv) : (s.updConv i f).axes = s.axes := rfl
@[simp] theorem State.updConv_pending (i : Nat) (f : Conv → Conv) : (s.updConv i f).pending = s.pending := rfl
@[simp] theorem State.updConv_free (i : Nat) (f : Conv → Conv) : (s.updConv i f).free = s.free := rfl
@[simp] theorem State.updConv_clk (i : Nat) (f : Conv → Conv) : (s.updConv i f).clk = s.clk := rfl
@[simp] theorem State.updConv_regs (i : Nat) (f : Conv → Conv) : (s.updConv i f).regs = s.regs := rfl
@[simp] theorem State.updConv_fuses (i : Nat) (f : Conv → Conv) : (s.updConv i f).fuses = s.fuses := rfl
@[simp] theorem State.updConv_recs (i : Nat) (f : Conv → Conv) : (s.updConv i f).recs = s.recs := rfl
@[simp] theorem State.updConv_recsNext (i : Nat) (f : Conv → Conv) : (s.updConv i f).recsNext = s.recsNext := rfl
@[simp] theorem State.updConv_regsFlash (i : Nat) (f : Conv → Conv) : (s.updConv i f).regsFlash = s.regsFlash := rfl
@[simp] theorem State.updConv_recsFlash (i : Nat) (f : Conv → Conv) : (s.updConv i f).recsFlash = s.recsFlash := rfl
@[simp] theorem State.updConv_sent (i : Nat) (f : Conv → Conv) : (s.updConv i f).sent = s.sent := rfl
@[simp] theorem State.updConv_readOut (i : Nat) (f : Conv → Conv) : (s.updConv i f).readOut = s.readOut := rfl
@[simp] theorem State.updConv_ctxs (i : Nat) (f : Conv → Conv) : (s.updConv i f).ctxs = s.ctxs := rfl
@[simp] theorem State.updConv_claims (i : Nat) (f : Conv → Conv) : (s.updConv i f).claims = s.claims := rfl
@[simp] theorem State.updConv_cfgLease (i : Nat) (f : Conv → Conv) : (s.updConv i f).cfgLease = s.cfgLease := rfl
@[simp] theorem State.updConv_msix (i : Nat) (f : Conv → Conv) : (s.updConv i f).msix = s.msix := rfl
@[simp] theorem State.updConv_sspiReplies (i : Nat) (f : Conv → Conv) : (s.updConv i f).sspiReplies = s.sspiReplies := rfl
@[simp] theorem State.updConv_sspiRx (i : Nat) (f : Conv → Conv) : (s.updConv i f).sspiRx = s.sspiRx := rfl
@[simp] theorem State.updConv_hmpRun (i : Nat) (f : Conv → Conv) : (s.updConv i f).hmpRun = s.hmpRun := rfl
@[simp] theorem State.updConv_replay (i : Nat) (f : Conv → Conv) : (s.updConv i f).replay = s.replay := rfl
@[simp] theorem State.updConv_fwdOut (i : Nat) (f : Conv → Conv) : (s.updConv i f).fwdOut = s.fwdOut := rfl
@[simp] theorem State.updConv_soot (i : Nat) (f : Conv → Conv) : (s.updConv i f).soot = s.soot := rfl
@[simp] theorem State.updConv_head (i : Nat) (f : Conv → Conv) : (s.updConv i f).head = s.head := rfl
@[simp] theorem State.updConv_scheds (i : Nat) (f : Conv → Conv) : (s.updConv i f).scheds = s.scheds := rfl
@[simp] theorem State.updConv_hnodes (i : Nat) (f : Conv → Conv) : (s.updConv i f).hnodes = s.hnodes := rfl
@[simp] theorem State.updConv_segIn (i : Nat) (f : Conv → Conv) : (s.updConv i f).segIn = s.segIn := rfl
@[simp] theorem State.updConv_cmds (i : Nat) (f : Conv → Conv) : (s.updConv i f).cmds = s.cmds := rfl
@[simp] theorem State.updConv_cores (i : Nat) (f : Conv → Conv) : (s.updConv i f).cores = s.cores := rfl
@[simp] theorem State.updConv_sram (i : Nat) (f : Conv → Conv) : (s.updConv i f).sram = s.sram := rfl
@[simp] theorem State.updConv_grates (i : Nat) (f : Conv → Conv) : (s.updConv i f).grates = s.grates := rfl
@[simp] theorem State.updConv_descs (i : Nat) (f : Conv → Conv) : (s.updConv i f).descs = s.descs := rfl
@[simp] theorem State.updConv_descsNext (i : Nat) (f : Conv → Conv) : (s.updConv i f).descsNext = s.descsNext := rfl
@[simp] theorem State.updConv_reload (i : Nat) (f : Conv → Conv) : (s.updConv i f).reload = s.reload := rfl
@[simp] theorem State.updConv_insts (i : Nat) (f : Conv → Conv) : (s.updConv i f).insts = s.insts := rfl
@[simp] theorem State.updConv_fbs (i : Nat) (f : Conv → Conv) : (s.updConv i f).fbs = s.fbs := rfl
@[simp] theorem State.updConv_emus (i : Nat) (f : Conv → Conv) : (s.updConv i f).emus = s.emus := rfl
@[simp] theorem State.updConv_servos (i : Nat) (f : Conv → Conv) : (s.updConv i f).servos = s.servos := rfl
@[simp] theorem State.updConv_motions (i : Nat) (f : Conv → Conv) : (s.updConv i f).motions = s.motions := rfl
@[simp] theorem State.updConv_steppers (i : Nat) (f : Conv → Conv) : (s.updConv i f).steppers = s.steppers := rfl
@[simp] theorem State.updConv_vms (i : Nat) (f : Conv → Conv) : (s.updConv i f).vms = s.vms := rfl
@[simp] theorem State.updConv_groups (i : Nat) (f : Conv → Conv) : (s.updConv i f).groups = s.groups := rfl
@[simp] theorem State.updConv_recBufs (i : Nat) (f : Conv → Conv) : (s.updConv i f).recBufs = s.recBufs := rfl
@[simp] theorem State.updConv_tbs (i : Nat) (f : Conv → Conv) : (s.updConv i f).tbs = s.tbs := rfl
@[simp] theorem State.updConv_tins (i : Nat) (f : Conv → Conv) : (s.updConv i f).tins = s.tins := rfl
@[simp] theorem State.updConv_touts (i : Nat) (f : Conv → Conv) : (s.updConv i f).touts = s.touts := rfl
@[simp] theorem State.updConv_ptps (i : Nat) (f : Conv → Conv) : (s.updConv i f).ptps = s.ptps := rfl
@[simp] theorem State.updConv_chans (i : Nat) (f : Conv → Conv) : (s.updConv i f).chans = s.chans := rfl
@[simp] theorem State.updConv_twin (i : Nat) (f : Conv → Conv) : (s.updConv i f).twin = s.twin := rfl
@[simp] theorem State.updConv_nodes (i : Nat) (f : Conv → Conv) : (s.updConv i f).nodes = s.nodes := rfl
@[simp] theorem State.updConv_safConns (i : Nat) (f : Conv → Conv) : (s.updConv i f).safConns = s.safConns := rfl
@[simp] theorem State.updConv_safSigs (i : Nat) (f : Conv → Conv) : (s.updConv i f).safSigs = s.safSigs := rfl
@[simp] theorem State.updConv_power (i : Nat) (f : Conv → Conv) : (s.updConv i f).power = s.power := rfl
@[simp] theorem State.updConv_update (i : Nat) (f : Conv → Conv) : (s.updConv i f).update = s.update := rfl
@[simp] theorem State.updConv_fw (i : Nat) (f : Conv → Conv) : (s.updConv i f).fw = s.fw := rfl

/-! State.updSafConn writes `safConns`. -/
@[simp] theorem State.updSafConn_axes (i : Nat) (f : SafConn → SafConn) : (s.updSafConn i f).axes = s.axes := rfl
@[simp] theorem State.updSafConn_pending (i : Nat) (f : SafConn → SafConn) : (s.updSafConn i f).pending = s.pending := rfl
@[simp] theorem State.updSafConn_free (i : Nat) (f : SafConn → SafConn) : (s.updSafConn i f).free = s.free := rfl
@[simp] theorem State.updSafConn_clk (i : Nat) (f : SafConn → SafConn) : (s.updSafConn i f).clk = s.clk := rfl
@[simp] theorem State.updSafConn_regs (i : Nat) (f : SafConn → SafConn) : (s.updSafConn i f).regs = s.regs := rfl
@[simp] theorem State.updSafConn_fuses (i : Nat) (f : SafConn → SafConn) : (s.updSafConn i f).fuses = s.fuses := rfl
@[simp] theorem State.updSafConn_recs (i : Nat) (f : SafConn → SafConn) : (s.updSafConn i f).recs = s.recs := rfl
@[simp] theorem State.updSafConn_recsNext (i : Nat) (f : SafConn → SafConn) : (s.updSafConn i f).recsNext = s.recsNext := rfl
@[simp] theorem State.updSafConn_regsFlash (i : Nat) (f : SafConn → SafConn) : (s.updSafConn i f).regsFlash = s.regsFlash := rfl
@[simp] theorem State.updSafConn_recsFlash (i : Nat) (f : SafConn → SafConn) : (s.updSafConn i f).recsFlash = s.recsFlash := rfl
@[simp] theorem State.updSafConn_sent (i : Nat) (f : SafConn → SafConn) : (s.updSafConn i f).sent = s.sent := rfl
@[simp] theorem State.updSafConn_readOut (i : Nat) (f : SafConn → SafConn) : (s.updSafConn i f).readOut = s.readOut := rfl
@[simp] theorem State.updSafConn_ctxs (i : Nat) (f : SafConn → SafConn) : (s.updSafConn i f).ctxs = s.ctxs := rfl
@[simp] theorem State.updSafConn_claims (i : Nat) (f : SafConn → SafConn) : (s.updSafConn i f).claims = s.claims := rfl
@[simp] theorem State.updSafConn_cfgLease (i : Nat) (f : SafConn → SafConn) : (s.updSafConn i f).cfgLease = s.cfgLease := rfl
@[simp] theorem State.updSafConn_msix (i : Nat) (f : SafConn → SafConn) : (s.updSafConn i f).msix = s.msix := rfl
@[simp] theorem State.updSafConn_sspiReplies (i : Nat) (f : SafConn → SafConn) : (s.updSafConn i f).sspiReplies = s.sspiReplies := rfl
@[simp] theorem State.updSafConn_sspiRx (i : Nat) (f : SafConn → SafConn) : (s.updSafConn i f).sspiRx = s.sspiRx := rfl
@[simp] theorem State.updSafConn_hmpRun (i : Nat) (f : SafConn → SafConn) : (s.updSafConn i f).hmpRun = s.hmpRun := rfl
@[simp] theorem State.updSafConn_replay (i : Nat) (f : SafConn → SafConn) : (s.updSafConn i f).replay = s.replay := rfl
@[simp] theorem State.updSafConn_fwdOut (i : Nat) (f : SafConn → SafConn) : (s.updSafConn i f).fwdOut = s.fwdOut := rfl
@[simp] theorem State.updSafConn_soot (i : Nat) (f : SafConn → SafConn) : (s.updSafConn i f).soot = s.soot := rfl
@[simp] theorem State.updSafConn_head (i : Nat) (f : SafConn → SafConn) : (s.updSafConn i f).head = s.head := rfl
@[simp] theorem State.updSafConn_scheds (i : Nat) (f : SafConn → SafConn) : (s.updSafConn i f).scheds = s.scheds := rfl
@[simp] theorem State.updSafConn_hnodes (i : Nat) (f : SafConn → SafConn) : (s.updSafConn i f).hnodes = s.hnodes := rfl
@[simp] theorem State.updSafConn_segIn (i : Nat) (f : SafConn → SafConn) : (s.updSafConn i f).segIn = s.segIn := rfl
@[simp] theorem State.updSafConn_cmds (i : Nat) (f : SafConn → SafConn) : (s.updSafConn i f).cmds = s.cmds := rfl
@[simp] theorem State.updSafConn_cores (i : Nat) (f : SafConn → SafConn) : (s.updSafConn i f).cores = s.cores := rfl
@[simp] theorem State.updSafConn_sram (i : Nat) (f : SafConn → SafConn) : (s.updSafConn i f).sram = s.sram := rfl
@[simp] theorem State.updSafConn_grates (i : Nat) (f : SafConn → SafConn) : (s.updSafConn i f).grates = s.grates := rfl
@[simp] theorem State.updSafConn_descs (i : Nat) (f : SafConn → SafConn) : (s.updSafConn i f).descs = s.descs := rfl
@[simp] theorem State.updSafConn_descsNext (i : Nat) (f : SafConn → SafConn) : (s.updSafConn i f).descsNext = s.descsNext := rfl
@[simp] theorem State.updSafConn_reload (i : Nat) (f : SafConn → SafConn) : (s.updSafConn i f).reload = s.reload := rfl
@[simp] theorem State.updSafConn_insts (i : Nat) (f : SafConn → SafConn) : (s.updSafConn i f).insts = s.insts := rfl
@[simp] theorem State.updSafConn_fbs (i : Nat) (f : SafConn → SafConn) : (s.updSafConn i f).fbs = s.fbs := rfl
@[simp] theorem State.updSafConn_emus (i : Nat) (f : SafConn → SafConn) : (s.updSafConn i f).emus = s.emus := rfl
@[simp] theorem State.updSafConn_servos (i : Nat) (f : SafConn → SafConn) : (s.updSafConn i f).servos = s.servos := rfl
@[simp] theorem State.updSafConn_motions (i : Nat) (f : SafConn → SafConn) : (s.updSafConn i f).motions = s.motions := rfl
@[simp] theorem State.updSafConn_steppers (i : Nat) (f : SafConn → SafConn) : (s.updSafConn i f).steppers = s.steppers := rfl
@[simp] theorem State.updSafConn_vms (i : Nat) (f : SafConn → SafConn) : (s.updSafConn i f).vms = s.vms := rfl
@[simp] theorem State.updSafConn_groups (i : Nat) (f : SafConn → SafConn) : (s.updSafConn i f).groups = s.groups := rfl
@[simp] theorem State.updSafConn_recBufs (i : Nat) (f : SafConn → SafConn) : (s.updSafConn i f).recBufs = s.recBufs := rfl
@[simp] theorem State.updSafConn_convs (i : Nat) (f : SafConn → SafConn) : (s.updSafConn i f).convs = s.convs := rfl
@[simp] theorem State.updSafConn_tbs (i : Nat) (f : SafConn → SafConn) : (s.updSafConn i f).tbs = s.tbs := rfl
@[simp] theorem State.updSafConn_tins (i : Nat) (f : SafConn → SafConn) : (s.updSafConn i f).tins = s.tins := rfl
@[simp] theorem State.updSafConn_touts (i : Nat) (f : SafConn → SafConn) : (s.updSafConn i f).touts = s.touts := rfl
@[simp] theorem State.updSafConn_ptps (i : Nat) (f : SafConn → SafConn) : (s.updSafConn i f).ptps = s.ptps := rfl
@[simp] theorem State.updSafConn_chans (i : Nat) (f : SafConn → SafConn) : (s.updSafConn i f).chans = s.chans := rfl
@[simp] theorem State.updSafConn_twin (i : Nat) (f : SafConn → SafConn) : (s.updSafConn i f).twin = s.twin := rfl
@[simp] theorem State.updSafConn_nodes (i : Nat) (f : SafConn → SafConn) : (s.updSafConn i f).nodes = s.nodes := rfl
@[simp] theorem State.updSafConn_safSigs (i : Nat) (f : SafConn → SafConn) : (s.updSafConn i f).safSigs = s.safSigs := rfl
@[simp] theorem State.updSafConn_power (i : Nat) (f : SafConn → SafConn) : (s.updSafConn i f).power = s.power := rfl
@[simp] theorem State.updSafConn_update (i : Nat) (f : SafConn → SafConn) : (s.updSafConn i f).update = s.update := rfl
@[simp] theorem State.updSafConn_fw (i : Nat) (f : SafConn → SafConn) : (s.updSafConn i f).fw = s.fw := rfl

/-! State.recSet writes `recs`. -/
@[simp] theorem State.recSet_axes (k : RecKind) (i : Nat) (b : List Byte) : (s.recSet k i b).axes = s.axes := rfl
@[simp] theorem State.recSet_pending (k : RecKind) (i : Nat) (b : List Byte) : (s.recSet k i b).pending = s.pending := rfl
@[simp] theorem State.recSet_free (k : RecKind) (i : Nat) (b : List Byte) : (s.recSet k i b).free = s.free := rfl
@[simp] theorem State.recSet_clk (k : RecKind) (i : Nat) (b : List Byte) : (s.recSet k i b).clk = s.clk := rfl
@[simp] theorem State.recSet_regs (k : RecKind) (i : Nat) (b : List Byte) : (s.recSet k i b).regs = s.regs := rfl
@[simp] theorem State.recSet_fuses (k : RecKind) (i : Nat) (b : List Byte) : (s.recSet k i b).fuses = s.fuses := rfl
@[simp] theorem State.recSet_recsNext (k : RecKind) (i : Nat) (b : List Byte) : (s.recSet k i b).recsNext = s.recsNext := rfl
@[simp] theorem State.recSet_regsFlash (k : RecKind) (i : Nat) (b : List Byte) : (s.recSet k i b).regsFlash = s.regsFlash := rfl
@[simp] theorem State.recSet_recsFlash (k : RecKind) (i : Nat) (b : List Byte) : (s.recSet k i b).recsFlash = s.recsFlash := rfl
@[simp] theorem State.recSet_sent (k : RecKind) (i : Nat) (b : List Byte) : (s.recSet k i b).sent = s.sent := rfl
@[simp] theorem State.recSet_readOut (k : RecKind) (i : Nat) (b : List Byte) : (s.recSet k i b).readOut = s.readOut := rfl
@[simp] theorem State.recSet_ctxs (k : RecKind) (i : Nat) (b : List Byte) : (s.recSet k i b).ctxs = s.ctxs := rfl
@[simp] theorem State.recSet_claims (k : RecKind) (i : Nat) (b : List Byte) : (s.recSet k i b).claims = s.claims := rfl
@[simp] theorem State.recSet_cfgLease (k : RecKind) (i : Nat) (b : List Byte) : (s.recSet k i b).cfgLease = s.cfgLease := rfl
@[simp] theorem State.recSet_msix (k : RecKind) (i : Nat) (b : List Byte) : (s.recSet k i b).msix = s.msix := rfl
@[simp] theorem State.recSet_sspiReplies (k : RecKind) (i : Nat) (b : List Byte) : (s.recSet k i b).sspiReplies = s.sspiReplies := rfl
@[simp] theorem State.recSet_sspiRx (k : RecKind) (i : Nat) (b : List Byte) : (s.recSet k i b).sspiRx = s.sspiRx := rfl
@[simp] theorem State.recSet_hmpRun (k : RecKind) (i : Nat) (b : List Byte) : (s.recSet k i b).hmpRun = s.hmpRun := rfl
@[simp] theorem State.recSet_replay (k : RecKind) (i : Nat) (b : List Byte) : (s.recSet k i b).replay = s.replay := rfl
@[simp] theorem State.recSet_fwdOut (k : RecKind) (i : Nat) (b : List Byte) : (s.recSet k i b).fwdOut = s.fwdOut := rfl
@[simp] theorem State.recSet_soot (k : RecKind) (i : Nat) (b : List Byte) : (s.recSet k i b).soot = s.soot := rfl
@[simp] theorem State.recSet_head (k : RecKind) (i : Nat) (b : List Byte) : (s.recSet k i b).head = s.head := rfl
@[simp] theorem State.recSet_scheds (k : RecKind) (i : Nat) (b : List Byte) : (s.recSet k i b).scheds = s.scheds := rfl
@[simp] theorem State.recSet_hnodes (k : RecKind) (i : Nat) (b : List Byte) : (s.recSet k i b).hnodes = s.hnodes := rfl
@[simp] theorem State.recSet_segIn (k : RecKind) (i : Nat) (b : List Byte) : (s.recSet k i b).segIn = s.segIn := rfl
@[simp] theorem State.recSet_cmds (k : RecKind) (i : Nat) (b : List Byte) : (s.recSet k i b).cmds = s.cmds := rfl
@[simp] theorem State.recSet_cores (k : RecKind) (i : Nat) (b : List Byte) : (s.recSet k i b).cores = s.cores := rfl
@[simp] theorem State.recSet_sram (k : RecKind) (i : Nat) (b : List Byte) : (s.recSet k i b).sram = s.sram := rfl
@[simp] theorem State.recSet_grates (k : RecKind) (i : Nat) (b : List Byte) : (s.recSet k i b).grates = s.grates := rfl
@[simp] theorem State.recSet_descs (k : RecKind) (i : Nat) (b : List Byte) : (s.recSet k i b).descs = s.descs := rfl
@[simp] theorem State.recSet_descsNext (k : RecKind) (i : Nat) (b : List Byte) : (s.recSet k i b).descsNext = s.descsNext := rfl
@[simp] theorem State.recSet_reload (k : RecKind) (i : Nat) (b : List Byte) : (s.recSet k i b).reload = s.reload := rfl
@[simp] theorem State.recSet_insts (k : RecKind) (i : Nat) (b : List Byte) : (s.recSet k i b).insts = s.insts := rfl
@[simp] theorem State.recSet_fbs (k : RecKind) (i : Nat) (b : List Byte) : (s.recSet k i b).fbs = s.fbs := rfl
@[simp] theorem State.recSet_emus (k : RecKind) (i : Nat) (b : List Byte) : (s.recSet k i b).emus = s.emus := rfl
@[simp] theorem State.recSet_servos (k : RecKind) (i : Nat) (b : List Byte) : (s.recSet k i b).servos = s.servos := rfl
@[simp] theorem State.recSet_motions (k : RecKind) (i : Nat) (b : List Byte) : (s.recSet k i b).motions = s.motions := rfl
@[simp] theorem State.recSet_steppers (k : RecKind) (i : Nat) (b : List Byte) : (s.recSet k i b).steppers = s.steppers := rfl
@[simp] theorem State.recSet_vms (k : RecKind) (i : Nat) (b : List Byte) : (s.recSet k i b).vms = s.vms := rfl
@[simp] theorem State.recSet_groups (k : RecKind) (i : Nat) (b : List Byte) : (s.recSet k i b).groups = s.groups := rfl
@[simp] theorem State.recSet_recBufs (k : RecKind) (i : Nat) (b : List Byte) : (s.recSet k i b).recBufs = s.recBufs := rfl
@[simp] theorem State.recSet_convs (k : RecKind) (i : Nat) (b : List Byte) : (s.recSet k i b).convs = s.convs := rfl
@[simp] theorem State.recSet_tbs (k : RecKind) (i : Nat) (b : List Byte) : (s.recSet k i b).tbs = s.tbs := rfl
@[simp] theorem State.recSet_tins (k : RecKind) (i : Nat) (b : List Byte) : (s.recSet k i b).tins = s.tins := rfl
@[simp] theorem State.recSet_touts (k : RecKind) (i : Nat) (b : List Byte) : (s.recSet k i b).touts = s.touts := rfl
@[simp] theorem State.recSet_ptps (k : RecKind) (i : Nat) (b : List Byte) : (s.recSet k i b).ptps = s.ptps := rfl
@[simp] theorem State.recSet_chans (k : RecKind) (i : Nat) (b : List Byte) : (s.recSet k i b).chans = s.chans := rfl
@[simp] theorem State.recSet_twin (k : RecKind) (i : Nat) (b : List Byte) : (s.recSet k i b).twin = s.twin := rfl
@[simp] theorem State.recSet_nodes (k : RecKind) (i : Nat) (b : List Byte) : (s.recSet k i b).nodes = s.nodes := rfl
@[simp] theorem State.recSet_safConns (k : RecKind) (i : Nat) (b : List Byte) : (s.recSet k i b).safConns = s.safConns := rfl
@[simp] theorem State.recSet_safSigs (k : RecKind) (i : Nat) (b : List Byte) : (s.recSet k i b).safSigs = s.safSigs := rfl
@[simp] theorem State.recSet_power (k : RecKind) (i : Nat) (b : List Byte) : (s.recSet k i b).power = s.power := rfl
@[simp] theorem State.recSet_update (k : RecKind) (i : Nat) (b : List Byte) : (s.recSet k i b).update = s.update := rfl
@[simp] theorem State.recSet_fw (k : RecKind) (i : Nat) (b : List Byte) : (s.recSet k i b).fw = s.fw := rfl

/-! State.recNext writes `recsNext`. -/
@[simp] theorem State.recNext_axes (k : RecKind) (i : Nat) (b : List Byte) : (s.recNext k i b).axes = s.axes := rfl
@[simp] theorem State.recNext_pending (k : RecKind) (i : Nat) (b : List Byte) : (s.recNext k i b).pending = s.pending := rfl
@[simp] theorem State.recNext_free (k : RecKind) (i : Nat) (b : List Byte) : (s.recNext k i b).free = s.free := rfl
@[simp] theorem State.recNext_clk (k : RecKind) (i : Nat) (b : List Byte) : (s.recNext k i b).clk = s.clk := rfl
@[simp] theorem State.recNext_regs (k : RecKind) (i : Nat) (b : List Byte) : (s.recNext k i b).regs = s.regs := rfl
@[simp] theorem State.recNext_fuses (k : RecKind) (i : Nat) (b : List Byte) : (s.recNext k i b).fuses = s.fuses := rfl
@[simp] theorem State.recNext_recs (k : RecKind) (i : Nat) (b : List Byte) : (s.recNext k i b).recs = s.recs := rfl
@[simp] theorem State.recNext_regsFlash (k : RecKind) (i : Nat) (b : List Byte) : (s.recNext k i b).regsFlash = s.regsFlash := rfl
@[simp] theorem State.recNext_recsFlash (k : RecKind) (i : Nat) (b : List Byte) : (s.recNext k i b).recsFlash = s.recsFlash := rfl
@[simp] theorem State.recNext_sent (k : RecKind) (i : Nat) (b : List Byte) : (s.recNext k i b).sent = s.sent := rfl
@[simp] theorem State.recNext_readOut (k : RecKind) (i : Nat) (b : List Byte) : (s.recNext k i b).readOut = s.readOut := rfl
@[simp] theorem State.recNext_ctxs (k : RecKind) (i : Nat) (b : List Byte) : (s.recNext k i b).ctxs = s.ctxs := rfl
@[simp] theorem State.recNext_claims (k : RecKind) (i : Nat) (b : List Byte) : (s.recNext k i b).claims = s.claims := rfl
@[simp] theorem State.recNext_cfgLease (k : RecKind) (i : Nat) (b : List Byte) : (s.recNext k i b).cfgLease = s.cfgLease := rfl
@[simp] theorem State.recNext_msix (k : RecKind) (i : Nat) (b : List Byte) : (s.recNext k i b).msix = s.msix := rfl
@[simp] theorem State.recNext_sspiReplies (k : RecKind) (i : Nat) (b : List Byte) : (s.recNext k i b).sspiReplies = s.sspiReplies := rfl
@[simp] theorem State.recNext_sspiRx (k : RecKind) (i : Nat) (b : List Byte) : (s.recNext k i b).sspiRx = s.sspiRx := rfl
@[simp] theorem State.recNext_hmpRun (k : RecKind) (i : Nat) (b : List Byte) : (s.recNext k i b).hmpRun = s.hmpRun := rfl
@[simp] theorem State.recNext_replay (k : RecKind) (i : Nat) (b : List Byte) : (s.recNext k i b).replay = s.replay := rfl
@[simp] theorem State.recNext_fwdOut (k : RecKind) (i : Nat) (b : List Byte) : (s.recNext k i b).fwdOut = s.fwdOut := rfl
@[simp] theorem State.recNext_soot (k : RecKind) (i : Nat) (b : List Byte) : (s.recNext k i b).soot = s.soot := rfl
@[simp] theorem State.recNext_head (k : RecKind) (i : Nat) (b : List Byte) : (s.recNext k i b).head = s.head := rfl
@[simp] theorem State.recNext_scheds (k : RecKind) (i : Nat) (b : List Byte) : (s.recNext k i b).scheds = s.scheds := rfl
@[simp] theorem State.recNext_hnodes (k : RecKind) (i : Nat) (b : List Byte) : (s.recNext k i b).hnodes = s.hnodes := rfl
@[simp] theorem State.recNext_segIn (k : RecKind) (i : Nat) (b : List Byte) : (s.recNext k i b).segIn = s.segIn := rfl
@[simp] theorem State.recNext_cmds (k : RecKind) (i : Nat) (b : List Byte) : (s.recNext k i b).cmds = s.cmds := rfl
@[simp] theorem State.recNext_cores (k : RecKind) (i : Nat) (b : List Byte) : (s.recNext k i b).cores = s.cores := rfl
@[simp] theorem State.recNext_sram (k : RecKind) (i : Nat) (b : List Byte) : (s.recNext k i b).sram = s.sram := rfl
@[simp] theorem State.recNext_grates (k : RecKind) (i : Nat) (b : List Byte) : (s.recNext k i b).grates = s.grates := rfl
@[simp] theorem State.recNext_descs (k : RecKind) (i : Nat) (b : List Byte) : (s.recNext k i b).descs = s.descs := rfl
@[simp] theorem State.recNext_descsNext (k : RecKind) (i : Nat) (b : List Byte) : (s.recNext k i b).descsNext = s.descsNext := rfl
@[simp] theorem State.recNext_reload (k : RecKind) (i : Nat) (b : List Byte) : (s.recNext k i b).reload = s.reload := rfl
@[simp] theorem State.recNext_insts (k : RecKind) (i : Nat) (b : List Byte) : (s.recNext k i b).insts = s.insts := rfl
@[simp] theorem State.recNext_fbs (k : RecKind) (i : Nat) (b : List Byte) : (s.recNext k i b).fbs = s.fbs := rfl
@[simp] theorem State.recNext_emus (k : RecKind) (i : Nat) (b : List Byte) : (s.recNext k i b).emus = s.emus := rfl
@[simp] theorem State.recNext_servos (k : RecKind) (i : Nat) (b : List Byte) : (s.recNext k i b).servos = s.servos := rfl
@[simp] theorem State.recNext_motions (k : RecKind) (i : Nat) (b : List Byte) : (s.recNext k i b).motions = s.motions := rfl
@[simp] theorem State.recNext_steppers (k : RecKind) (i : Nat) (b : List Byte) : (s.recNext k i b).steppers = s.steppers := rfl
@[simp] theorem State.recNext_vms (k : RecKind) (i : Nat) (b : List Byte) : (s.recNext k i b).vms = s.vms := rfl
@[simp] theorem State.recNext_groups (k : RecKind) (i : Nat) (b : List Byte) : (s.recNext k i b).groups = s.groups := rfl
@[simp] theorem State.recNext_recBufs (k : RecKind) (i : Nat) (b : List Byte) : (s.recNext k i b).recBufs = s.recBufs := rfl
@[simp] theorem State.recNext_convs (k : RecKind) (i : Nat) (b : List Byte) : (s.recNext k i b).convs = s.convs := rfl
@[simp] theorem State.recNext_tbs (k : RecKind) (i : Nat) (b : List Byte) : (s.recNext k i b).tbs = s.tbs := rfl
@[simp] theorem State.recNext_tins (k : RecKind) (i : Nat) (b : List Byte) : (s.recNext k i b).tins = s.tins := rfl
@[simp] theorem State.recNext_touts (k : RecKind) (i : Nat) (b : List Byte) : (s.recNext k i b).touts = s.touts := rfl
@[simp] theorem State.recNext_ptps (k : RecKind) (i : Nat) (b : List Byte) : (s.recNext k i b).ptps = s.ptps := rfl
@[simp] theorem State.recNext_chans (k : RecKind) (i : Nat) (b : List Byte) : (s.recNext k i b).chans = s.chans := rfl
@[simp] theorem State.recNext_twin (k : RecKind) (i : Nat) (b : List Byte) : (s.recNext k i b).twin = s.twin := rfl
@[simp] theorem State.recNext_nodes (k : RecKind) (i : Nat) (b : List Byte) : (s.recNext k i b).nodes = s.nodes := rfl
@[simp] theorem State.recNext_safConns (k : RecKind) (i : Nat) (b : List Byte) : (s.recNext k i b).safConns = s.safConns := rfl
@[simp] theorem State.recNext_safSigs (k : RecKind) (i : Nat) (b : List Byte) : (s.recNext k i b).safSigs = s.safSigs := rfl
@[simp] theorem State.recNext_power (k : RecKind) (i : Nat) (b : List Byte) : (s.recNext k i b).power = s.power := rfl
@[simp] theorem State.recNext_update (k : RecKind) (i : Nat) (b : List Byte) : (s.recNext k i b).update = s.update := rfl
@[simp] theorem State.recNext_fw (k : RecKind) (i : Nat) (b : List Byte) : (s.recNext k i b).fw = s.fw := rfl

/-! State.blow writes `fuses`. -/
@[simp] theorem State.blow_axes (f : Fuse) (i v : Nat) : (s.blow f i v).axes = s.axes := rfl
@[simp] theorem State.blow_pending (f : Fuse) (i v : Nat) : (s.blow f i v).pending = s.pending := rfl
@[simp] theorem State.blow_free (f : Fuse) (i v : Nat) : (s.blow f i v).free = s.free := rfl
@[simp] theorem State.blow_clk (f : Fuse) (i v : Nat) : (s.blow f i v).clk = s.clk := rfl
@[simp] theorem State.blow_regs (f : Fuse) (i v : Nat) : (s.blow f i v).regs = s.regs := rfl
@[simp] theorem State.blow_recs (f : Fuse) (i v : Nat) : (s.blow f i v).recs = s.recs := rfl
@[simp] theorem State.blow_recsNext (f : Fuse) (i v : Nat) : (s.blow f i v).recsNext = s.recsNext := rfl
@[simp] theorem State.blow_regsFlash (f : Fuse) (i v : Nat) : (s.blow f i v).regsFlash = s.regsFlash := rfl
@[simp] theorem State.blow_recsFlash (f : Fuse) (i v : Nat) : (s.blow f i v).recsFlash = s.recsFlash := rfl
@[simp] theorem State.blow_sent (f : Fuse) (i v : Nat) : (s.blow f i v).sent = s.sent := rfl
@[simp] theorem State.blow_readOut (f : Fuse) (i v : Nat) : (s.blow f i v).readOut = s.readOut := rfl
@[simp] theorem State.blow_ctxs (f : Fuse) (i v : Nat) : (s.blow f i v).ctxs = s.ctxs := rfl
@[simp] theorem State.blow_claims (f : Fuse) (i v : Nat) : (s.blow f i v).claims = s.claims := rfl
@[simp] theorem State.blow_cfgLease (f : Fuse) (i v : Nat) : (s.blow f i v).cfgLease = s.cfgLease := rfl
@[simp] theorem State.blow_msix (f : Fuse) (i v : Nat) : (s.blow f i v).msix = s.msix := rfl
@[simp] theorem State.blow_sspiReplies (f : Fuse) (i v : Nat) : (s.blow f i v).sspiReplies = s.sspiReplies := rfl
@[simp] theorem State.blow_sspiRx (f : Fuse) (i v : Nat) : (s.blow f i v).sspiRx = s.sspiRx := rfl
@[simp] theorem State.blow_hmpRun (f : Fuse) (i v : Nat) : (s.blow f i v).hmpRun = s.hmpRun := rfl
@[simp] theorem State.blow_replay (f : Fuse) (i v : Nat) : (s.blow f i v).replay = s.replay := rfl
@[simp] theorem State.blow_fwdOut (f : Fuse) (i v : Nat) : (s.blow f i v).fwdOut = s.fwdOut := rfl
@[simp] theorem State.blow_soot (f : Fuse) (i v : Nat) : (s.blow f i v).soot = s.soot := rfl
@[simp] theorem State.blow_head (f : Fuse) (i v : Nat) : (s.blow f i v).head = s.head := rfl
@[simp] theorem State.blow_scheds (f : Fuse) (i v : Nat) : (s.blow f i v).scheds = s.scheds := rfl
@[simp] theorem State.blow_hnodes (f : Fuse) (i v : Nat) : (s.blow f i v).hnodes = s.hnodes := rfl
@[simp] theorem State.blow_segIn (f : Fuse) (i v : Nat) : (s.blow f i v).segIn = s.segIn := rfl
@[simp] theorem State.blow_cmds (f : Fuse) (i v : Nat) : (s.blow f i v).cmds = s.cmds := rfl
@[simp] theorem State.blow_cores (f : Fuse) (i v : Nat) : (s.blow f i v).cores = s.cores := rfl
@[simp] theorem State.blow_sram (f : Fuse) (i v : Nat) : (s.blow f i v).sram = s.sram := rfl
@[simp] theorem State.blow_grates (f : Fuse) (i v : Nat) : (s.blow f i v).grates = s.grates := rfl
@[simp] theorem State.blow_descs (f : Fuse) (i v : Nat) : (s.blow f i v).descs = s.descs := rfl
@[simp] theorem State.blow_descsNext (f : Fuse) (i v : Nat) : (s.blow f i v).descsNext = s.descsNext := rfl
@[simp] theorem State.blow_reload (f : Fuse) (i v : Nat) : (s.blow f i v).reload = s.reload := rfl
@[simp] theorem State.blow_insts (f : Fuse) (i v : Nat) : (s.blow f i v).insts = s.insts := rfl
@[simp] theorem State.blow_fbs (f : Fuse) (i v : Nat) : (s.blow f i v).fbs = s.fbs := rfl
@[simp] theorem State.blow_emus (f : Fuse) (i v : Nat) : (s.blow f i v).emus = s.emus := rfl
@[simp] theorem State.blow_servos (f : Fuse) (i v : Nat) : (s.blow f i v).servos = s.servos := rfl
@[simp] theorem State.blow_motions (f : Fuse) (i v : Nat) : (s.blow f i v).motions = s.motions := rfl
@[simp] theorem State.blow_steppers (f : Fuse) (i v : Nat) : (s.blow f i v).steppers = s.steppers := rfl
@[simp] theorem State.blow_vms (f : Fuse) (i v : Nat) : (s.blow f i v).vms = s.vms := rfl
@[simp] theorem State.blow_groups (f : Fuse) (i v : Nat) : (s.blow f i v).groups = s.groups := rfl
@[simp] theorem State.blow_recBufs (f : Fuse) (i v : Nat) : (s.blow f i v).recBufs = s.recBufs := rfl
@[simp] theorem State.blow_convs (f : Fuse) (i v : Nat) : (s.blow f i v).convs = s.convs := rfl
@[simp] theorem State.blow_tbs (f : Fuse) (i v : Nat) : (s.blow f i v).tbs = s.tbs := rfl
@[simp] theorem State.blow_tins (f : Fuse) (i v : Nat) : (s.blow f i v).tins = s.tins := rfl
@[simp] theorem State.blow_touts (f : Fuse) (i v : Nat) : (s.blow f i v).touts = s.touts := rfl
@[simp] theorem State.blow_ptps (f : Fuse) (i v : Nat) : (s.blow f i v).ptps = s.ptps := rfl
@[simp] theorem State.blow_chans (f : Fuse) (i v : Nat) : (s.blow f i v).chans = s.chans := rfl
@[simp] theorem State.blow_twin (f : Fuse) (i v : Nat) : (s.blow f i v).twin = s.twin := rfl
@[simp] theorem State.blow_nodes (f : Fuse) (i v : Nat) : (s.blow f i v).nodes = s.nodes := rfl
@[simp] theorem State.blow_safConns (f : Fuse) (i v : Nat) : (s.blow f i v).safConns = s.safConns := rfl
@[simp] theorem State.blow_safSigs (f : Fuse) (i v : Nat) : (s.blow f i v).safSigs = s.safSigs := rfl
@[simp] theorem State.blow_power (f : Fuse) (i v : Nat) : (s.blow f i v).power = s.power := rfl
@[simp] theorem State.blow_update (f : Fuse) (i v : Nat) : (s.blow f i v).update = s.update := rfl
@[simp] theorem State.blow_fw (f : Fuse) (i v : Nat) : (s.blow f i v).fw = s.fw := rfl

end Sys2Proof.Machine
end

