-- ==== Sys2Proof/Laws/Ops.lean ====
section
/-! SUPPORT. Sys2Proof/Laws/Ops.lean: one spec lemma for each operation that every family shares: the register file, counters, the log, events. -/

namespace Sys2Proof.Machine

/-! The register file. -/

theorem Fld.code_lt (f : Fld) : f.code < 512 := by cases f <;> decide

theorem Fld.code_inj {f g : Fld} (h : f.code = g.code) : f = g := by
  have hf := Fld.ofNat_ctorIdx f
  rw [show f.ctorIdx = g.ctorIdx from h, Fld.ofNat_ctorIdx] at hf
  exact hf.symm

theorem Fld.key_inj {f g : Fld} {i j : Nat} (h : f.key i = g.key j) : f = g ∧ i = j := by
  have hf := f.code_lt
  have hg := g.code_lt
  unfold Fld.key at h
  have hi : i = j := by omega
  exact ⟨Fld.code_inj (by omega), hi⟩

theorem Fld.width_le (f : Fld) : f.info.width ≤ 32 := by cases f <;> decide

theorem Fld.width_pos (f : Fld) : 0 < f.info.width := by cases f <;> decide

theorem Fld.reset_lt (f : Fld) : f.info.reset < 2 ^ f.info.width := by cases f <;> decide

/-- The value that a write of a field gives: the number cut to the field's width. -/
theorem State.cut_toNat (f : Fld) (v : Nat) : (BitVec.ofNat 32 (v % 2 ^ f.info.width)).toNat = v % 2 ^ f.info.width := by
  have h1 : v % 2 ^ f.info.width < 2 ^ f.info.width := Nat.mod_lt _ (Nat.two_pow_pos _)
  have h2 : 2 ^ f.info.width ≤ 2 ^ 32 := Nat.pow_le_pow_right (by omega) f.width_le
  simp only [BitVec.toNat_ofNat]
  exact Nat.mod_eq_of_lt (by omega)

/-- A register field reads what was last written to it, cut to its width. -/
theorem State.r_w_same (s : State) (f : Fld) (i v : Nat) : (s.w f i v).r f i = v % 2 ^ f.info.width := by
  unfold State.w State.r
  rw [Tbl.get_set_same, State.cut_toNat]

/-- A write of one field leaves every other field, and the field's other indices, alone. -/
theorem State.r_w_other (s : State) {f g : Fld} {i j : Nat} (v : Nat) (h : ¬(f = g ∧ i = j)) : (s.w f i v).r g j = s.r g j := by
  unfold State.w State.r
  rw [Tbl.get_set_other _ _ _ _ (fun hk => h (Fld.key_inj hk))]

@[simp] theorem State.r_w (s : State) (f g : Fld) (i j v : Nat) :
    (s.w f i v).r g j = if f = g ∧ i = j then v % 2 ^ g.info.width else s.r g j := by
  split
  · next h => obtain ⟨rfl, rfl⟩ := h; exact s.r_w_same f i v
  · next h => exact s.r_w_other v h

@[simp] theorem State.r_wb (s : State) (f g : Fld) (i j : Nat) (b : Bool) :
    (s.wb f i b).r g j = if f = g ∧ i = j then b2n b else s.r g j := by
  unfold State.wb
  rw [State.r_w]
  split
  · next h =>
    obtain ⟨rfl, rfl⟩ := h
    have h1 : 2 ^ 1 ≤ 2 ^ f.info.width := Nat.pow_le_pow_right (by omega) f.width_pos
    have h2 : b2n b < 2 := by cases b <;> decide
    exact Nat.mod_eq_of_lt (by omega)
  · rfl

/-- A one-bit view of a field after a write of a bit. -/
@[simp] theorem State.rb_wb (s : State) (f g : Fld) (i j : Nat) (b : Bool) :
    (s.wb f i b).rb g j = if f = g ∧ i = j then b else s.rb g j := by
  unfold State.rb
  rw [State.r_wb]
  split
  · cases b <;> rfl
  · rfl

theorem State.rb_w (s : State) (f g : Fld) (i j v : Nat) :
    (s.w f i v).rb g j = if f = g ∧ i = j then v % 2 ^ g.info.width != 0 else s.rb g j := by
  unfold State.rb
  rw [State.r_w]
  split <;> rfl

/-- A counter that saturates counts up by one, or stays at its top. -/
theorem State.r_inc (s : State) (f : Fld) (i n : Nat) (h : f.openTop = false) (g : Fld) (j : Nat) :
    (s.inc f i n).r g j = if f = g ∧ i = j then min f.top (s.r f i + n) else s.r g j := by
  have ht : f.top < 2 ^ f.info.width := by unfold Fld.top; have := Nat.two_pow_pos f.info.width; omega
  unfold State.inc
  split
  · next hle =>
    rw [State.r_w]
    split
    · next hg => obtain ⟨rfl, rfl⟩ := hg; rw [Nat.mod_eq_of_lt (by omega)]; omega
    · rfl
  · next hle =>
    simp only [h, Bool.false_eq_true, if_false]
    rw [State.r_w]
    split
    · next hg => obtain ⟨rfl, rfl⟩ := hg; rw [Nat.mod_eq_of_lt ht]; omega
    · rfl

/-- A counter of another field leaves a field alone. -/
theorem State.r_inc_other (s : State) (f : Fld) (i n : Nat) {g : Fld} (j : Nat) (h : f ≠ g) : (s.inc f i n).r g j = s.r g j := by
  unfold State.inc
  split
  · rw [State.r_w, if_neg (fun k => h k.1)]
  · split
    · rw [State.r_w, if_neg (fun k => h k.1)]; rfl
    · rw [State.r_w, if_neg (fun k => h k.1)]

/-- Two states with one register file read alike. -/
theorem State.r_congr {s t : State} (h : t.regs = s.regs) (f : Fld) (i : Nat) : t.r f i = s.r f i := by
  unfold State.r; rw [h]

/-! Events. -/

/-- The registers that count events sent and lost. -/
@[simp] def Fld.tells (f : Fld) : Bool := f = .Q_PROD_IDX || f = .SOOT_CNT_LOST || f = .HOST_CNT_EV_LOST

/-- What raising events may change: the soot queue, held events, the event rings with their producer index and vectors, and the packet
last sent. -/
structure Told (s t : State) : Prop where
  rest : t = { s with regs := t.regs, ctxs := t.ctxs, soot := t.soot, msix := t.msix, sent := t.sent }
  regs : ∀ g j, g.tells = false → t.r g j = s.r g j
  ctxs : ∀ c, ∃ events evNext evLost toSend ring,
    t.ctx c = { s.ctx c with events := events, evNext := evNext, evLost := evLost, toSend := toSend, ring := ring }

theorem Told.refl (s : State) : Told s s := ⟨rfl, fun _ _ _ => rfl, fun _ => ⟨_, _, _, _, _, rfl⟩⟩

theorem Told.trans {s t u : State} (h : Told s t) (k : Told t u) : Told s u := by
  refine ⟨?_, fun g j a => (k.regs g j a).trans (h.regs g j a), fun c => ?_⟩
  · rw [k.rest, h.rest]
  · obtain ⟨_, _, _, _, _, h1⟩ := h.ctxs c
    obtain ⟨_, _, _, _, _, h2⟩ := k.ctxs c
    exact ⟨_, _, _, _, _, by rw [h2, h1]⟩

/-- A context after an update of one context. -/
theorem State.ctx_updCtx (s : State) (c d : Nat) (f : Ctx → Ctx) :
    (s.updCtx c f).ctx d = if c = d then f (s.ctx c) else s.ctx d := Tbl.get_modify (α := Ctx) {} s.ctxs c d f

/-- An update of a context's events alone. -/
theorem Told.updCtx (s : State) (c : Nat) (f : Ctx → Ctx)
    (h : ∀ x : Ctx, ∃ events evNext evLost toSend ring,
      f x = { x with events := events, evNext := evNext, evLost := evLost, toSend := toSend, ring := ring }) :
    Told s (s.updCtx c f) := by
  refine ⟨rfl, fun _ _ _ => rfl, fun d => ?_⟩
  rw [State.ctx_updCtx]
  split
  · next hc => subst hc; exact h _
  · exact ⟨_, _, _, _, _, rfl⟩

theorem State.ctx_congr {s t : State} (h : t.ctxs = s.ctxs) (c : Nat) : t.ctx c = s.ctx c := by unfold State.ctx; rw [h]

theorem Told.w (s : State) (f : Fld) (i v : Nat) (h : f.tells = true) : Told s (s.w f i v) := by
  refine ⟨rfl, fun g j a => ?_, fun c => ⟨_, _, _, _, _, rfl⟩⟩
  exact s.r_w_other v (fun k => by obtain ⟨rfl, -⟩ := k; rw [h] at a; contradiction)

theorem Told.inc (s : State) (f : Fld) (i n : Nat) (h : f.tells = true) : Told s (s.inc f i n) := by
  have h0 : f.openTop = false := by
    unfold Fld.tells at h; unfold Fld.openTop
    simp only [Bool.or_eq_true, decide_eq_true_eq] at h
    rcases h with (h | h) | h <;> subst h <;> rfl
  unfold State.inc
  split
  · exact Told.w _ _ _ _ h
  · simp only [h0, Bool.false_eq_true, if_false]; exact Told.w _ _ _ _ h

theorem Told.msi (s : State) (e v : Nat) : Told s (s.msi e v) := ⟨rfl, fun _ _ _ => rfl, fun _ => ⟨_, _, _, _, _, rfl⟩⟩

theorem Told.sent (s : State) (k : Option Packet) : Told s { s with sent := k } :=
  ⟨rfl, fun _ _ _ => rfl, fun _ => ⟨_, _, _, _, _, rfl⟩⟩

theorem Told.pump (e : Nat) : ∀ (n : Nat) (s : State), Told s (s.pumpEvents e n)
  | 0, s => Told.refl s
  | n + 1, s => by
    unfold State.pumpEvents
    split
    · exact Told.refl s
    · split
      · exact Told.trans (Told.updCtx s e _ (by intro x; exact ⟨_, _, _, _, _, rfl⟩)) (Told.pump e n _)
      · split
        · refine Told.trans ?_ (Told.pump e n _)
          exact (((Told.w s .Q_PROD_IDX (e * 3 + 2) _ rfl).trans (Told.msi _ e _)).trans
            (Told.updCtx _ e _ (by intro x; exact ⟨_, _, _, _, _, rfl⟩))).trans (Told.sent _ _)
        · exact Told.refl s

theorem Told.deliver (s : State) (c : Nat) (e : Ev) (fc kind subj : Nat) (body : List Byte) :
    Told s (s.deliver c e fc kind subj body) := by
  unfold State.deliver
  simp only
  split
  · split
    · exact ((Told.updCtx s c _ (by intro x; exact ⟨_, _, _, _, _, rfl⟩)).trans
        (Told.updCtx _ c _ (by intro x; exact ⟨_, _, _, _, _, rfl⟩))).trans (Told.pump c 256 _)
    · split
      · exact Told.updCtx s c _ (by intro x; exact ⟨_, _, _, _, _, rfl⟩)
      · exact Told.trans (Told.updCtx s c _ (by intro x; exact ⟨_, _, _, _, _, rfl⟩)) (Told.sent _ _)
  · exact Told.trans (Told.updCtx s c _ (by intro x; exact ⟨_, _, _, _, _, rfl⟩)) (Told.inc _ _ _ _ rfl)

theorem Told.log (s : State) (code fc kind subj data : Nat) : Told s (s.log code fc kind subj data) := by
  unfold State.log
  split
  · exact ⟨rfl, fun _ _ _ => rfl, fun _ => ⟨_, _, _, _, _, rfl⟩⟩
  · refine Told.trans (t := { s with soot := { s.soot with lost := s.soot.lost + 1 } })
      ⟨rfl, fun _ _ _ => rfl, fun _ => ⟨_, _, _, _, _, rfl⟩⟩ ?_
    exact Told.inc _ _ _ _ rfl

theorem Told.foldl {α : Type} (f : State → α → State) (h : ∀ s a, Told s (f s a)) : ∀ (l : List α) (s : State), Told s (l.foldl f s)
  | [], s => Told.refl s
  | a :: l, s => Told.trans (h s a) (Told.foldl f h l (f s a))

/-- Raising an event changes nothing but what tells of it. -/
theorem Told.raise (s : State) (e : Ev) (fc kind subj : Nat) (body : List Byte) (data : Nat) :
    Told s (s.raise e fc kind subj body data) := by
  unfold State.raise
  simp only
  refine Told.trans (t := if e.logged = true then s.log e.code fc kind subj data else s) ?_ (Told.foldl _ (fun t c => ?_) _ _)
  · split
    · exact Told.log _ _ _ _ _ _
    · exact Told.refl s
  · split
    · exact Told.deliver _ _ _ _ _ _ _
    · exact Told.refl t

theorem Told.raiseTo (s : State) (c : Nat) (e : Ev) (kind subj : Nat) (body : List Byte) :
    Told s (s.raiseTo c e kind subj body) := by
  unfold State.raiseTo
  split
  · exact Told.deliver _ _ _ _ _ _ _
  · exact Told.refl s

/-! What raising an event leaves alone, field by field. -/

theorem Told.axes {s t : State} (h : Told s t) : t.axes = s.axes := (congrArg State.axes h.rest).trans rfl
@[simp] theorem State.raise_axes (s : State) (e : Ev) (fc kind subj : Nat) (b : List Byte) (d : Nat) : (s.raise e fc kind subj b d).axes = s.axes := (Told.raise ..).axes
theorem Told.pending {s t : State} (h : Told s t) : t.pending = s.pending := (congrArg State.pending h.rest).trans rfl
@[simp] theorem State.raise_pending (s : State) (e : Ev) (fc kind subj : Nat) (b : List Byte) (d : Nat) : (s.raise e fc kind subj b d).pending = s.pending := (Told.raise ..).pending
theorem Told.free {s t : State} (h : Told s t) : t.free = s.free := (congrArg State.free h.rest).trans rfl
@[simp] theorem State.raise_free (s : State) (e : Ev) (fc kind subj : Nat) (b : List Byte) (d : Nat) : (s.raise e fc kind subj b d).free = s.free := (Told.raise ..).free
theorem Told.clk {s t : State} (h : Told s t) : t.clk = s.clk := (congrArg State.clk h.rest).trans rfl
@[simp] theorem State.raise_clk (s : State) (e : Ev) (fc kind subj : Nat) (b : List Byte) (d : Nat) : (s.raise e fc kind subj b d).clk = s.clk := (Told.raise ..).clk
theorem Told.fuses {s t : State} (h : Told s t) : t.fuses = s.fuses := (congrArg State.fuses h.rest).trans rfl
@[simp] theorem State.raise_fuses (s : State) (e : Ev) (fc kind subj : Nat) (b : List Byte) (d : Nat) : (s.raise e fc kind subj b d).fuses = s.fuses := (Told.raise ..).fuses
theorem Told.recs {s t : State} (h : Told s t) : t.recs = s.recs := (congrArg State.recs h.rest).trans rfl
@[simp] theorem State.raise_recs (s : State) (e : Ev) (fc kind subj : Nat) (b : List Byte) (d : Nat) : (s.raise e fc kind subj b d).recs = s.recs := (Told.raise ..).recs
theorem Told.recsNext {s t : State} (h : Told s t) : t.recsNext = s.recsNext := (congrArg State.recsNext h.rest).trans rfl
@[simp] theorem State.raise_recsNext (s : State) (e : Ev) (fc kind subj : Nat) (b : List Byte) (d : Nat) : (s.raise e fc kind subj b d).recsNext = s.recsNext := (Told.raise ..).recsNext
theorem Told.regsFlash {s t : State} (h : Told s t) : t.regsFlash = s.regsFlash := (congrArg State.regsFlash h.rest).trans rfl
@[simp] theorem State.raise_regsFlash (s : State) (e : Ev) (fc kind subj : Nat) (b : List Byte) (d : Nat) : (s.raise e fc kind subj b d).regsFlash = s.regsFlash := (Told.raise ..).regsFlash
theorem Told.recsFlash {s t : State} (h : Told s t) : t.recsFlash = s.recsFlash := (congrArg State.recsFlash h.rest).trans rfl
@[simp] theorem State.raise_recsFlash (s : State) (e : Ev) (fc kind subj : Nat) (b : List Byte) (d : Nat) : (s.raise e fc kind subj b d).recsFlash = s.recsFlash := (Told.raise ..).recsFlash
theorem Told.readOut {s t : State} (h : Told s t) : t.readOut = s.readOut := (congrArg State.readOut h.rest).trans rfl
@[simp] theorem State.raise_readOut (s : State) (e : Ev) (fc kind subj : Nat) (b : List Byte) (d : Nat) : (s.raise e fc kind subj b d).readOut = s.readOut := (Told.raise ..).readOut
theorem Told.claims {s t : State} (h : Told s t) : t.claims = s.claims := (congrArg State.claims h.rest).trans rfl
@[simp] theorem State.raise_claims (s : State) (e : Ev) (fc kind subj : Nat) (b : List Byte) (d : Nat) : (s.raise e fc kind subj b d).claims = s.claims := (Told.raise ..).claims
theorem Told.cfgLease {s t : State} (h : Told s t) : t.cfgLease = s.cfgLease := (congrArg State.cfgLease h.rest).trans rfl
@[simp] theorem State.raise_cfgLease (s : State) (e : Ev) (fc kind subj : Nat) (b : List Byte) (d : Nat) : (s.raise e fc kind subj b d).cfgLease = s.cfgLease := (Told.raise ..).cfgLease
theorem Told.sspiReplies {s t : State} (h : Told s t) : t.sspiReplies = s.sspiReplies := (congrArg State.sspiReplies h.rest).trans rfl
@[simp] theorem State.raise_sspiReplies (s : State) (e : Ev) (fc kind subj : Nat) (b : List Byte) (d : Nat) : (s.raise e fc kind subj b d).sspiReplies = s.sspiReplies := (Told.raise ..).sspiReplies
theorem Told.sspiRx {s t : State} (h : Told s t) : t.sspiRx = s.sspiRx := (congrArg State.sspiRx h.rest).trans rfl
@[simp] theorem State.raise_sspiRx (s : State) (e : Ev) (fc kind subj : Nat) (b : List Byte) (d : Nat) : (s.raise e fc kind subj b d).sspiRx = s.sspiRx := (Told.raise ..).sspiRx
theorem Told.hmpRun {s t : State} (h : Told s t) : t.hmpRun = s.hmpRun := (congrArg State.hmpRun h.rest).trans rfl
@[simp] theorem State.raise_hmpRun (s : State) (e : Ev) (fc kind subj : Nat) (b : List Byte) (d : Nat) : (s.raise e fc kind subj b d).hmpRun = s.hmpRun := (Told.raise ..).hmpRun
theorem Told.replay {s t : State} (h : Told s t) : t.replay = s.replay := (congrArg State.replay h.rest).trans rfl
@[simp] theorem State.raise_replay (s : State) (e : Ev) (fc kind subj : Nat) (b : List Byte) (d : Nat) : (s.raise e fc kind subj b d).replay = s.replay := (Told.raise ..).replay
theorem Told.fwdOut {s t : State} (h : Told s t) : t.fwdOut = s.fwdOut := (congrArg State.fwdOut h.rest).trans rfl
@[simp] theorem State.raise_fwdOut (s : State) (e : Ev) (fc kind subj : Nat) (b : List Byte) (d : Nat) : (s.raise e fc kind subj b d).fwdOut = s.fwdOut := (Told.raise ..).fwdOut
theorem Told.head {s t : State} (h : Told s t) : t.head = s.head := (congrArg State.head h.rest).trans rfl
@[simp] theorem State.raise_head (s : State) (e : Ev) (fc kind subj : Nat) (b : List Byte) (d : Nat) : (s.raise e fc kind subj b d).head = s.head := (Told.raise ..).head
theorem Told.scheds {s t : State} (h : Told s t) : t.scheds = s.scheds := (congrArg State.scheds h.rest).trans rfl
@[simp] theorem State.raise_scheds (s : State) (e : Ev) (fc kind subj : Nat) (b : List Byte) (d : Nat) : (s.raise e fc kind subj b d).scheds = s.scheds := (Told.raise ..).scheds
theorem Told.hnodes {s t : State} (h : Told s t) : t.hnodes = s.hnodes := (congrArg State.hnodes h.rest).trans rfl
@[simp] theorem State.raise_hnodes (s : State) (e : Ev) (fc kind subj : Nat) (b : List Byte) (d : Nat) : (s.raise e fc kind subj b d).hnodes = s.hnodes := (Told.raise ..).hnodes
theorem Told.segIn {s t : State} (h : Told s t) : t.segIn = s.segIn := (congrArg State.segIn h.rest).trans rfl
@[simp] theorem State.raise_segIn (s : State) (e : Ev) (fc kind subj : Nat) (b : List Byte) (d : Nat) : (s.raise e fc kind subj b d).segIn = s.segIn := (Told.raise ..).segIn
theorem Told.cmds {s t : State} (h : Told s t) : t.cmds = s.cmds := (congrArg State.cmds h.rest).trans rfl
@[simp] theorem State.raise_cmds (s : State) (e : Ev) (fc kind subj : Nat) (b : List Byte) (d : Nat) : (s.raise e fc kind subj b d).cmds = s.cmds := (Told.raise ..).cmds
theorem Told.cores {s t : State} (h : Told s t) : t.cores = s.cores := (congrArg State.cores h.rest).trans rfl
@[simp] theorem State.raise_cores (s : State) (e : Ev) (fc kind subj : Nat) (b : List Byte) (d : Nat) : (s.raise e fc kind subj b d).cores = s.cores := (Told.raise ..).cores
theorem Told.sram {s t : State} (h : Told s t) : t.sram = s.sram := (congrArg State.sram h.rest).trans rfl
@[simp] theorem State.raise_sram (s : State) (e : Ev) (fc kind subj : Nat) (b : List Byte) (d : Nat) : (s.raise e fc kind subj b d).sram = s.sram := (Told.raise ..).sram
theorem Told.grates {s t : State} (h : Told s t) : t.grates = s.grates := (congrArg State.grates h.rest).trans rfl
@[simp] theorem State.raise_grates (s : State) (e : Ev) (fc kind subj : Nat) (b : List Byte) (d : Nat) : (s.raise e fc kind subj b d).grates = s.grates := (Told.raise ..).grates
theorem Told.descs {s t : State} (h : Told s t) : t.descs = s.descs := (congrArg State.descs h.rest).trans rfl
@[simp] theorem State.raise_descs (s : State) (e : Ev) (fc kind subj : Nat) (b : List Byte) (d : Nat) : (s.raise e fc kind subj b d).descs = s.descs := (Told.raise ..).descs
theorem Told.descsNext {s t : State} (h : Told s t) : t.descsNext = s.descsNext := (congrArg State.descsNext h.rest).trans rfl
@[simp] theorem State.raise_descsNext (s : State) (e : Ev) (fc kind subj : Nat) (b : List Byte) (d : Nat) : (s.raise e fc kind subj b d).descsNext = s.descsNext := (Told.raise ..).descsNext
theorem Told.reload {s t : State} (h : Told s t) : t.reload = s.reload := (congrArg State.reload h.rest).trans rfl
@[simp] theorem State.raise_reload (s : State) (e : Ev) (fc kind subj : Nat) (b : List Byte) (d : Nat) : (s.raise e fc kind subj b d).reload = s.reload := (Told.raise ..).reload
theorem Told.insts {s t : State} (h : Told s t) : t.insts = s.insts := (congrArg State.insts h.rest).trans rfl
@[simp] theorem State.raise_insts (s : State) (e : Ev) (fc kind subj : Nat) (b : List Byte) (d : Nat) : (s.raise e fc kind subj b d).insts = s.insts := (Told.raise ..).insts
theorem Told.fbs {s t : State} (h : Told s t) : t.fbs = s.fbs := (congrArg State.fbs h.rest).trans rfl
@[simp] theorem State.raise_fbs (s : State) (e : Ev) (fc kind subj : Nat) (b : List Byte) (d : Nat) : (s.raise e fc kind subj b d).fbs = s.fbs := (Told.raise ..).fbs
theorem Told.emus {s t : State} (h : Told s t) : t.emus = s.emus := (congrArg State.emus h.rest).trans rfl
@[simp] theorem State.raise_emus (s : State) (e : Ev) (fc kind subj : Nat) (b : List Byte) (d : Nat) : (s.raise e fc kind subj b d).emus = s.emus := (Told.raise ..).emus
theorem Told.servos {s t : State} (h : Told s t) : t.servos = s.servos := (congrArg State.servos h.rest).trans rfl
@[simp] theorem State.raise_servos (s : State) (e : Ev) (fc kind subj : Nat) (b : List Byte) (d : Nat) : (s.raise e fc kind subj b d).servos = s.servos := (Told.raise ..).servos
theorem Told.motions {s t : State} (h : Told s t) : t.motions = s.motions := (congrArg State.motions h.rest).trans rfl
@[simp] theorem State.raise_motions (s : State) (e : Ev) (fc kind subj : Nat) (b : List Byte) (d : Nat) : (s.raise e fc kind subj b d).motions = s.motions := (Told.raise ..).motions
theorem Told.steppers {s t : State} (h : Told s t) : t.steppers = s.steppers := (congrArg State.steppers h.rest).trans rfl
@[simp] theorem State.raise_steppers (s : State) (e : Ev) (fc kind subj : Nat) (b : List Byte) (d : Nat) : (s.raise e fc kind subj b d).steppers = s.steppers := (Told.raise ..).steppers
theorem Told.vms {s t : State} (h : Told s t) : t.vms = s.vms := (congrArg State.vms h.rest).trans rfl
@[simp] theorem State.raise_vms (s : State) (e : Ev) (fc kind subj : Nat) (b : List Byte) (d : Nat) : (s.raise e fc kind subj b d).vms = s.vms := (Told.raise ..).vms
theorem Told.groups {s t : State} (h : Told s t) : t.groups = s.groups := (congrArg State.groups h.rest).trans rfl
@[simp] theorem State.raise_groups (s : State) (e : Ev) (fc kind subj : Nat) (b : List Byte) (d : Nat) : (s.raise e fc kind subj b d).groups = s.groups := (Told.raise ..).groups
theorem Told.recBufs {s t : State} (h : Told s t) : t.recBufs = s.recBufs := (congrArg State.recBufs h.rest).trans rfl
@[simp] theorem State.raise_recBufs (s : State) (e : Ev) (fc kind subj : Nat) (b : List Byte) (d : Nat) : (s.raise e fc kind subj b d).recBufs = s.recBufs := (Told.raise ..).recBufs
theorem Told.convs {s t : State} (h : Told s t) : t.convs = s.convs := (congrArg State.convs h.rest).trans rfl
@[simp] theorem State.raise_convs (s : State) (e : Ev) (fc kind subj : Nat) (b : List Byte) (d : Nat) : (s.raise e fc kind subj b d).convs = s.convs := (Told.raise ..).convs
theorem Told.tbs {s t : State} (h : Told s t) : t.tbs = s.tbs := (congrArg State.tbs h.rest).trans rfl
@[simp] theorem State.raise_tbs (s : State) (e : Ev) (fc kind subj : Nat) (b : List Byte) (d : Nat) : (s.raise e fc kind subj b d).tbs = s.tbs := (Told.raise ..).tbs
theorem Told.tins {s t : State} (h : Told s t) : t.tins = s.tins := (congrArg State.tins h.rest).trans rfl
@[simp] theorem State.raise_tins (s : State) (e : Ev) (fc kind subj : Nat) (b : List Byte) (d : Nat) : (s.raise e fc kind subj b d).tins = s.tins := (Told.raise ..).tins
theorem Told.touts {s t : State} (h : Told s t) : t.touts = s.touts := (congrArg State.touts h.rest).trans rfl
@[simp] theorem State.raise_touts (s : State) (e : Ev) (fc kind subj : Nat) (b : List Byte) (d : Nat) : (s.raise e fc kind subj b d).touts = s.touts := (Told.raise ..).touts
theorem Told.ptps {s t : State} (h : Told s t) : t.ptps = s.ptps := (congrArg State.ptps h.rest).trans rfl
@[simp] theorem State.raise_ptps (s : State) (e : Ev) (fc kind subj : Nat) (b : List Byte) (d : Nat) : (s.raise e fc kind subj b d).ptps = s.ptps := (Told.raise ..).ptps
theorem Told.chans {s t : State} (h : Told s t) : t.chans = s.chans := (congrArg State.chans h.rest).trans rfl
@[simp] theorem State.raise_chans (s : State) (e : Ev) (fc kind subj : Nat) (b : List Byte) (d : Nat) : (s.raise e fc kind subj b d).chans = s.chans := (Told.raise ..).chans
theorem Told.twin {s t : State} (h : Told s t) : t.twin = s.twin := (congrArg State.twin h.rest).trans rfl
@[simp] theorem State.raise_twin (s : State) (e : Ev) (fc kind subj : Nat) (b : List Byte) (d : Nat) : (s.raise e fc kind subj b d).twin = s.twin := (Told.raise ..).twin
theorem Told.nodes {s t : State} (h : Told s t) : t.nodes = s.nodes := (congrArg State.nodes h.rest).trans rfl
@[simp] theorem State.raise_nodes (s : State) (e : Ev) (fc kind subj : Nat) (b : List Byte) (d : Nat) : (s.raise e fc kind subj b d).nodes = s.nodes := (Told.raise ..).nodes
theorem Told.safConns {s t : State} (h : Told s t) : t.safConns = s.safConns := (congrArg State.safConns h.rest).trans rfl
@[simp] theorem State.raise_safConns (s : State) (e : Ev) (fc kind subj : Nat) (b : List Byte) (d : Nat) : (s.raise e fc kind subj b d).safConns = s.safConns := (Told.raise ..).safConns
theorem Told.safSigs {s t : State} (h : Told s t) : t.safSigs = s.safSigs := (congrArg State.safSigs h.rest).trans rfl
@[simp] theorem State.raise_safSigs (s : State) (e : Ev) (fc kind subj : Nat) (b : List Byte) (d : Nat) : (s.raise e fc kind subj b d).safSigs = s.safSigs := (Told.raise ..).safSigs
theorem Told.power {s t : State} (h : Told s t) : t.power = s.power := (congrArg State.power h.rest).trans rfl
@[simp] theorem State.raise_power (s : State) (e : Ev) (fc kind subj : Nat) (b : List Byte) (d : Nat) : (s.raise e fc kind subj b d).power = s.power := (Told.raise ..).power
theorem Told.update {s t : State} (h : Told s t) : t.update = s.update := (congrArg State.update h.rest).trans rfl
@[simp] theorem State.raise_update (s : State) (e : Ev) (fc kind subj : Nat) (b : List Byte) (d : Nat) : (s.raise e fc kind subj b d).update = s.update := (Told.raise ..).update
theorem Told.fw {s t : State} (h : Told s t) : t.fw = s.fw := (congrArg State.fw h.rest).trans rfl
@[simp] theorem State.raise_fw (s : State) (e : Ev) (fc kind subj : Nat) (b : List Byte) (d : Nat) : (s.raise e fc kind subj b d).fw = s.fw := (Told.raise ..).fw

@[simp] theorem State.r_raise (s : State) (e : Ev) (fc kind subj : Nat) (b : List Byte) (d : Nat) (g : Fld) (j : Nat) (h : g.tells = false) :
    (s.raise e fc kind subj b d).r g j = s.r g j := (Told.raise ..).regs g j h

@[simp] theorem State.rb_raise (s : State) (e : Ev) (fc kind subj : Nat) (b : List Byte) (d : Nat) (g : Fld) (j : Nat) (h : g.tells = false) :
    (s.raise e fc kind subj b d).rb g j = s.rb g j := by unfold State.rb; rw [State.r_raise _ _ _ _ _ _ _ _ _ h]

end Sys2Proof.Machine
end

