-- ==== Sys2Proof/Laws/Host.lean ====
section
/-! SUPPORT. Sys2Proof/Laws/Host.lean: what becomes of a command packet that is carried out, said once for every opcode. -/

namespace Sys2Proof.Machine

/-- Taking a packet from its port touches the ring index or the packet counter of the port, and nothing of a context. -/
theorem State.take_some {s t : State} {p : Pkt} (h : s.take p = some t) :
    t.ctxs = s.ctxs ∧ t.replay = s.replay ∧ (∀ g j, g ≠ .Q_CONS_IDX → g ≠ .ETH_RX_COUNT → t.r g j = s.r g j) := by
  unfold State.take at h
  split at h
  · cases h
  · have hr : ∀ (f : Fld) (i v : Nat), f = .Q_CONS_IDX ∨ f = .ETH_RX_COUNT →
        ∀ g j, g ≠ .Q_CONS_IDX → g ≠ .ETH_RX_COUNT → (s.w f i v).r g j = s.r g j := by
      intro f i v hf g j h1 h2
      exact s.r_w_other v (fun k => by rcases hf with rfl | rfl <;> simp_all)
    split at h <;> try simp only at h
    · split at h
      · cases h; exact ⟨rfl, rfl, hr _ _ _ (.inl rfl)⟩
      · cases h
    · split at h
      · cases h; exact ⟨rfl, rfl, hr _ _ _ (.inl rfl)⟩
      · cases h
    · split at h
      · cases h
        refine ⟨?_, ?_, fun g j _ h2 => s.r_inc_other _ _ _ _ (Ne.symm h2)⟩ <;> (unfold State.inc; split <;> rfl)
      · cases h
    · split at h
      · cases h
        refine ⟨?_, ?_, fun g j _ h2 => s.r_inc_other _ _ _ _ (Ne.symm h2)⟩ <;> (unfold State.inc; split <;> rfl)
      · cases h
    · split at h
      · cases h; exact ⟨rfl, rfl, fun _ _ _ _ => rfl⟩
      · cases h
    · split at h
      · cases h; exact ⟨rfl, rfl, fun _ _ _ _ => rfl⟩
      · cases h

theorem State.twinPath_congr {s t : State} (h : ∀ j, t.r .TWIN_CFG_ENABLE j = s.r .TWIN_CFG_ENABLE j) (c : Nat) :
    t.twinPath c = s.twinPath c := by unfold State.twinPath State.rb; rw [h]

/-- A request whose every question is answered well is not refused. -/
theorem State.judge_none {u : State} {op c : Nat} {p : Pkt} {q : Req} (hk : q.known = true) (hg : u.grants c op q.right)
    (hl : q.plen = true) (hn : u.needFails c q.need = none) (hf : q.fwd = true → u.open_ p)
    (hc : ∀ k ∈ q.checks, k.1 = true) : u.judge op p c q = none := by
  have hff : ∀ l : List (Bool × Status), (∀ k ∈ l, k.1 = true) → firstFailure l = none := by
    intro l
    induction l with
    | nil => intro _; rfl
    | cons k l ih =>
      intro h
      obtain ⟨a, b⟩ := k
      have ha : a = true := h (a, b) (List.mem_cons_self ..)
      simp only [firstFailure, ha, if_true]
      exact ih (fun k hk => h k (List.mem_cons_of_mem _ hk))
  have h1 := hff _ hc
  have h2 : firstFailure (q.checks.filter (fun k => k.2 == .badParam)) = none :=
    hff _ (fun k hk => hc k (List.mem_filter.mp hk).1)
  have h3 : (u.recovering && !recoveryOpcode op) = false := by
    cases hr : u.recovering
    · rfl
    · simp [hg.1 hr]
  have h5 : (q.fwd && u.standbyBound && decide (p.port ≠ .flue)) = false := by
    cases hq : q.fwd
    · rfl
    · rcases hf hq with h | h <;> simp [h]
  unfold State.judge
  have h4 := hg.2
  cases hq : q.right with
  | none => simp only [h3, hk, hl, hn, h2, h5, h1, Bool.false_eq_true, if_false, Bool.not_true, Option.map_none]
  | some b =>
    rw [hq] at h4
    have h6 : (u.twinPath c || bit (u.ctx c).rights b) = true := by simpa using h4
    simp only [h3, hk, hl, hn, h2, h5, h1, h6, Bool.false_eq_true, if_false, Bool.not_true, Option.map_none]

/-- A command packet that is carried out does what `carryOut` says in the state it finds. -/
theorem hostCmd_carries {s u : State} {p : Pkt} {op c : Nat} {q : Req} {eff : State → State × List Byte}
    (h : Carries s p q.fwd q.saf u c) (hop : op ≠ 4) : hostCmd op p s q eff = u.carryOut op p c q eff := by
  have begins : ∀ v : State, v.ready q.fwd q.saf → v.begin op p c q eff = v.carryOut op p c q eff := by
    intro v hv
    unfold State.begin
    have h1 : (q.fwd && v.forwards) = false := by
      cases hq : q.fwd
      · rfl
      · simp [hv.1 hq]
    have h2 : (q.saf && decide (v.r .SAF_STAT_STATE = 0)) = false := by
      cases hq : q.saf
      · rfl
      · simp [hv.2 hq]
    simp only [h1, Bool.false_eq_true, if_false]
    split
    · next hs => rw [h2] at hs; contradiction
    · rfl
  unfold hostCmd
  rcases h with ⟨ha, rfl, rfl, hr⟩ | ⟨h0, hp, ht, rfl⟩ | ⟨h1, rfl, rfl, hr⟩ | ⟨h2, rfl, rfl⟩
  · obtain ⟨t, ht⟩ := Option.isSome_iff_exists.mp ha.taken
    obtain ⟨hc, -, hreg⟩ := State.take_some ht
    have hctx : ∀ d, t.ctx d = s.ctx d := fun d => State.ctx_congr hc d
    have htw : t.twinPath p.ctx = s.twinPath p.ctx := State.twinPath_congr (fun j => hreg _ j (by decide) (by decide)) _
    have hseq : t.seqBehind p.ctx p.seq = 0 := by unfold State.seqBehind; rw [hctx]; exact ha.expected
    have hent : s.entered p = t.accept p p.ctx := by unfold State.entered; rw [ht]; rfl
    rw [if_neg (by rw [ha.direct.1]; decide), if_neg (by rw [ha.direct.1]; decide), ht]
    simp only [if_neg ha.direct.2, htw, hctx, ha.serves.1, ha.serves.2, ha.session.1, ha.session.2, hop, hseq, if_true, if_false,
      Bool.not_true, Bool.not_false, Bool.and_true, beq_self_eq_true, Bool.false_eq_true]
    unfold State.expected
    simp only [hctx, ha.free, Bool.false_eq_true, if_false]
    rw [← hent]
    exact begins _ hr
  · rw [if_neg (by rw [h0]; decide), if_neg (by rw [h0]; decide), ht]
    simp only [hp, if_true]
  · rw [if_neg (by rw [h1]; decide), if_pos h1]
    exact begins _ hr
  · rw [if_pos h2]

/-- A command packet that is carried out and asks nothing in vain has its effect and is answered OK. -/
theorem hostCmd_ok {s u : State} {p : Pkt} {op c : Nat} {q : Req} {eff : State → State × List Byte}
    (h : Carries s p q.fwd q.saf u c) (hop : op ≠ 4) (hj : u.judge op p c q = none) (hd : q.deferred = false) :
    hostCmd op p s q eff = q.after ((eff u).1.answer p c op .ok (eff u).2) := by
  rw [hostCmd_carries h hop]
  unfold State.carryOut
  simp only [hj, hd, Bool.false_eq_true, if_false]

end Sys2Proof.Machine
end

