-- ==== Sys2Proof/Laws/Loop.lean ====
section
/-! SUPPORT. Sys2Proof/Laws/Loop.lean: what a loop core's instruction words name, and what becomes of an instruction that a core issues, said once
for every instruction. -/

namespace Sys2Proof.Machine

theorem LoopOp.code_bounds (o : LoopOp) (imm : Bool) (hi : imm = true → o.hasImm = true) :
    o.format imm < 16 ∧ (o.code.2 + 1) * 2 ^ opLow (o.format imm) ≤ 2 ^ 28 := by
  cases imm
  · cases o <;> decide
  · have h := hi rfl
    cases o <;> first | contradiction | decide

/-- The parts of an instruction word. -/
theorem LoopOp.word_parts {n : Nat} (o : LoopOp) (imm : Bool) (w : BitVec n) (hi : imm = true → o.hasImm = true)
    (hn : n = opLow (o.format imm)) :
    (o.word imm w).toNat / 2 ^ 28 = o.format imm ∧ (o.word imm w).toNat % 2 ^ 28 / 2 ^ n = o.code.2 ∧
      (o.word imm w).toNat % 2 ^ n = w.toNat := by
  obtain ⟨h1, h2⟩ := o.code_bounds imm hi
  rw [← hn] at h2
  have hw := w.isLt
  have h3 : o.code.2 * 2 ^ n + w.toNat < 2 ^ 28 := by
    have : (o.code.2 + 1) * 2 ^ n = o.code.2 * 2 ^ n + 2 ^ n := by rw [Nat.add_mul, Nat.one_mul]
    omega
  have h4 : (o.word imm w).toNat = o.format imm * 2 ^ 28 + (o.code.2 * 2 ^ n + w.toNat) := by
    unfold LoopOp.word
    rw [BitVec.toNat_ofNat, Nat.add_assoc]
    exact Nat.mod_eq_of_lt (by omega)
  have h5 : (o.word imm w).toNat / 2 ^ 28 = o.format imm := by omega
  have h6 : (o.word imm w).toNat % 2 ^ 28 = o.code.2 * 2 ^ n + w.toNat := by omega
  have hd : 2 ^ n ∣ 2 ^ 28 := Nat.pow_dvd_pow 2 (by rw [hn]; unfold opLow; split <;> omega)
  refine ⟨h5, ?_, ?_⟩
  · rw [h6, Nat.mul_comm, Nat.mul_add_div (Nat.two_pow_pos n), Nat.div_eq_of_lt hw, Nat.add_zero]
  · rw [← Nat.mod_mod_of_dvd _ hd, h6, Nat.mul_comm, Nat.mul_add_mod, Nat.mod_eq_of_lt hw]

/-- The word of an instruction names it. -/
theorem LoopOp.ofWord_word {n : Nat} (o : LoopOp) (imm : Bool) (w : BitVec n) (hi : imm = true → o.hasImm = true)
    (hn : n = opLow (o.format imm)) : LoopOp.ofWord (o.word imm w) = some (o, imm) := by
  obtain ⟨h1, h2, -⟩ := o.word_parts imm w hi hn
  unfold LoopOp.ofWord
  simp only
  rw [h1, ← hn, h2]
  clear h1 h2 hn w
  cases imm
  · cases o <;> rfl
  · have h := hi rfl
    cases o <;> first | contradiction | rfl

/-- What becomes of an instruction that a core issues: its body's effect, or its trap. -/
theorem State.issue_body {s : State} {k : Issue} {w : W32} {ws : List W32} {touch : List Nat} {mem slotOk legal : Bool} {body : Body}
    (h : Fetches s k (w :: ws) mem) (hn : (LoopOp.ofWord w).isSome = true) (hl : legal = true)
    (hs : slotOk = true ∨ (s.core k.core.val).slots = 0) :
    s.issue k (w :: ws) touch mem slotOk legal body =
      match body (s.noted k) (s.seen k touch) (s.seen k touch).fresh with
      | .error t => (s.noted k).trap k.core.val (s.core k.core.val).pc t
      | .ok (t, y) => t.updCore k.core.val (fun _ =>
          ((s.seen k touch).closeIssue y).advance (s.seen k touch).pc (s.seen k touch).slots (w :: ws).length) := by
  have hh := h.holds
  have hw : (s.core k.core.val).word (s.core k.core.val).pc = w := by
    simp only [Core.holds, Bool.and_eq_true, beq_iff_eq] at hh; exact hh.1
  have hslot : (!slotOk && (s.core k.core.val).slots != 0) = false := by
    rcases hs with h | h <;> simp [h]
  have hd : ¬(k.ecc = .dataError ∧ mem = true) := fun ⟨a, b⟩ => h.clean.2 b a
  unfold State.issue State.seen State.noted
  simp only [h.runs, hw, hn, hl, h.holds, hslot, h.clean.1, hd, Bool.not_true, Bool.and_true, Bool.and_false, Bool.false_eq_true,
    if_false, ne_eq, not_false_eq_true, decide_true]
  all_goals rfl

/-- Where an instruction may not stand in a delay slot, it traps SLOT there. -/
theorem State.issue_slot {s : State} {k : Issue} {w : W32} {ws : List W32} {touch : List Nat} {mem legal : Bool} {body : Body}
    (h : Fetches s k (w :: ws) mem) (hn : (LoopOp.ofWord w).isSome = true) (hl : legal = true)
    (hs : (s.core k.core.val).slots ≠ 0) :
    s.issue k (w :: ws) touch mem false legal body = (s.noted k).trap k.core.val (s.core k.core.val).pc .slot := by
  have hh := h.holds
  have hw : (s.core k.core.val).word (s.core k.core.val).pc = w := by
    simp only [Core.holds, Bool.and_eq_true, beq_iff_eq] at hh; exact hh.1
  unfold State.issue State.noted
  simp [h.runs, hw, hn, hl, h.holds, hs, h.clean.1]

/-- An instruction on registers alone leaves what its function makes of the core it sees. -/
theorem State.issue_reg {s : State} {k : Issue} {w : W32} {ws : List W32} {touch : List Nat} {slotOk legal : Bool}
    {f : Core → Core → Core} (h : Fetches s k (w :: ws) false) (hn : (LoopOp.ofWord w).isSome = true) (hl : legal = true)
    (hs : slotOk = true ∨ (s.core k.core.val).slots = 0) :
    s.issue k (w :: ws) touch false slotOk legal (regBody f) =
      s.retired k touch (w :: ws).length (f (s.seen k touch) (s.seen k touch).fresh) := by
  rw [State.issue_body h hn hl hs]
  rfl

end Sys2Proof.Machine
end

