-- ==== Sys2Proof/Laws/PerInstr.lean ====
section
/-! SUPPORT. Sys2Proof/Laws/PerInstr.lean: what is said of every constructor of Instr, one lemma for each: the length of the words it issues. -/

namespace Sys2Proof.Laws.Words

/-- The instruction that a command issues on a loop core, where it issues one, has one word or two (R115). -/
def Statement (i : Instr) : Prop := ∀ ws, encodeLoop i = some ws → 0 < ws.length ∧ ws.length ≤ 2

/-- A command that issues no instruction. -/
theorem of_none {i : Instr} (h : encodeLoop i = none) : Statement i := fun _ e => by rw [h] at e; contradiction

/-- A command that issues one word. -/
theorem of_one {i : Instr} {w : W32} (h : encodeLoop i = some [w]) : Statement i := fun ws e => by
  rw [h] at e; cases e; simp

/-- A command that issues two words. -/
theorem of_two {i : Instr} {w v : W32} (h : encodeLoop i = some [w, v]) : Statement i := fun ws e => by
  rw [h] at e; cases e; simp

theorem tick : Statement (.tick) := of_none rfl
theorem segmentDeparture (index : Nat) : Statement (.segmentDeparture index) := of_none rfl
theorem slotCutoff (die : Fin 4) (desc : Fin 4096) : Statement (.slotCutoff die desc) := of_none rfl
theorem taskCommit (core : Fin 64) (std : Bool) : Statement (.taskCommit core std) := of_none rfl
theorem frameReturn (port : Fin 2) (h : FrameHdr) (arrival : Nat) : Statement (.frameReturn port h arrival) := of_none rfl
theorem segmentArrival (port : Fin 2) (c : SegCopy) : Statement (.segmentArrival port c) := of_none rfl
theorem mailboxMessageRx (addr : Fin 255) : Statement (.mailboxMessageRx addr) := of_none rfl
theorem identTimeout (addr : Fin 255) : Statement (.identTimeout addr) := of_none rfl
theorem deltaTimeout (addr : Fin 255) : Statement (.deltaTimeout addr) := of_none rfl
theorem delayPoll (addr : Fin 255) : Statement (.delayPoll addr) := of_none rfl
theorem nodeGone (addr : Fin 255) : Statement (.nodeGone addr) := of_none rfl
theorem keeperReadmit (addr : Fin 255) : Statement (.keeperReadmit addr) := of_none rfl
theorem inputLagEnd : Statement (.inputLagEnd) := of_none rfl
theorem portLinkDown (port : Fin 2) (hiBer : Bool) : Statement (.portLinkDown port hiBer) := of_none rfl
theorem portLinkUp (port : Fin 2) : Statement (.portLinkUp port) := of_none rfl
theorem listenTimeout : Statement (.listenTimeout) := of_none rfl
theorem kindlingFrameRx (port : Fin 2) (h : FrameHdr) (rank : HeadRank) : Statement (.kindlingFrameRx port h rank) := of_none rfl
theorem kindlingTick : Statement (.kindlingTick) := of_none rfl
theorem kindleComplete (topo : Fin 3) : Statement (.kindleComplete topo) := of_none rfl
theorem noPartnerTimeout : Statement (.noPartnerTimeout) := of_none rfl
theorem rollCallComplete : Statement (.rollCallComplete) := of_none rfl
theorem switchDecision : Statement (.switchDecision) := of_none rfl
theorem switchTick : Statement (.switchTick) := of_none rfl
theorem nodeFrameRx (node : Nat) (port : Fin 2) (c : NodeCopy) : Statement (.nodeFrameRx node port c) := of_none rfl
theorem nodeKindlingAccept (node : Nat) (cycle : Nat) (prio : Nat) (serial : Nat) : Statement (.nodeKindlingAccept node cycle prio serial) := of_none rfl
theorem nodeLoopBack (node : Nat) (port : Fin 2) : Statement (.nodeLoopBack node port) := of_none rfl
theorem nodeLoopEnd (node : Nat) (port : Fin 2) : Statement (.nodeLoopEnd node port) := of_none rfl
theorem nodeTinSample (node : Nat) (cycle : Nat) (inputs : List (Nat × List Byte)) (safe : List (Nat × List Byte)) : Statement (.nodeTinSample node cycle inputs safe) := of_none rfl
theorem nodeToutLatch (node : Nat) (cycle : Nat) : Statement (.nodeToutLatch node cycle) := of_none rfl
theorem nodeTransition (node : Nat) (block : Fin 4) (second : Bool) : Statement (.nodeTransition node block second) := of_none rfl
theorem nodeEmptyHoldEnd (node : Nat) (ty : Nat) (index : Nat) (limit : Bool) : Statement (.nodeEmptyHoldEnd node ty index limit) := of_none rfl
theorem nodeFrameTimeout (node : Nat) : Statement (.nodeFrameTimeout node) := of_none rfl
theorem nodeDesatDetect (node : Nat) (block : Fin 4) (leg : Fin 3) (after : W16) : Statement (.nodeDesatDetect node block leg after) := of_none rfl
theorem nodeGateUndervolt (node : Nat) (block : Fin 4) (leg : Fin 3) : Statement (.nodeGateUndervolt node block leg) := of_none rfl
theorem identReq (node : Nat) : Statement (.identReq node) := of_none rfl
theorem preload (node : Nat) : Statement (.preload node) := of_none rfl
theorem unload (node : Nat) : Statement (.unload node) := of_none rfl
theorem emptyCfg (node : Nat) : Statement (.emptyCfg node) := of_none rfl
theorem delay (node : Nat) : Statement (.delay node) := of_none rfl
theorem pdelaySet (node : Nat) : Statement (.pdelaySet node) := of_none rfl
theorem counters (node : Nat) : Statement (.counters node) := of_none rfl
theorem mailboxRelease (node : Nat) : Statement (.mailboxRelease node) := of_none rfl
theorem unknownService (node : Nat) : Statement (.unknownService node) := of_none rfl
theorem nodeSafeContainerRx (node : Nat) (place : Nat) (b : List Byte) : Statement (.nodeSafeContainerRx node place b) := of_none rfl
theorem nodeSafeWatchdog (node : Nat) (place : Nat) : Statement (.nodeSafeWatchdog node place) := of_none rfl
theorem taskDispatch (core : Fin 64) : Statement (.taskDispatch core) := of_none rfl
theorem delayDue (die : Fin 4) : Statement (.delayDue die) := of_none rfl
theorem taskPost (core : Fin 64) (desc : Fin 4096) : Statement (.taskPost core desc) := of_none rfl
theorem stateMove (die : Fin 4) : Statement (.stateMove die) := of_none rfl
theorem traceDrain (die : Fin 4) : Statement (.traceDrain die) := of_none rfl
theorem sharedLoadComplete (core : Fin 64) : Statement (.sharedLoadComplete core) := of_none rfl
theorem unitResult (core : Fin 64) : Statement (.unitResult core) := of_none rfl
theorem haltReq (core : Fin 64) : Statement (.haltReq core) := of_none rfl
theorem halt (core : Fin 64) : Statement (.halt core) := of_none rfl
theorem resume (core : Fin 64) : Statement (.resume core) := of_none rfl
theorem add (k : Issue) (imm : Bool) (w : BitVec 22) : Statement (.add k imm w) := of_one rfl
theorem sub (k : Issue) (w : BitVec 22) : Statement (.sub k w) := of_one rfl
theorem adds (k : Issue) (imm : Bool) (w : BitVec 22) : Statement (.adds k imm w) := of_one rfl
theorem subs (k : Issue) (w : BitVec 22) : Statement (.subs k w) := of_one rfl
theorem and (k : Issue) (imm : Bool) (w : BitVec 22) : Statement (.and k imm w) := of_one rfl
theorem or (k : Issue) (imm : Bool) (w : BitVec 22) : Statement (.or k imm w) := of_one rfl
theorem xor (k : Issue) (imm : Bool) (w : BitVec 22) : Statement (.xor k imm w) := of_one rfl
theorem shl (k : Issue) (imm : Bool) (w : BitVec 22) : Statement (.shl k imm w) := of_one rfl
theorem shr (k : Issue) (imm : Bool) (w : BitVec 22) : Statement (.shr k imm w) := of_one rfl
theorem shra (k : Issue) (imm : Bool) (w : BitVec 22) : Statement (.shra k imm w) := of_one rfl
theorem shls (k : Issue) (imm : Bool) (w : BitVec 22) : Statement (.shls k imm w) := of_one rfl
theorem min (k : Issue) (w : BitVec 22) : Statement (.min k w) := of_one rfl
theorem max (k : Issue) (w : BitVec 22) : Statement (.max k w) := of_one rfl
theorem abs (k : Issue) (w : BitVec 22) : Statement (.abs k w) := of_one rfl
theorem neg (k : Issue) (w : BitVec 22) : Statement (.neg k w) := of_one rfl
theorem cls (k : Issue) (w : BitVec 22) : Statement (.cls k w) := of_one rfl
theorem slt (k : Issue) (imm : Bool) (w : BitVec 22) : Statement (.slt k imm w) := of_one rfl
theorem sltu (k : Issue) (imm : Bool) (w : BitVec 22) : Statement (.sltu k imm w) := of_one rfl
theorem mul (k : Issue) (w : BitVec 22) : Statement (.mul k w) := of_one rfl
theorem mulf (k : Issue) (w : BitVec 22) : Statement (.mulf k w) := of_one rfl
theorem mulhu (k : Issue) (w : BitVec 22) : Statement (.mulhu k w) := of_one rfl
theorem ldw (k : Issue) (w : BitVec 24) : Statement (.ldw k w) := of_one rfl
theorem ldh (k : Issue) (w : BitVec 24) : Statement (.ldh k w) := of_one rfl
theorem ldhu (k : Issue) (w : BitVec 24) : Statement (.ldhu k w) := of_one rfl
theorem ldb (k : Issue) (w : BitVec 24) : Statement (.ldb k w) := of_one rfl
theorem ldbu (k : Issue) (w : BitVec 24) : Statement (.ldbu k w) := of_one rfl
theorem stw (k : Issue) (w : BitVec 24) : Statement (.stw k w) := of_one rfl
theorem sth (k : Issue) (w : BitVec 24) : Statement (.sth k w) := of_one rfl
theorem stb (k : Issue) (w : BitVec 24) : Statement (.stb k w) := of_one rfl
theorem ld2 (k : Issue) (w : BitVec 24) : Statement (.ld2 k w) := of_one rfl
theorem st2 (k : Issue) (w : BitVec 24) : Statement (.st2 k w) := of_one rfl
theorem mac2 (k : Issue) (w : BitVec 25) : Statement (.mac2 k w) := of_one rfl
theorem msu2 (k : Issue) (w : BitVec 25) : Statement (.msu2 k w) := of_one rfl
theorem mpy2 (k : Issue) (w : BitVec 25) : Statement (.mpy2 k w) := of_one rfl
theorem macx2 (k : Issue) (w : BitVec 25) : Statement (.macx2 k w) := of_one rfl
theorem ldp2 (k : Issue) (w : BitVec 25) : Statement (.ldp2 k w) := of_one rfl
theorem mac (k : Issue) (w : BitVec 22) : Statement (.mac k w) := of_one rfl
theorem msu (k : Issue) (w : BitVec 22) : Statement (.msu k w) := of_one rfl
theorem mpy (k : Issue) (w : BitVec 22) : Statement (.mpy k w) := of_one rfl
theorem addac (k : Issue) (w : BitVec 22) : Statement (.addac k w) := of_one rfl
theorem subac (k : Issue) (w : BitVec 22) : Statement (.subac k w) := of_one rfl
theorem clrac (k : Issue) (w : BitVec 22) : Statement (.clrac k w) := of_one rfl
theorem negac (k : Issue) (w : BitVec 22) : Statement (.negac k w) := of_one rfl
theorem absac (k : Issue) (w : BitVec 22) : Statement (.absac k w) := of_one rfl
theorem shac (k : Issue) (w : BitVec 22) : Statement (.shac k w) := of_one rfl
theorem mvac (k : Issue) (w : BitVec 22) : Statement (.mvac k w) := of_one rfl
theorem mvda (k : Issue) (w : BitVec 22) : Statement (.mvda k w) := of_one rfl
theorem mvacl (k : Issue) (w : BitVec 22) : Statement (.mvacl k w) := of_one rfl
theorem mvacm (k : Issue) (w : BitVec 22) : Statement (.mvacm k w) := of_one rfl
theorem mvach (k : Issue) (w : BitVec 22) : Statement (.mvach k w) := of_one rfl
theorem br (k : Issue) (w : BitVec 24) : Statement (.br k w) := of_one rfl
theorem call (k : Issue) (w : BitVec 24) : Statement (.call k w) := of_one rfl
theorem beqz (k : Issue) (w : BitVec 24) : Statement (.beqz k w) := of_one rfl
theorem bnez (k : Issue) (w : BitVec 24) : Statement (.bnez k w) := of_one rfl
theorem bltz (k : Issue) (w : BitVec 24) : Statement (.bltz k w) := of_one rfl
theorem bgez (k : Issue) (w : BitVec 24) : Statement (.bgez k w) := of_one rfl
theorem bgtz (k : Issue) (w : BitVec 24) : Statement (.bgtz k w) := of_one rfl
theorem blez (k : Issue) (w : BitVec 24) : Statement (.blez k w) := of_one rfl
theorem bfs (k : Issue) (w : BitVec 24) : Statement (.bfs k w) := of_one rfl
theorem bfc (k : Issue) (w : BitVec 24) : Statement (.bfc k w) := of_one rfl
theorem jr (k : Issue) (w : BitVec 24) : Statement (.jr k w) := of_one rfl
theorem ret (k : Issue) (w : BitVec 24) : Statement (.ret k w) := of_one rfl
theorem repi (k : Issue) (w : BitVec 26) : Statement (.repi k w) := of_one rfl
theorem repr (k : Issue) (w : BitVec 26) : Statement (.repr k w) := of_one rfl
theorem hysb (k : Issue) (w : BitVec 22) : Statement (.hysb k w) := of_one rfl
theorem hysv (k : Issue) (w : BitVec 22) : Statement (.hysv k w) := of_one rfl
theorem hyst (k : Issue) (w : BitVec 22) : Statement (.hyst k w) := of_one rfl
theorem csc (k : Issue) (w : BitVec 22) : Statement (.csc k w) := of_one rfl
theorem crot (k : Issue) (w : BitVec 22) : Statement (.crot k w) := of_one rfl
theorem cvec (k : Issue) (w : BitVec 22) : Statement (.cvec k w) := of_one rfl
theorem mova (k : Issue) (w : BitVec 22) : Statement (.mova k w) := of_one rfl
theorem movda (k : Issue) (w : BitVec 22) : Statement (.movda k w) := of_one rfl
theorem movm (k : Issue) (w : BitVec 22) : Statement (.movm k w) := of_one rfl
theorem movdm (k : Issue) (w : BitVec 22) : Statement (.movdm k w) := of_one rfl
theorem adda (k : Issue) (w : BitVec 22) : Statement (.adda k w) := of_one rfl
theorem movc (k : Issue) (w : BitVec 22) : Statement (.movc k w) := of_one rfl
theorem movtc (k : Issue) (w : BitVec 22) : Statement (.movtc k w) := of_one rfl
theorem movde (k : Issue) (w : BitVec 22) : Statement (.movde k w) := of_one rfl
theorem moved (k : Issue) (w : BitVec 22) : Statement (.moved k w) := of_one rfl
theorem eset (k : Issue) (w : BitVec 22) : Statement (.eset k w) := of_one rfl
theorem erh (k : Issue) (w : BitVec 22) : Statement (.erh k w) := of_one rfl
theorem ehead (k : Issue) (w : BitVec 22) : Statement (.ehead k w) := of_one rfl
theorem efix (k : Issue) (w : BitVec 22) : Statement (.efix k w) := of_one rfl
theorem eadd (k : Issue) (w : BitVec 22) : Statement (.eadd k w) := of_one rfl
theorem esub (k : Issue) (w : BitVec 22) : Statement (.esub k w) := of_one rfl
theorem shle (k : Issue) (w : BitVec 22) : Statement (.shle k w) := of_one rfl
theorem mvace (k : Issue) (w : BitVec 22) : Statement (.mvace k w) := of_one rfl
theorem ldi (k : Issue) (w : BitVec 22) (imm32 : W32) : Statement (.ldi k w imm32) := of_two rfl
theorem ldia (k : Issue) (w : BitVec 22) (imm32 : W32) : Statement (.ldia k w imm32) := of_two rfl
theorem ldim (k : Issue) (w : BitVec 22) (imm32 : W32) : Statement (.ldim k w imm32) := of_two rfl
theorem nop (k : Issue) (w : BitVec 22) : Statement (.nop k w) := of_one rfl
theorem tend (k : Issue) (w : BitVec 22) : Statement (.tend k w) := of_one rfl
theorem brk (k : Issue) (w : BitVec 22) : Statement (.brk k w) := of_one rfl
theorem torqueBandUpdate (axis : Fin 128) : Statement (.torqueBandUpdate axis) := of_none rfl
theorem alignEnd (axis : Fin 128) : Statement (.alignEnd axis) := of_none rfl
theorem pinTrgEdge (pin : Fin 4) (falling : Bool) (fine : Fin 50) : Statement (.pinTrgEdge pin falling fine) := of_none rfl
theorem intervalEnd (record : Fin 32) : Statement (.intervalEnd record) := of_none rfl
theorem adcStart (conv : Fin 2) (falling : Bool) (fine : Fin 50) : Statement (.adcStart conv falling fine) := of_none rfl
theorem adcConversionDone (conv : Fin 2) (raw : W16) : Statement (.adcConversionDone conv raw) := of_none rfl
theorem refOutOfBand (conv : Fin 2) : Statement (.refOutOfBand conv) := of_none rfl
theorem refSettled (conv : Fin 2) : Statement (.refSettled conv) := of_none rfl
theorem tinCapture (pin : Fin 8) (falling : Bool) : Statement (.tinCapture pin falling) := of_none rfl
theorem bellowsHoldover (tb : Fin 4) : Statement (.bellowsHoldover tb) := of_none rfl
theorem toutPulseStart (pin : Fin 8) : Statement (.toutPulseStart pin) := of_none rfl
theorem toutPulseEnd (pin : Fin 8) : Statement (.toutPulseEnd pin) := of_none rfl
theorem ptpFrameRx (port : Fin 2) (frame : List Byte) : Statement (.ptpFrameRx port frame) := of_none rfl
theorem ptpEgress (port : Fin 2) : Statement (.ptpEgress port) := of_none rfl
theorem ptpTxTimeout (port : Fin 2) : Statement (.ptpTxTimeout port) := of_none rfl
theorem tbNowRead (ctx : Fin 8) (tb : Fin 4) (word : Fin 3) : Statement (.tbNowRead ctx tb word) := of_none rfl
theorem recTlastRead (record : Fin 32) (word : Fin 3) : Statement (.recTlastRead record word) := of_none rfl
theorem rcRead (endpoint : Fin 2) (bar : Bar) (offset : Nat) : Statement (.rcRead endpoint bar offset) := of_none rfl
theorem registerWrite (endpoint : Fin 2) (bar : Bar) (offset : Nat) (value : W32) : Statement (.registerWrite endpoint bar offset value) := of_none rfl
theorem fieldInputSample (ch : Fin 24) (mv : Nat) (microAmps : Nat) (vfield : Nat) : Statement (.fieldInputSample ch mv microAmps vfield) := of_none rfl
theorem fieldReadbackSample (ch : Fin 24) (high : Bool) : Statement (.fieldReadbackSample ch high) := of_none rfl
theorem fieldShortTimeout (ch : Fin 24) : Statement (.fieldShortTimeout ch) := of_none rfl
theorem fieldThermalTrip (ch : Fin 24) : Statement (.fieldThermalTrip ch) := of_none rfl
theorem fieldRetryEnd (ch : Fin 24) : Statement (.fieldRetryEnd ch) := of_none rfl
theorem fieldSupplyUv (group : Fin 2) (vfield : Nat) : Statement (.fieldSupplyUv group vfield) := of_none rfl
theorem fieldSupplyRecover (group : Fin 2) (vfield : Nat) : Statement (.fieldSupplyRecover group vfield) := of_none rfl
theorem testPulseStart (ch : Fin 24) : Statement (.testPulseStart ch) := of_none rfl
theorem testPulseCheck (ch : Fin 24) (high : Bool) : Statement (.testPulseCheck ch high) := of_none rfl
theorem testPulseEnd (ch : Fin 24) : Statement (.testPulseEnd ch) := of_none rfl
theorem fieldModeOffEnd (ch : Fin 24) : Statement (.fieldModeOffEnd ch) := of_none rfl
theorem safEvaluation : Statement (.safEvaluation) := of_none rfl
theorem safFaultEntry (cause : Fin 5) : Statement (.safFaultEntry cause) := of_none rfl
theorem safHeartbeatLoss : Statement (.safHeartbeatLoss) := of_none rfl
theorem safConnWatchdog (conn : Fin 256) : Statement (.safConnWatchdog conn) := of_none rfl
theorem connRestart (conn : Fin 256) : Statement (.connRestart conn) := of_none rfl
theorem connStartFail (conn : Fin 256) : Statement (.connStartFail conn) := of_none rfl
theorem safInputSample (ch : Fin 24) (mv : Nat) (microAmps : Nat) (vfield : Nat) : Statement (.safInputSample ch mv microAmps vfield) := of_none rfl
theorem sigDiscrepancy (sig : Fin 64) : Statement (.sigDiscrepancy sig) := of_none rfl
theorem safResetRelease (zone : Fin 32) (second : Bool) : Statement (.safResetRelease zone second) := of_none rfl
theorem resetStuck (zone : Fin 32) (second : Bool) : Statement (.resetStuck zone second) := of_none rfl
theorem safeSessionTimeout : Statement (.safeSessionTimeout) := of_none rfl
theorem safeLockoutEnd : Statement (.safeLockoutEnd) := of_none rfl
theorem flueTickRx (m : FlueTick) (ok : Bool) : Statement (.flueTickRx m ok) := of_none rfl
theorem flueDigestRx (cycle : Nat) (die : Fin 4) (desc : Fin 4096) (digest : Nat) (ok : Bool) : Statement (.flueDigestRx cycle die desc digest ok) := of_none rfl
theorem flueRecordRx (m : FlueRecord) (ok : Bool) : Statement (.flueRecordRx m ok) := of_none rfl
theorem flueSentRx (frame : Nat) (addr : Nat) (ty : Nat) (blocks : List (Nat × List Byte)) (ok : Bool) : Statement (.flueSentRx frame addr ty blocks ok) := of_none rfl
theorem flueContainerRx (cycle : Nat) (conn : Fin 256) (bytes : List Byte) (ok : Bool) : Statement (.flueContainerRx cycle conn bytes ok) := of_none rfl
theorem flueRelayRx (c : SegCopy) (ok : Bool) : Statement (.flueRelayRx c ok) := of_none rfl
theorem flueFrameRx (content : List Byte) (ok : Bool) : Statement (.flueFrameRx content ok) := of_none rfl
theorem flueConfigRx (m : FlueConfig) (ok : Bool) : Statement (.flueConfigRx m ok) := of_none rfl
theorem flueSilent : Statement (.flueSilent) := of_none rfl
theorem flueLaneDown (lane : Fin 2) : Statement (.flueLaneDown lane) := of_none rfl
theorem partnerFrameTimeout : Statement (.partnerFrameTimeout) := of_none rfl
theorem roleSwapTick : Statement (.roleSwapTick) := of_none rfl
theorem joinCopyComplete (copy : JoinCopy) : Statement (.joinCopyComplete copy) := of_none rfl
theorem badPacket (p : Pkt) (op : Nat) (why : PacketFault) : Statement (.badPacket p op why) := of_none rfl
theorem leaseExpiry (ctx : Fin 8) : Statement (.leaseExpiry ctx) := of_none rfl
theorem eventResend (ctx : Fin 8) : Statement (.eventResend ctx) := of_none rfl
theorem commandDoorbell (endpoint : Fin 2) (index : Nat) : Statement (.commandDoorbell endpoint index) := of_none rfl
theorem replyRingConsume (endpoint : Fin 2) (index : Nat) : Statement (.replyRingConsume endpoint index) := of_none rfl
theorem eventRingConsume (endpoint : Fin 2) (index : Nat) : Statement (.eventRingConsume endpoint index) := of_none rfl
theorem ctxEnable (endpoint : Fin 2) (enable : Bool) : Statement (.ctxEnable endpoint enable) := of_none rfl
theorem ctxReset (endpoint : Fin 2) : Statement (.ctxReset endpoint) := of_none rfl
theorem ctxBeat (endpoint : Fin 2) : Statement (.ctxBeat endpoint) := of_none rfl
theorem pcieLinkEvent (endpoint : Fin 2) : Statement (.pcieLinkEvent endpoint) := of_none rfl
theorem dmaError (endpoint : Fin 2) : Statement (.dmaError endpoint) := of_none rfl
theorem sspiWrite : Statement (.sspiWrite) := of_none rfl
theorem sspiRead (whole : Bool) : Statement (.sspiRead whole) := of_none rfl
theorem sspiStatus : Statement (.sspiStatus) := of_none rfl
theorem ethNeighbourAnswer (port : Fin 2) (own : Bool) : Statement (.ethNeighbourAnswer port own) := of_none rfl
theorem udpReassemblyTimeout (port : Fin 2) (part : Fragment) : Statement (.udpReassemblyTimeout port part) := of_none rfl
theorem announce (port : Fin 2) (up : Bool) (speed : Fin 2) : Statement (.announce port up speed) := of_none rfl
theorem discover (p : Pkt) : Statement (.discover p) := of_none rfl
theorem login (p : Pkt) : Statement (.login p) := of_none rfl
theorem logout (p : Pkt) : Statement (.logout p) := of_none rfl
theorem keepalive (p : Pkt) : Statement (.keepalive p) := of_none rfl
theorem seqGet (p : Pkt) : Statement (.seqGet p) := of_none rfl
theorem eventMaskSet (p : Pkt) : Statement (.eventMaskSet p) := of_none rfl
theorem deviceInfoGet (p : Pkt) : Statement (.deviceInfoGet p) := of_none rfl
theorem hostsGet (p : Pkt) : Statement (.hostsGet p) := of_none rfl
theorem claim (p : Pkt) : Statement (.claim p) := of_none rfl
theorem release (p : Pkt) : Statement (.release p) := of_none rfl
theorem claimsGet (p : Pkt) : Statement (.claimsGet p) := of_none rfl
theorem configLease (p : Pkt) : Statement (.configLease p) := of_none rfl
theorem faultClear (p : Pkt) : Statement (.faultClear p) := of_none rfl
theorem regRead (p : Pkt) : Statement (.regRead p) := of_none rfl
theorem regWrite (p : Pkt) : Statement (.regWrite p) := of_none rfl
theorem netConfigSet (p : Pkt) : Statement (.netConfigSet p) := of_none rfl
theorem netConfigGet (p : Pkt) : Statement (.netConfigGet p) := of_none rfl
theorem loginTableSet (p : Pkt) : Statement (.loginTableSet p) := of_none rfl
theorem loginTableGet (p : Pkt) : Statement (.loginTableGet p) := of_none rfl
theorem powerStateSet (p : Pkt) : Statement (.powerStateSet p) := of_none rfl
theorem powerDomainSet (p : Pkt) : Statement (.powerDomainSet p) := of_none rfl
theorem deviceReset (p : Pkt) : Statement (.deviceReset p) := of_none rfl
theorem powerStatusGet (p : Pkt) : Statement (.powerStatusGet p) := of_none rfl
theorem healthGet (p : Pkt) : Statement (.healthGet p) := of_none rfl
theorem ageingGet (p : Pkt) : Statement (.ageingGet p) := of_none rfl
theorem ringStatusGet (p : Pkt) : Statement (.ringStatusGet p) := of_none rfl
theorem ringCountersGet (p : Pkt) : Statement (.ringCountersGet p) := of_none rfl
theorem ringKindle (p : Pkt) : Statement (.ringKindle p) := of_none rfl
theorem ringStop (p : Pkt) : Statement (.ringStop p) := of_none rfl
theorem ringNodesGet (p : Pkt) : Statement (.ringNodesGet p) := of_none rfl
theorem ringAddrSet (p : Pkt) : Statement (.ringAddrSet p) := of_none rfl
theorem schedBegin (p : Pkt) : Statement (.schedBegin p) := of_none rfl
theorem schedSegments (p : Pkt) : Statement (.schedSegments p) := of_none rfl
theorem schedKeepers (p : Pkt) : Statement (.schedKeepers p) := of_none rfl
theorem schedClose (p : Pkt) : Statement (.schedClose p) := of_none rfl
theorem schedSwitch (p : Pkt) : Statement (.schedSwitch p) := of_none rfl
theorem schedAbort (p : Pkt) : Statement (.schedAbort p) := of_none rfl
theorem nodeEmptySet (p : Pkt) : Statement (.nodeEmptySet p) := of_none rfl
theorem ringTimeGet (p : Pkt) : Statement (.ringTimeGet p) := of_none rfl
theorem ringNodeMail (p : Pkt) : Statement (.ringNodeMail p) := of_none rfl
theorem twinStatusGet (p : Pkt) : Statement (.twinStatusGet p) := of_none rfl
theorem twinConfigSet (p : Pkt) : Statement (.twinConfigSet p) := of_none rfl
theorem twinRoleSwap (p : Pkt) : Statement (.twinRoleSwap p) := of_none rfl
theorem twinDetach (p : Pkt) : Statement (.twinDetach p) := of_none rfl
theorem twinJoin (p : Pkt) : Statement (.twinJoin p) := of_none rfl
theorem twinAxGet (p : Pkt) : Statement (.twinAxGet p) := of_none rfl
theorem fbConfigSet (p : Pkt) : Statement (.fbConfigSet p) := of_none rfl
theorem fbConfigGet (p : Pkt) : Statement (.fbConfigGet p) := of_none rfl
theorem fbCalGet (p : Pkt) : Statement (.fbCalGet p) := of_none rfl
theorem fbCalSet (p : Pkt) : Statement (.fbCalSet p) := of_none rfl
theorem fbCalSave (p : Pkt) : Statement (.fbCalSave p) := of_none rfl
theorem fbStatusGet (p : Pkt) : Statement (.fbStatusGet p) := of_none rfl
theorem fbIndexRefSet (p : Pkt) : Statement (.fbIndexRefSet p) := of_none rfl
theorem emuConfigSet (p : Pkt) : Statement (.emuConfigSet p) := of_none rfl
theorem emuStatusGet (p : Pkt) : Statement (.emuStatusGet p) := of_none rfl
theorem emuRestart (p : Pkt) : Statement (.emuRestart p) := of_none rfl
theorem servoBind (p : Pkt) : Statement (.servoBind p) := of_none rfl
theorem servoConfigSet (p : Pkt) : Statement (.servoConfigSet p) := of_none rfl
theorem servoConfigGet (p : Pkt) : Statement (.servoConfigGet p) := of_none rfl
theorem motorSet (p : Pkt) : Statement (.motorSet p) := of_none rfl
theorem motorGet (p : Pkt) : Statement (.motorGet p) := of_none rfl
theorem motorSave (p : Pkt) : Statement (.motorSave p) := of_none rfl
theorem psConfigSet (p : Pkt) : Statement (.psConfigSet p) := of_none rfl
theorem psConfigGet (p : Pkt) : Statement (.psConfigGet p) := of_none rfl
theorem vtSet (p : Pkt) : Statement (.vtSet p) := of_none rfl
theorem servoStatusGet (p : Pkt) : Statement (.servoStatusGet p) := of_none rfl
theorem servoAlign (p : Pkt) : Statement (.servoAlign p) := of_none rfl
theorem motionConfigSet (p : Pkt) : Statement (.motionConfigSet p) := of_none rfl
theorem motionConfigGet (p : Pkt) : Statement (.motionConfigGet p) := of_none rfl
theorem moveAbs (p : Pkt) : Statement (.moveAbs p) := of_none rfl
theorem moveVel (p : Pkt) : Statement (.moveVel p) := of_none rfl
theorem motionStop (p : Pkt) : Statement (.motionStop p) := of_none rfl
theorem vmConfigSet (p : Pkt) : Statement (.vmConfigSet p) := of_none rfl
theorem vmPlantSet (p : Pkt) : Statement (.vmPlantSet p) := of_none rfl
theorem vmRamp (p : Pkt) : Statement (.vmRamp p) := of_none rfl
theorem followConfigSet (p : Pkt) : Statement (.followConfigSet p) := of_none rfl
theorem followConfigGet (p : Pkt) : Statement (.followConfigGet p) := of_none rfl
theorem followFactor (p : Pkt) : Statement (.followFactor p) := of_none rfl
theorem camDefine (p : Pkt) : Statement (.camDefine p) := of_none rfl
theorem camPoints (p : Pkt) : Statement (.camPoints p) := of_none rfl
theorem camStart (p : Pkt) : Statement (.camStart p) := of_none rfl
theorem homeStart (p : Pkt) : Statement (.homeStart p) := of_none rfl
theorem groupDefine (p : Pkt) : Statement (.groupDefine p) := of_none rfl
theorem groupMove (p : Pkt) : Statement (.groupMove p) := of_none rfl
theorem groupStop (p : Pkt) : Statement (.groupStop p) := of_none rfl
theorem stepBind (p : Pkt) : Statement (.stepBind p) := of_none rfl
theorem stepConfigSet (p : Pkt) : Statement (.stepConfigSet p) := of_none rfl
theorem stepConfigGet (p : Pkt) : Statement (.stepConfigGet p) := of_none rfl
theorem motionStatusGet (p : Pkt) : Statement (.motionStatusGet p) := of_none rfl
theorem recConfigSet (p : Pkt) : Statement (.recConfigSet p) := of_none rfl
theorem recConfigGet (p : Pkt) : Statement (.recConfigGet p) := of_none rfl
theorem recStart (p : Pkt) : Statement (.recStart p) := of_none rfl
theorem recStop (p : Pkt) : Statement (.recStop p) := of_none rfl
theorem recTrigger (p : Pkt) : Statement (.recTrigger p) := of_none rfl
theorem recRead (p : Pkt) : Statement (.recRead p) := of_none rfl
theorem recStatusGet (p : Pkt) : Statement (.recStatusGet p) := of_none rfl
theorem acqBwGet (p : Pkt) : Statement (.acqBwGet p) := of_none rfl
theorem adcConfigSet (p : Pkt) : Statement (.adcConfigSet p) := of_none rfl
theorem adcCalSet (p : Pkt) : Statement (.adcCalSet p) := of_none rfl
theorem adcStatusGet (p : Pkt) : Statement (.adcStatusGet p) := of_none rfl
theorem timeGet (p : Pkt) : Statement (.timeGet p) := of_none rfl
theorem timeSet (p : Pkt) : Statement (.timeSet p) := of_none rfl
theorem timeStep (p : Pkt) : Statement (.timeStep p) := of_none rfl
theorem timeIncSet (p : Pkt) : Statement (.timeIncSet p) := of_none rfl
theorem bellowsConfigSet (p : Pkt) : Statement (.bellowsConfigSet p) := of_none rfl
theorem bellowsFeed (p : Pkt) : Statement (.bellowsFeed p) := of_none rfl
theorem tinConfigSet (p : Pkt) : Statement (.tinConfigSet p) := of_none rfl
theorem tinCaptureGet (p : Pkt) : Statement (.tinCaptureGet p) := of_none rfl
theorem toutConfigSet (p : Pkt) : Statement (.toutConfigSet p) := of_none rfl
theorem toutStop (p : Pkt) : Statement (.toutStop p) := of_none rfl
theorem ptpConfigSet (p : Pkt) : Statement (.ptpConfigSet p) := of_none rfl
theorem ptpBind (p : Pkt) : Statement (.ptpBind p) := of_none rfl
theorem ptpTx (p : Pkt) : Statement (.ptpTx p) := of_none rfl
theorem ptpTxtsGet (p : Pkt) : Statement (.ptpTxtsGet p) := of_none rfl
theorem fieldConfigSet (p : Pkt) : Statement (.fieldConfigSet p) := of_none rfl
theorem fieldConfigGet (p : Pkt) : Statement (.fieldConfigGet p) := of_none rfl
theorem fieldOutSet (p : Pkt) : Statement (.fieldOutSet p) := of_none rfl
theorem fieldOutClear (p : Pkt) : Statement (.fieldOutClear p) := of_none rfl
theorem fieldStatusGet (p : Pkt) : Statement (.fieldStatusGet p) := of_none rfl
theorem fieldChStatusGet (p : Pkt) : Statement (.fieldChStatusGet p) := of_none rfl
theorem safeStatusGet (p : Pkt) : Statement (.safeStatusGet p) := of_none rfl
theorem safeConnStatusGet (p : Pkt) : Statement (.safeConnStatusGet p) := of_none rfl
theorem safeLogGet (p : Pkt) : Statement (.safeLogGet p) := of_none rfl
theorem safeSetGet (p : Pkt) : Statement (.safeSetGet p) := of_none rfl
theorem safeLogin (p : Pkt) : Statement (.safeLogin p) := of_none rfl
theorem safeLogout (p : Pkt) : Statement (.safeLogout p) := of_none rfl
theorem safePasswordSet (p : Pkt) : Statement (.safePasswordSet p) := of_none rfl
theorem safeConnSet (p : Pkt) : Statement (.safeConnSet p) := of_none rfl
theorem safeAxisSet (p : Pkt) : Statement (.safeAxisSet p) := of_none rfl
theorem safeSignalSet (p : Pkt) : Statement (.safeSignalSet p) := of_none rfl
theorem safeZoneSet (p : Pkt) : Statement (.safeZoneSet p) := of_none rfl
theorem safeChannelSet (p : Pkt) : Statement (.safeChannelSet p) := of_none rfl
theorem safeCommit (p : Pkt) : Statement (.safeCommit p) := of_none rfl
theorem safeDiscard (p : Pkt) : Statement (.safeDiscard p) := of_none rfl
theorem safeFuncReq (p : Pkt) : Statement (.safeFuncReq p) := of_none rfl
theorem updateBegin (p : Pkt) : Statement (.updateBegin p) := of_none rfl
theorem updateData (p : Pkt) : Statement (.updateData p) := of_none rfl
theorem updateVerify (p : Pkt) : Statement (.updateVerify p) := of_none rfl
theorem updateActivate (p : Pkt) : Statement (.updateActivate p) := of_none rfl
theorem updateConfirm (p : Pkt) : Statement (.updateConfirm p) := of_none rfl
theorem updateAbort (p : Pkt) : Statement (.updateAbort p) := of_none rfl
theorem updateStatusGet (p : Pkt) : Statement (.updateStatusGet p) := of_none rfl
theorem fwInventoryGet (p : Pkt) : Statement (.fwInventoryGet p) := of_none rfl
theorem sootRead (p : Pkt) : Statement (.sootRead p) := of_none rfl
theorem sootStatusGet (p : Pkt) : Statement (.sootStatusGet p) := of_none rfl
theorem traceRead (p : Pkt) : Statement (.traceRead p) := of_none rfl
theorem traceStatusGet (p : Pkt) : Statement (.traceStatusGet p) := of_none rfl
theorem loopProgWrite (p : Pkt) : Statement (.loopProgWrite p) := of_none rfl
theorem grateDescSet (p : Pkt) : Statement (.grateDescSet p) := of_none rfl
theorem grateDescGet (p : Pkt) : Statement (.grateDescGet p) := of_none rfl
theorem grateCounterSet (p : Pkt) : Statement (.grateCounterSet p) := of_none rfl
theorem grateArrivalSet (p : Pkt) : Statement (.grateArrivalSet p) := of_none rfl
theorem gratePost (p : Pkt) : Statement (.gratePost p) := of_none rfl
theorem grateMove (p : Pkt) : Statement (.grateMove p) := of_none rfl
theorem grateTraceCfg (p : Pkt) : Statement (.grateTraceCfg p) := of_none rfl
theorem grateStatusGet (p : Pkt) : Statement (.grateStatusGet p) := of_none rfl
theorem updateActivationTick : Statement (.updateActivationTick) := of_none rfl
theorem updateReadyCheck : Statement (.updateReadyCheck) := of_none rfl
theorem updateConfirmTimeout : Statement (.updateConfirmTimeout) := of_none rfl
theorem updateFallbackTick : Statement (.updateFallbackTick) := of_none rfl
theorem powerOn : Statement (.powerOn) := of_none rfl
theorem resetNRecognised : Statement (.resetNRecognised) := of_none rfl
theorem bootStart (f : BootFacts) : Statement (.bootStart f) := of_none rfl
theorem thermalTrip : Statement (.thermalTrip) := of_none rfl
theorem supplyTrip : Statement (.supplyTrip) := of_none rfl
theorem refclkLoss : Statement (.refclkLoss) := of_none rfl
theorem hmpWatchdog : Statement (.hmpWatchdog) := of_none rfl
theorem thermalWarn (die : Fin 8) (tj : W16) : Statement (.thermalWarn die tj) := of_none rfl
theorem supplyWarn (outside : Bool) : Statement (.supplyWarn outside) := of_none rfl
theorem wakeEdge : Statement (.wakeEdge) := of_none rfl
theorem wakeTimer : Statement (.wakeTimer) := of_none rfl
theorem powerStateChangeDone : Statement (.powerStateChangeDone) := of_none rfl
theorem domainSwitchDone (domain : Fin 12) : Statement (.domainSwitchDone domain) := of_none rfl
theorem ageingSlackSample (m : HealthSample) : Statement (.ageingSlackSample m) := of_none rfl
theorem ageingHour : Statement (.ageingHour) := of_none rfl
theorem ageingDay : Statement (.ageingDay) := of_none rfl
theorem ageingVraise : Statement (.ageingVraise) := of_none rfl
theorem ageingCoreWorn (core : Fin 64) : Statement (.ageingCoreWorn core) := of_none rfl
theorem vcoreRewrite (mv : Nat) : Statement (.vcoreRewrite mv) := of_none rfl
theorem vraiseConfirm (mv : Nat) : Statement (.vraiseConfirm mv) := of_none rfl
theorem vraiseRetry : Statement (.vraiseRetry) := of_none rfl
theorem pmbAlert : Statement (.pmbAlert) := of_none rfl
theorem sootWrite : Statement (.sootWrite) := of_none rfl
theorem nodeIndexLatch (node : Nat) (block : Fin 4) (qcnt : W16) (sin : W16) (cos : W16) : Statement (.nodeIndexLatch node block qcnt sin cos) := of_none rfl
theorem nodeOvertemp (node : Nat) (block : Fin 4) (hot : Bool) (trip : Bool) : Statement (.nodeOvertemp node block hot trip) := of_none rfl
theorem nodeGateSupplyRecover (node : Nat) (block : Fin 4) (leg : Fin 3) : Statement (.nodeGateSupplyRecover node block leg) := of_none rfl
theorem emuEdge (emu : Fin 4) : Statement (.emuEdge emu) := of_none rfl
theorem safAnswerTimeout (ctx : Fin 8) : Statement (.safAnswerTimeout ctx) := of_none rfl
theorem hmpRestartDone : Statement (.hmpRestartDone) := of_none rfl
theorem flueLaneUp (lane : Fin 2) (lat : Nat) : Statement (.flueLaneUp lane lat) := of_none rfl
theorem ethLinkDown (port : Fin 2) : Statement (.ethLinkDown port) := of_none rfl

end Sys2Proof.Laws.Words
end

