-- ==== Sys2Proof/Machine/Pins.lean ====
section
/-! DEFINITION. Sys2Proof/Machine/Pins.lean: the levels of the output pins whose behaviour the manual gives (R173, R290, R311, R400, R457), read off the
state. -/

namespace Sys2Proof.Machine

/-- An output pin. -/
inductive Pin where
  | sspiAtnN
  | tout (k : Fin 8)
  | emuA (e : Fin 4)
  | emuB (e : Fin 4)
  | emuZ (e : Fin 4)
  | field (c : Fin 24)
  deriving DecidableEq, Repr

/-- What an output pin shows: driven low, driven high, or high impedance (an open switch). -/
inductive Level where
  | low | high | floating
  deriving DecidableEq, Repr

def Level.ofBool (b : Bool) : Level := if b then .high else .low

/-- A power domain is on, and the part is not held in reset. -/
def State.pinsLive (s : State) (domain : Nat) : Bool := !s.asleep && bit (s.r .PWR_DOM_ON) domain

/-- The level of a pin (R457): its function's while its domain is powered and not held in reset, and otherwise the state of Table 17.3. The quadrature
pair runs through 00, 10, 11, 01 as the count rises (Z_POS is a state in which both are high, R173). -/
def State.pin (s : State) : Pin → Level
  | .sspiAtnN => if s.pinsLive 1 && (s.sspiReplies != [] || (s.ctx 6).events != []) then .low else .floating
  | .tout k => if s.pinsLive 1 then .ofBool (s.toutLevel k.val) else .ofBool (bit (fld (Tbl.get [] s.recsFlash (RecKind.tout.key k.val)) 2 1) 0 && !s.power.held)
  | .emuA e => if s.pinsLive 1 then .ofBool ((s.emu e.val).phase == 1 || (s.emu e.val).phase == 2) else .floating
  | .emuB e => if s.pinsLive 1 then .ofBool ((s.emu e.val).phase == 2 || (s.emu e.val).phase == 3) else .floating
  | .emuZ e => if s.pinsLive 1 then .ofBool (s.emuZ e.val) else .floating
  | .field c => if s.pinsLive 11 && s.fioBit .FIO_OUT_ON c.val then .high else .floating

end Sys2Proof.Machine
end

