-- ==== Sys2Proof/WellFormed.lean ====
section
/-! DEFINITION. Sys2Proof/WellFormed.lean: what a sender can send: every field of a packet, a frame or a message within the width and the range the
manual gives it. A command that is not well-formed has a meaning all the same; no sender can form it. -/

namespace Sys2Proof

/-- A cycle number that is used (R14). -/
def cycleWf (n : Nat) : Bool := decide (n < Config.cycleModulus)

/-- A packet within the widths of Table 14.4, at most 4,072 parameter bytes. -/
def Pkt.wf (p : Pkt) : Bool :=
  decide (p.ctx < 256) && decide (p.flags < 256) && decide (p.seq < 65536) && decide (p.session < 2 ^ 32) &&
  decide (p.ack < 65536) && decide (p.params.length ≤ 4072) && decide (p.udpPort < 65536) && decide (p.addr < 2 ^ 128)

/-- A frame header and trailer within the widths of Tables 2.4 and 2.5. A frame of another sender may carry any cycle number of its width. -/
def FrameHdr.wf (h : FrameHdr) : Bool :=
  decide (h.ver < 256) && decide (h.flags < 256) && decide (h.mode < 256) && decide (h.src < 256) &&
  decide (h.cycle < 2 ^ 32) && decide (h.tickS < 2 ^ 48) && decide (h.tickNs < 2 ^ 32) && decide (h.loopAddr < 256) &&
  decide (h.switchCycle < 2 ^ 32)

/-- An uplink segment of a returned copy. -/
def SegCopy.wf (c : SegCopy) : Bool := cycleWf c.cycle && decide (c.ulf < 256) && decide (c.data.length < 65536)

/-- A copy of a frame at a node: segments of the types of Table 2.6, each with a one-byte DLF; mailboxes addressed in one byte. -/
def NodeCopy.wf (c : NodeCopy) : Bool :=
  c.hdr.wf && c.segs.all (fun g => decide (g.ty < 8) && decide (g.dlf < 256)) &&
  c.mails.all (fun m => decide (m.addr < 256) && decide (m.down.length ≤ m.size))

/-- What another head shows of itself. -/
def HeadRank.wf (r : HeadRank) : Bool := decide (r.prio < 256) && decide (r.serial < 2 ^ 64)

/-- Bytes of the state view and of shared SRAM lie in their memories (R101). -/
def memsWf (lines : List (Nat × List Byte)) (stores : List (Nat × Byte)) : Bool :=
  lines.all (fun l => decide (l.1 < 1024) && decide (l.2.length = 32)) && stores.all (fun e => decide (e.1 < 0x400000))

/-- A TICK message. -/
def FlueTick.wf (m : FlueTick) : Bool :=
  cycleWf m.cycle && m.hdr.wf && m.classes.all (fun e => decide (e.1 < 648) && decide (e.2 ≤ 4)) && m.marks.all (fun e => decide (e.1 < 648))

/-- A RECORD message. -/
def FlueRecord.wf (m : FlueRecord) : Bool :=
  cycleWf m.cycle && decide (m.die < 4) && decide (m.desc < 4096) && memsWf m.lines m.stores

/-- A state copy names loop cores, dies and bytes of their memories (R101, R373). -/
def JoinCopy.wf (c : JoinCopy) : Bool :=
  c.lines.all (fun l => decide (l.1 < 64)) && memsWf (c.lines.map (·.2)) (c.stores.map (·.2)) && c.stores.all (fun e => decide (e.1 < 4))

/-- What HC7 traffic brings. -/
def FlueConfig.wf (m : FlueConfig) : Bool :=
  match m with
  | .command op p => decide (op < 65536) && p.wf
  | .ack => true
  | .sync _ => true

/-- A second's measurements cover every die and loop core. -/
def HealthSample.wf (m : HealthSample) : Bool := decide (m.slack.length = 8) && decide (m.cores.length = 64)

/-- A command that a sender can form. -/
def Instr.wf : Instr → Bool
  | .tick => true
  | .segmentDeparture _ => true
  | .slotCutoff _ _ => true
  | .taskCommit _ _ => true
  | .frameReturn _ h _ => h.wf
  | .segmentArrival _ c => c.wf
  | .mailboxMessageRx _ => true
  | .identTimeout _ => true
  | .deltaTimeout _ => true
  | .delayPoll _ => true
  | .nodeGone _ => true
  | .keeperReadmit _ => true
  | .inputLagEnd => true
  | .portLinkDown _ _ => true
  | .portLinkUp _ => true
  | .listenTimeout => true
  | .kindlingFrameRx _ h rank => h.wf && rank.wf
  | .kindlingTick => true
  | .kindleComplete _ => true
  | .noPartnerTimeout => true
  | .rollCallComplete => true
  | .switchDecision => true
  | .switchTick => true
  | .nodeFrameRx _ _ c => c.wf
  | .nodeKindlingAccept _ cycle prio serial => cycleWf cycle && decide (prio < 256) && decide (serial < 2 ^ 64)
  | .nodeLoopBack _ _ => true
  | .nodeLoopEnd _ _ => true
  | .nodeTinSample _ cycle inputs safe => cycleWf cycle && inputs.all (fun b => decide (b.1 < 8)) && safe.all (fun b => decide (b.1 < 256))
  | .nodeToutLatch _ cycle => cycleWf cycle
  | .nodeTransition _ _ _ => true
  | .nodeEmptyHoldEnd _ ty _ _ => decide (ty < 8)
  | .nodeFrameTimeout _ => true
  | .nodeDesatDetect _ _ _ _ => true
  | .nodeGateUndervolt _ _ _ => true
  | .identReq _ => true
  | .preload _ => true
  | .unload _ => true
  | .emptyCfg _ => true
  | .delay _ => true
  | .pdelaySet _ => true
  | .counters _ => true
  | .mailboxRelease _ => true
  | .unknownService _ => true
  | .nodeSafeContainerRx _ place b => decide (place < 256) && decide (b.length = 12)
  | .nodeSafeWatchdog _ place => decide (place < 256)
  | .taskDispatch _ => true
  | .delayDue _ => true
  | .taskPost _ _ => true
  | .stateMove _ => true
  | .traceDrain _ => true
  | .sharedLoadComplete _ => true
  | .unitResult _ => true
  | .haltReq _ => true
  | .halt _ => true
  | .resume _ => true
  | .add _ _ _ => true
  | .sub _ _ => true
  | .adds _ _ _ => true
  | .subs _ _ => true
  | .and _ _ _ => true
  | .or _ _ _ => true
  | .xor _ _ _ => true
  | .shl _ _ _ => true
  | .shr _ _ _ => true
  | .shra _ _ _ => true
  | .shls _ _ _ => true
  | .min _ _ => true
  | .max _ _ => true
  | .abs _ _ => true
  | .neg _ _ => true
  | .cls _ _ => true
  | .slt _ _ _ => true
  | .sltu _ _ _ => true
  | .mul _ _ => true
  | .mulf _ _ => true
  | .mulhu _ _ => true
  | .ldw _ _ => true
  | .ldh _ _ => true
  | .ldhu _ _ => true
  | .ldb _ _ => true
  | .ldbu _ _ => true
  | .stw _ _ => true
  | .sth _ _ => true
  | .stb _ _ => true
  | .ld2 _ _ => true
  | .st2 _ _ => true
  | .mac2 _ _ => true
  | .msu2 _ _ => true
  | .mpy2 _ _ => true
  | .macx2 _ _ => true
  | .ldp2 _ _ => true
  | .mac _ _ => true
  | .msu _ _ => true
  | .mpy _ _ => true
  | .addac _ _ => true
  | .subac _ _ => true
  | .clrac _ _ => true
  | .negac _ _ => true
  | .absac _ _ => true
  | .shac _ _ => true
  | .mvac _ _ => true
  | .mvda _ _ => true
  | .mvacl _ _ => true
  | .mvacm _ _ => true
  | .mvach _ _ => true
  | .br _ _ => true
  | .call _ _ => true
  | .beqz _ _ => true
  | .bnez _ _ => true
  | .bltz _ _ => true
  | .bgez _ _ => true
  | .bgtz _ _ => true
  | .blez _ _ => true
  | .bfs _ _ => true
  | .bfc _ _ => true
  | .jr _ _ => true
  | .ret _ _ => true
  | .repi _ _ => true
  | .repr _ _ => true
  | .hysb _ _ => true
  | .hysv _ _ => true
  | .hyst _ _ => true
  | .csc _ _ => true
  | .crot _ _ => true
  | .cvec _ _ => true
  | .mova _ _ => true
  | .movda _ _ => true
  | .movm _ _ => true
  | .movdm _ _ => true
  | .adda _ _ => true
  | .movc _ _ => true
  | .movtc _ _ => true
  | .movde _ _ => true
  | .moved _ _ => true
  | .eset _ _ => true
  | .erh _ _ => true
  | .ehead _ _ => true
  | .efix _ _ => true
  | .eadd _ _ => true
  | .esub _ _ => true
  | .shle _ _ => true
  | .mvace _ _ => true
  | .ldi _ _ _ => true
  | .ldia _ _ _ => true
  | .ldim _ _ _ => true
  | .nop _ _ => true
  | .tend _ _ => true
  | .brk _ _ => true
  | .torqueBandUpdate _ => true
  | .alignEnd _ => true
  | .pinTrgEdge _ _ _ => true
  | .intervalEnd _ => true
  | .adcStart _ _ _ => true
  | .adcConversionDone _ _ => true
  | .refOutOfBand _ => true
  | .refSettled _ => true
  | .tinCapture _ _ => true
  | .bellowsHoldover _ => true
  | .toutPulseStart _ => true
  | .toutPulseEnd _ => true
  | .ptpFrameRx _ frame => decide (frame.length ≤ 1518)
  | .ptpEgress _ => true
  | .ptpTxTimeout _ => true
  | .tbNowRead _ _ _ => true
  | .recTlastRead _ _ => true
  | .rcRead _ _ offset => decide (offset % 4 = 0)
  | .registerWrite _ _ offset _ => decide (offset % 4 = 0)
  | .fieldInputSample _ _ _ _ => true
  | .fieldReadbackSample _ _ => true
  | .fieldShortTimeout _ => true
  | .fieldThermalTrip _ => true
  | .fieldRetryEnd _ => true
  | .fieldSupplyUv _ _ => true
  | .fieldSupplyRecover _ _ => true
  | .testPulseStart _ => true
  | .testPulseCheck _ _ => true
  | .testPulseEnd _ => true
  | .fieldModeOffEnd _ => true
  | .safEvaluation => true
  | .safFaultEntry _ => true
  | .safHeartbeatLoss => true
  | .safConnWatchdog _ => true
  | .connRestart _ => true
  | .connStartFail _ => true
  | .safInputSample _ _ _ _ => true
  | .sigDiscrepancy _ => true
  | .safResetRelease _ _ => true
  | .resetStuck _ _ => true
  | .safeSessionTimeout => true
  | .safeLockoutEnd => true
  | .flueTickRx m _ => m.wf
  | .flueDigestRx cycle _ _ digest _ => cycleWf cycle && decide (digest < 2 ^ 32)
  | .flueRecordRx m _ => m.wf
  | .flueSentRx frame addr ty blocks _ => cycleWf frame && decide (addr < 256) && decide (ty < 8) && blocks.all (fun b => decide (b.1 < 64))
  | .flueContainerRx cycle _ bytes _ => cycleWf cycle && decide (bytes.length = 12)
  | .flueRelayRx c _ => c.wf
  | .flueFrameRx _ _ => true
  | .flueConfigRx m _ => m.wf
  | .flueSilent => true
  | .flueLaneDown _ => true
  | .partnerFrameTimeout => true
  | .roleSwapTick => true
  | .joinCopyComplete c => c.wf
  | .badPacket p op _ => p.wf && decide (op < 65536)
  | .leaseExpiry _ => true
  | .eventResend _ => true
  | .commandDoorbell _ index => decide (index < 65536)
  | .replyRingConsume _ index => decide (index < 65536)
  | .eventRingConsume _ index => decide (index < 65536)
  | .ctxEnable _ _ => true
  | .ctxReset _ => true
  | .ctxBeat _ => true
  | .pcieLinkEvent _ => true
  | .dmaError _ => true
  | .sspiWrite => true
  | .sspiRead _ => true
  | .sspiStatus => true
  | .ethNeighbourAnswer _ _ => true
  | .udpReassemblyTimeout _ _ => true
  | .announce _ _ _ => true
  | .discover p => p.wf
  | .login p => p.wf
  | .logout p => p.wf
  | .keepalive p => p.wf
  | .seqGet p => p.wf
  | .eventMaskSet p => p.wf
  | .deviceInfoGet p => p.wf
  | .hostsGet p => p.wf
  | .claim p => p.wf
  | .release p => p.wf
  | .claimsGet p => p.wf
  | .configLease p => p.wf
  | .faultClear p => p.wf
  | .regRead p => p.wf
  | .regWrite p => p.wf
  | .netConfigSet p => p.wf
  | .netConfigGet p => p.wf
  | .loginTableSet p => p.wf
  | .loginTableGet p => p.wf
  | .powerStateSet p => p.wf
  | .powerDomainSet p => p.wf
  | .deviceReset p => p.wf
  | .powerStatusGet p => p.wf
  | .healthGet p => p.wf
  | .ageingGet p => p.wf
  | .ringStatusGet p => p.wf
  | .ringCountersGet p => p.wf
  | .ringKindle p => p.wf
  | .ringStop p => p.wf
  | .ringNodesGet p => p.wf
  | .ringAddrSet p => p.wf
  | .schedBegin p => p.wf
  | .schedSegments p => p.wf
  | .schedKeepers p => p.wf
  | .schedClose p => p.wf
  | .schedSwitch p => p.wf
  | .schedAbort p => p.wf
  | .nodeEmptySet p => p.wf
  | .ringTimeGet p => p.wf
  | .ringNodeMail p => p.wf
  | .twinStatusGet p => p.wf
  | .twinConfigSet p => p.wf
  | .twinRoleSwap p => p.wf
  | .twinDetach p => p.wf
  | .twinJoin p => p.wf
  | .twinAxGet p => p.wf
  | .fbConfigSet p => p.wf
  | .fbConfigGet p => p.wf
  | .fbCalGet p => p.wf
  | .fbCalSet p => p.wf
  | .fbCalSave p => p.wf
  | .fbStatusGet p => p.wf
  | .fbIndexRefSet p => p.wf
  | .emuConfigSet p => p.wf
  | .emuStatusGet p => p.wf
  | .emuRestart p => p.wf
  | .servoBind p => p.wf
  | .servoConfigSet p => p.wf
  | .servoConfigGet p => p.wf
  | .motorSet p => p.wf
  | .motorGet p => p.wf
  | .motorSave p => p.wf
  | .psConfigSet p => p.wf
  | .psConfigGet p => p.wf
  | .vtSet p => p.wf
  | .servoStatusGet p => p.wf
  | .servoAlign p => p.wf
  | .motionConfigSet p => p.wf
  | .motionConfigGet p => p.wf
  | .moveAbs p => p.wf
  | .moveVel p => p.wf
  | .motionStop p => p.wf
  | .vmConfigSet p => p.wf
  | .vmPlantSet p => p.wf
  | .vmRamp p => p.wf
  | .followConfigSet p => p.wf
  | .followConfigGet p => p.wf
  | .followFactor p => p.wf
  | .camDefine p => p.wf
  | .camPoints p => p.wf
  | .camStart p => p.wf
  | .homeStart p => p.wf
  | .groupDefine p => p.wf
  | .groupMove p => p.wf
  | .groupStop p => p.wf
  | .stepBind p => p.wf
  | .stepConfigSet p => p.wf
  | .stepConfigGet p => p.wf
  | .motionStatusGet p => p.wf
  | .recConfigSet p => p.wf
  | .recConfigGet p => p.wf
  | .recStart p => p.wf
  | .recStop p => p.wf
  | .recTrigger p => p.wf
  | .recRead p => p.wf
  | .recStatusGet p => p.wf
  | .acqBwGet p => p.wf
  | .adcConfigSet p => p.wf
  | .adcCalSet p => p.wf
  | .adcStatusGet p => p.wf
  | .timeGet p => p.wf
  | .timeSet p => p.wf
  | .timeStep p => p.wf
  | .timeIncSet p => p.wf
  | .bellowsConfigSet p => p.wf
  | .bellowsFeed p => p.wf
  | .tinConfigSet p => p.wf
  | .tinCaptureGet p => p.wf
  | .toutConfigSet p => p.wf
  | .toutStop p => p.wf
  | .ptpConfigSet p => p.wf
  | .ptpBind p => p.wf
  | .ptpTx p => p.wf
  | .ptpTxtsGet p => p.wf
  | .fieldConfigSet p => p.wf
  | .fieldConfigGet p => p.wf
  | .fieldOutSet p => p.wf
  | .fieldOutClear p => p.wf
  | .fieldStatusGet p => p.wf
  | .fieldChStatusGet p => p.wf
  | .safeStatusGet p => p.wf
  | .safeConnStatusGet p => p.wf
  | .safeLogGet p => p.wf
  | .safeSetGet p => p.wf
  | .safeLogin p => p.wf
  | .safeLogout p => p.wf
  | .safePasswordSet p => p.wf
  | .safeConnSet p => p.wf
  | .safeAxisSet p => p.wf
  | .safeSignalSet p => p.wf
  | .safeZoneSet p => p.wf
  | .safeChannelSet p => p.wf
  | .safeCommit p => p.wf
  | .safeDiscard p => p.wf
  | .safeFuncReq p => p.wf
  | .updateBegin p => p.wf
  | .updateData p => p.wf
  | .updateVerify p => p.wf
  | .updateActivate p => p.wf
  | .updateConfirm p => p.wf
  | .updateAbort p => p.wf
  | .updateStatusGet p => p.wf
  | .fwInventoryGet p => p.wf
  | .sootRead p => p.wf
  | .sootStatusGet p => p.wf
  | .traceRead p => p.wf
  | .traceStatusGet p => p.wf
  | .loopProgWrite p => p.wf
  | .grateDescSet p => p.wf
  | .grateDescGet p => p.wf
  | .grateCounterSet p => p.wf
  | .grateArrivalSet p => p.wf
  | .gratePost p => p.wf
  | .grateMove p => p.wf
  | .grateTraceCfg p => p.wf
  | .grateStatusGet p => p.wf
  | .updateActivationTick => true
  | .updateReadyCheck => true
  | .updateConfirmTimeout => true
  | .updateFallbackTick => true
  | .powerOn => true
  | .resetNRecognised => true
  | .bootStart _ => true
  | .thermalTrip => true
  | .supplyTrip => true
  | .refclkLoss => true
  | .hmpWatchdog => true
  | .thermalWarn _ _ => true
  | .supplyWarn _ => true
  | .wakeEdge => true
  | .wakeTimer => true
  | .powerStateChangeDone => true
  | .domainSwitchDone _ => true
  | .ageingSlackSample m => m.wf
  | .ageingHour => true
  | .ageingDay => true
  | .ageingVraise => true
  | .ageingCoreWorn _ => true
  | .vcoreRewrite _ => true
  | .vraiseConfirm _ => true
  | .vraiseRetry => true
  | .pmbAlert => true
  | .sootWrite => true
  | .nodeIndexLatch _ _ _ _ _ => true
  | .nodeOvertemp _ _ _ _ => true
  | .nodeGateSupplyRecover _ _ _ => true
  | .emuEdge _ => true
  | .safAnswerTimeout _ => true
  | .hmpRestartDone => true
  | .flueLaneUp _ _ => true
  | .ethLinkDown _ => true

end Sys2Proof
end

